-- ==== Sys2Proof/Word.lean ====
section
/-! DEFINITION. The word types of the GC-816 and the plainest arithmetic on its counts.

A byte of a frame or a motion record (12, R200, R201) and a 12-bit sample (05, R83; 04, R74) are the only
things the manual treats as bits; every count, coordinate, limit and code is a `Nat`. -/

namespace Sys2Proof

/-- A byte of a frame or of a motion record (R200, R201). -/
abbrev Byte := BitVec 8

/-- A 12-bit sample, 0..4095, of the sensor head or of the monitor photodiode (R74, R83). -/
abbrev Sample := BitVec 12

/-- A set drawn from the six conditions of a tile, bit b for the b-th of OVER_LIMIT, UNDER_LIMIT, RUNG_LOST,
BANK_SWITCH, STALE_FLAT, TRUNCATED (R1, R154, R200). -/
abbrev Conds := BitVec 6

/-- The largest value of a 32-bit count, 4,294,967,295. -/
def maxU32 : Nat := 4294967295

/-- 4,294,967,296, the modulus of sequence, stamp and time-base arithmetic (R96, R150, R156, R194). -/
def modU32 : Nat := 4294967296

/-- An addition that stops at `cap` (the saturating counts of R71, R84, R133, R146, R167, R171, R175, R194). -/
def satAdd (cap a b : Nat) : Nat := min cap (a + b)

/-- `newest - back`, taken modulo 2^32 (R156). -/
def subU32 (a b : Nat) : Nat := (a + modU32 - b % modU32) % modU32

end Sys2Proof
end

