-- ==== Sys2Proof/Syntax.lean ====
section
/-! DEFINITION. The commands of the GC-816: one constructor per row of spec/opcode_table.json.

A request row (ENQUEUE_PLATE .. IDENTIFY) is the taking of the transfer at the head of the request intake (R190), so
its operands are the bytes that REQUEST_TRANSFER_ARRIVES has put there. RESET alone is taken as it arrives (R198). -/

namespace Sys2Proof

/-- One of the two lamp banks. -/
inductive BankId where
  | a
  | b
deriving DecidableEq, Repr

/-- What took the link down (R188, R199). -/
inductive LinkLoss where
  /-- A USB bus reset. -/
  | busReset
  /-- A detach. -/
  | detach
  /-- The host withdraws the configuration: the same effect as a bus reset (R188). -/
  | deconfigured
deriving DecidableEq, Repr

/-- One byte as it comes off the motion line, with whether it carried a framing error (R201). -/
structure RxByte where
  byte : Byte
  framingError : Bool
deriving DecidableEq, Repr

/-- The commands, in the order of the table. -/
inductive Instr where
  /-- POWER_ON (R197). -/
  | powerOn
  /-- RESET (R198): a RESET transfer of 6 bytes arrives, with its tag and its (unread) flags byte. -/
  | reset (tag flags : Byte)
  /-- LINK_RESET (R199). -/
  | linkReset (cause : LinkLoss)
  /-- ATTACH (R188). -/
  | attach
  /-- CONFIGURE (R188). -/
  | configure
  /-- REQUEST_TRANSFER_ARRIVES (R190): the bytes of one transfer on the request pipe. -/
  | requestTransferArrives (transfer : List Byte)
  /-- UNRECOGNISED_REQUEST (R189). -/
  | unrecognisedRequest
  | enqueuePlate
  | cancelPlate
  | readQueue
  | readHistory
  | startQueue
  | stopQueue
  | pause
  | resume
  | clearHalt
  | readPass
  | lampReset
  | readLamps
  | readIntake
  | readConverter
  | calibrate
  | readCalibration
  | home
  | readMotion
  | setZone
  | clearZone
  | readZones
  | readTileRecord
  | readLogState
  | readHistogram
  | readCounters
  | setFaultControl
  | clearFault
  | injectFault
  | lockInjection
  | readFaults
  | setParam
  | getParam
  | setTime
  | readTime
  | identify
  /-- ANSWER_SENDER_CHOOSE (R163). -/
  | answerSenderChoose
  /-- ANSWER_FRAME_TAKEN (R163). -/
  | answerFrameTaken
  /-- IMAGE_SENDER_TAKE (R151). -/
  | imageSenderTake
  /-- IMAGE_FRAME_TAKEN (R152). -/
  | imageFrameTaken
  /-- JOB_START (R12). -/
  | jobStart
  /-- MOTION_REPORT (R135, R201): the next bytes of a record off the motion line, a whole record of 10 or a part of one. -/
  | motionReport (rx : List RxByte)
  /-- MOVE_LIMIT_EXPIRY (R137). -/
  | moveLimitExpiry
  /-- HANDLER_LIMIT_EXPIRY (R138). -/
  | handlerLimitExpiry
  /-- STOP_LIMIT_EXPIRY (R136). -/
  | stopLimitExpiry
  /-- ORDER_ISSUE (R134). -/
  | orderIssue
  /-- PLATE_PRESENT_CHANGE (R143): the level the line changes to. -/
  | platePresentChange (present : Bool)
  /-- FAULT_INPUT_ASSERT (R77, R78). -/
  | faultInputAssert (bank : BankId)
  /-- FAULT_INPUT_CLEAR (R77). -/
  | faultInputClear (bank : BankId)
  /-- MONITOR_SAMPLE (R74): the photodiode's reading. -/
  | monitorSample (reading : Sample)
  /-- EXPOSURE_TIMER_END (R73). -/
  | exposureTimerEnd
  /-- FRAME_START (R86, R87). -/
  | frameStart
  /-- FRAME_LINE (R86): the samples of one line, 16 reference samples first. -/
  | frameLine (samples : List Sample)
  /-- FRAME_END (R88). -/
  | frameEnd
  /-- FRAME_DEADLINE (R89). -/
  | frameDeadline
  /-- ATTEMPT_START (R54): with the monitor sample taken at the exposure's start (R72, R74). -/
  | attemptStart (reading : Sample)
  /-- PLANE_CLAIM (R30). -/
  | planeClaim
  /-- MERGE_BEGIN (R98). -/
  | mergeBegin
  /-- MERGE_END (R98). -/
  | mergeEnd
  /-- CONVERTER_CLAIM (R102). -/
  | converterClaim
  /-- CONVERSION_END (R115). -/
  | conversionEnd
  /-- CAL_ATTEMPT_START (R123): with the monitor sample taken at the exposure's start (R72, R74). -/
  | calAttemptStart (reading : Sample)
  /-- TAKE_IN_BEGIN (R124). -/
  | takeInBegin
  /-- TAKE_IN_END (R124, R125). -/
  | takeInEnd
  /-- BUDGET_EXPIRY (R36, R37). -/
  | budgetExpiry
  /-- TIME_WRAP (R194). -/
  | timeWrap
  /-- FAULT_TAKEN (R177, R178): which of the faults raised and not yet taken is taken now, 0 the one raised first. The numbers past
  the last one's go on to the faults still to be raised that the pass controller acts on: the one it means is recorded before its action
  (log 68). -/
  | faultTaken (which : Nat)
  /-- HALT_ESCALATION (R45, R181). With none waiting it says of the last fault that a FAULT_TAKEN let be recorded before its action
  that its escalation comes before that action too (log 68). -/
  | haltEscalation
deriving DecidableEq, Repr

end Sys2Proof
end

