-- ==== Sys2Proof/WellFormed.lean ====
section
/-! DEFINITION. Which commands are well formed: MOTION_REPORT carries 1 to 10 bytes, a record of the line or a part of one (R201). Every
other operand is a value of its type, and every value of its type is one the rules speak of. -/

namespace Sys2Proof

/-- The bytes of one MOTION_REPORT: at least one, at most a whole record. -/
def reportBytesOk (rx : List RxByte) : Bool := decide (1 ≤ rx.length ∧ rx.length ≤ 10)

def Instr.wellFormed : Instr → Bool
  | .motionReport rx => reportBytesOk rx
  | _ => true

end Sys2Proof
end

