-- ==== Sys2Proof/Decode.lean ====
section
/-! DEFINITION. The command that a word of spec/opcode_table.json spells. The table gives no row any bits, so no word spells a
command; commands come by the queue alone (log 41). -/

namespace Sys2Proof

/-- None, for every word: the table has no bits (log 41). -/
def decodeTableWord (_nbits _w : Nat) : Option Instr := none

end Sys2Proof
end

