-- ==== Sys2Proof/Config.lean ====
section
/-! DEFINITION. What an implementation fixes, what the manual leaves free, and the capacities of 00.

An `opaque` constant has no body: nothing proved of the model can lean on its value. -/

namespace Sys2Proof.Config

/-- The part's revision number, 0..255, "fixed for each part" and not given by the manual (R196). A free value (log 23). -/
opaque revision : Byte

/-- Which fault still on its way to the fault unit it records before a job's end, in race number `n`: 0 for none of them,
k + 1 for number k of those raised, counted from 0, and none as well where there is no number k. The manual lets a fault's
recording and the job's end come in either order, and of two faults either be recorded first (R177, R182). A free value
(log 7). -/
opaque faultTakenBeforeEnd : Nat → Nat

/-- How many pixels the density converter converts in clock interval `n`. The manual does not fix the time a conversion takes (R103).
A free value (log 21). -/
opaque converterPixels : Nat → Nat

/-! ### Capacities (00, "Capacities"; R196) -/

def queueCap : Nat := 16
def historyCap : Nat := 8
def slotCount : Nat := 24
def frameSlots : Nat := 2
def mergePlanes : Nat := 2
def tileBuffers : Nat := 4
def logCap : Nat := 256
def zoneEntries : Nat := 8
def faultKinds : Nat := 16
def stationCounters : Nat := 16
def intakeCap : Nat := 4
def replyCap : Nat := 4
def noticeCap : Nat := 32
def frameMax : Nat := 1024

/-- The far end of stage travel on each axis, in µm. -/
def travelMax : Nat := 400000

/-- Active columns and lines of the sensor head, reference samples of a line, samples of a line (R83). -/
def sensorCols : Nat := 4096
def sensorLines : Nat := 3072
def refSamples : Nat := 16
def lineSamples : Nat := 4112

/-- The longest rung exposure, in µs (R50). -/
def rungMax : Nat := 8000000

end Sys2Proof.Config
end

