-- ==== Sys2Proof/Machine/State.lean ====
section
/-! DEFINITION. The state of the GC-816, as plain data, and its value after power-on.

The types stand in the order of the chapters; each names the rule of spec/ that gives it. Fields marked "model" are
not in the spec's tables: they hold what the rules leave between two of the table's steps (log entries say which). -/

namespace Sys2Proof.Machine

open Sys2Proof

/-! ### Names with codes (the order of the constructors is the order of the owning table, R200) -/

/-- The sixteen fault kinds, in the order of the kinds table (11.1). -/
inductive FaultKind where
  | lampDrift
  | frameShort
  | frameTimeout
  | moveRetry
  | bankFault
  | rungLost
  | staleFlat
  | budgetExpired
  | slotEmpty
  | guardTile
  | tableOccupied
  | noLight
  | moveTimeout
  | positionerHalt
  | handlerTimeout
  | plateSense
deriving DecidableEq, Repr

/-- The severity of a fault kind, and the class of a recorded fault (R175, R178). -/
inductive Severity where
  | corrected
  | degraded
  | fatal
deriving DecidableEq, Repr

/-- The sixteen station counters, in number order (R170). -/
inductive CounterId where
  | platesDone
  | platesFailed
  | tilesCaptured
  | tilesAttention
  | tilesSkipped
  | tilesNotCaptured
  | rungsMerged
  | rungRetries
  | rungsLost
  | ladderRestarts
  | ladderCuts
  | ladderExtensions
  | moveRetries
  | pixelsOver
  | pixelsUnder
  | pixelsDefect
deriving DecidableEq, Repr

inductive RunState where
  | stopped
  | running
  | stopping
deriving DecidableEq, Repr

/-- Pass states (R20). -/
inductive PassState where
  | idle
  | preparing
  | loading
  | walking
  | paused
  | returning
  | finishing
  | halted
deriving DecidableEq, Repr

/-- Where the pass believes the plate is (R20). -/
inductive PlateState where
  | notLoaded
  | onTable
  | returned
  | left
deriving DecidableEq, Repr

inductive TilePhase where
  | deciding
  | moving
  | waitPlane
  | ladder
deriving DecidableEq, Repr

inductive BudgetState where
  | absent
  | waiting
  | running
  | suspended
  | stopped
  | expired
deriving DecidableEq, Repr

inductive ResumePoint where
  | nextTile
  | return
deriving DecidableEq, Repr

/-- The outcome mark (R20). -/
inductive Mark where
  | cancelled
  | overtime
  | failed
  | slotEmpty
  | noBank
deriving DecidableEq, Repr

/-- The outcomes of a job (R15). -/
inductive JobOutcome where
  | done
  | doneDegraded
  | cancelled
  | overtime
  | failed
  | slotEmpty
  | noBank
deriving DecidableEq, Repr

/-- Why a ladder takes no further attempt (R52, R68). -/
inductive Stopping where
  | no
  | expired
  | cancelled
  | halted
  | fatal
deriving DecidableEq, Repr

inductive RungOutcome where
  | merged
  | lost
deriving DecidableEq, Repr

inductive TileStatus where
  | captured
  | skipped
  | guarded
  | notCaptured
deriving DecidableEq, Repr

inductive Walk where
  | raster
  | serpentine
deriving DecidableEq, Repr

inductive RetryBank where
  | same
  | alternate
deriving DecidableEq, Repr

inductive BankPref where
  | aOnly
  | bOnly
  | aFirst
  | bFirst
deriving DecidableEq, Repr

inductive Health where
  | ready
  | failed
deriving DecidableEq, Repr

/-- The purpose of an exposure (R71). -/
inductive Purpose where
  | rung
  | calibration
deriving DecidableEq, Repr

inductive Verdict where
  | held
  | drift
  | notJudged
deriving DecidableEq, Repr

/-- The verdict on a frame (R84). -/
inductive FrameVerdict where
  | valid
  | frameShort
  | frameTimeout
  | discarded
deriving DecidableEq, Repr

/-- States of a frame slot that is not FREE (R84). -/
inductive SlotState where
  | filling
  | valid
  | merging
deriving DecidableEq, Repr

/-- The block that claimed a slot (R84). -/
inductive Taker where
  | ladder
  | calibration
deriving DecidableEq, Repr

inductive Reception where
  | notStarted
  | receiving
  | ended
deriving DecidableEq, Repr

inductive SlotId where
  | s1
  | s2
deriving DecidableEq, Repr

inductive PlaneId where
  | p1
  | p2
deriving DecidableEq, Repr

inductive BufId where
  | t1
  | t2
  | t3
  | t4
deriving DecidableEq, Repr

/-- States of a merge plane that is not FREE (R95). -/
inductive PlaneState where
  | filling
  | full
  | converting
deriving DecidableEq, Repr

/-- States of a tile buffer that is not FREE (R150). -/
inductive BufState where
  | converting
  | ready
  | sending
deriving DecidableEq, Repr

/-- The class of a converted pixel, in the row word's code order (R105, R200). -/
inductive PixClass where
  | normal
  /-- OVER. -/
  | overexp
  /-- UNDER. -/
  | underexp
  | defect
deriving DecidableEq, Repr

inductive Validity where
  | valid
  | invalid
deriving DecidableEq, Repr

inductive CalPhase where
  | homing
  | positioning
  | capturing
  | closing
deriving DecidableEq, Repr

/-- The reasons a calibration fails for, in the order of R126. -/
inductive CalFailure where
  | motion
  | platePresent
  | bankFault
  | frames
  | halted
  | clipped
  | dark
deriving DecidableEq, Repr

/-- The end of a HOME request (R141). -/
inductive HomeResult where
  | success
  | motion
  | halted
deriving DecidableEq, Repr

/-- Orders that may be outstanding (R133); a STOP is held apart. -/
inductive OrderKind where
  | move
  | home
  | load
  | ret
deriving DecidableEq, Repr

inductive Requester where
  | pass
  | calibration
  | homeRequest
deriving DecidableEq, Repr

inductive ReportKind where
  | done
  | empty
  | halted
  | stopped
deriving DecidableEq, Repr

inductive Expectation where
  | none
  | present
deriving DecidableEq, Repr

inductive ZoneKind where
  | skip
  | guard
deriving DecidableEq, Repr

inductive HistState where
  | none
  | opened
  | frozen
deriving DecidableEq, Repr

/-- A counter's half or full mark (R165). -/
inductive CountMark where
  | armed
  | fired
deriving DecidableEq, Repr

inductive LinkState where
  | detached
  | attached
  | configured
deriving DecidableEq, Repr

inductive ResetCause where
  | powerOn
  | soft
deriving DecidableEq, Repr

/-- What a recording did to the slot of its class (R180). -/
inductive SlotEffect where
  | filled
  | more
  | none
deriving DecidableEq, Repr

/-- The parameters, in the order of the table of 12.4. -/
inductive ParamId where
  | clipLevel
  | signalFloor
  | driftTol
  | frameGrace
  | moveLimit
  | handlerLimit
  | flatAgeLimit
  | lampLevelA
  | lampLevelB
  | calX
  | calY
  | timeRes
  | notifyCorrected
  | notifyDegraded
  | notifyFatal
  | counterNotify
deriving DecidableEq, Repr

/-! ### Chapter 1: plate jobs and the plate queue -/

/-- A rectangle of sensor pixels (R4). -/
structure Window where
  x0 : Nat
  y0 : Nat
  w : Nat
  h : Nat
deriving DecidableEq, Repr

/-- The job record as taken, clamped and completed (R1, R2, R7). -/
structure JobRecord where
  plateId : List Byte
  slot : Nat
  formatClass : Nat
  rows : Nat
  cols : Nat
  originX : Nat
  originY : Nat
  stepX : Nat
  stepY : Nat
  fieldX : Nat
  fieldY : Nat
  walk : Walk
  firstRung : Nat
  lastRung : Nat
  maxExtensions : Nat
  underLimit : Nat
  overLimit : Nat
  retryCount : Nat
  retryBank1 : RetryBank
  retryBank2 : RetryBank
  bankPref : BankPref
  /-- Absent when omitted and when given as 0 (R2). -/
  budgetS : Option Nat
  attention : Conds
  attentionDefaulted : Bool
  stopOnAttention : Bool
  notifyQuiet : Bool
  window : Window
  windowDefaulted : Bool
  useZones : Bool
deriving DecidableEq, Repr

/-- A job in the plate queue (R9); `active` is ACTIVE, otherwise QUEUED. -/
structure QueueJob where
  number : Nat
  record : JobRecord
  active : Bool
  accepted : Nat
  started : Option Nat
deriving DecidableEq, Repr

/-- A set of banks (R20, R130). -/
structure BankSet where
  a : Bool
  b : Bool
deriving DecidableEq, Repr

/-- The counts of a job's tile records by status, and of its CAPTURED records with attention (R16, R21). -/
structure RecordCounts where
  captured : Nat
  skipped : Nat
  guarded : Nat
  notCaptured : Nat
  attention : Nat
deriving DecidableEq, Repr

/-- A job history entry, and the content of PLATE-DONE (R16). -/
structure HistoryEntry where
  number : Nat
  plateId : List Byte
  slot : Nat
  outcome : JobOutcome
  counts : RecordCounts
  banksUsed : BankSet
  stale : Bool
  started : Option Nat
  ended : Nat
  firstFault : Option FaultKind
deriving DecidableEq, Repr

/-- The plate queue (R8, R9, R10, R16). -/
structure PlateQueue where
  jobs : List QueueJob
  run : RunState
  next : Nat
  history : List HistoryEntry
deriving DecidableEq, Repr

/-! ### Chapter 2: the capture pass -/

/-- The ACTIVE job's number and record, with the time tag of its start (R12, R20). -/
structure JobInHand where
  number : Nat
  record : JobRecord
  started : Nat
deriving DecidableEq, Repr

/-- The bank in use with its top rung and effective ladder (R20, R51). -/
structure BankInUse where
  bank : BankId
  top : Nat
  first : Nat
  last : Nat
deriving DecidableEq, Repr

/-- The tile in hand (R20). -/
structure Tile where
  row : Nat
  col : Nat
  ordinal : Nat
  phase : TilePhase
  /-- The time tag at which it was taken into hand (R155). -/
  started : Nat
  /-- Model (log 12): its MOVE is done and its plane is still to be claimed. -/
  moveDone : Bool
  /-- The merge plane it holds (R21). -/
  plane : Option PlaneId
deriving DecidableEq, Repr

/-- The plate budget (R36): state, milliseconds remaining, and (model) microseconds of the present millisecond gone. -/
structure Budget where
  state : BudgetState
  remaining : Nat
  subUs : Nat
deriving DecidableEq, Repr

/-- Model: how far PREPARING or RETURNING has come with its orders (R22, R25, R33). -/
inductive PassStep where
  | none
  | waiting
  | homing
  | moving
  | handling
deriving DecidableEq, Repr

/-- Model (log 14, 15): where the pass goes when the tile in hand has been settled NOT_CAPTURED. -/
inductive SettleTo where
  /-- A boundary (budget expiry, R37). -/
  | boundary
  /-- RETURNING, without a boundary's pause (cancel, NO_LIGHT; R42, R44). -/
  | returning
  /-- Nowhere: the pass has already gone on, or is HALTED (R44, R46, R47). -/
  | inPlace
  /-- Held in hand by a halt until CLEAR-HALT or a kind action (R45). -/
  | held
deriving DecidableEq, Repr

/-- The pass controller (R20). Positioner-unsure stands in `Motion`. -/
structure Pass where
  state : PassState
  job : Option JobInHand
  plate : PlateState
  loadIssued : Bool
  bank : Option BankInUse
  banksUsed : BankSet
  walkPos : Nat
  tile : Option Tile
  handedOver : Nat
  budget : Budget
  pausePending : Bool
  cancelPending : Bool
  resumePoint : Option ResumePoint
  mark : Option Mark
  /-- The job's stale flag (R16, R130). -/
  stale : Bool
  /-- The job's tile records so far (R21). -/
  counts : RecordCounts
  /-- Model. -/
  step : PassStep
  /-- Model. -/
  settle : Option SettleTo
deriving DecidableEq, Repr

/-! ### Chapter 3: the ladder in hand -/

/-- An entry of a rung list (R69). -/
structure RungEntry where
  rung : Nat
  outcome : RungOutcome
  attempts : Nat
  started : Nat
deriving DecidableEq, Repr

/-- States of a frame in flight (R52). -/
inductive FlightState where
  | awaited
  | valid
  | merging
deriving DecidableEq, Repr

/-- A frame in flight (R52): its slot, rung, attempt, state and the time tag of its exposure's start. -/
structure Flight where
  slot : SlotId
  rung : Nat
  attempt : Nat
  state : FlightState
  started : Nat
deriving DecidableEq, Repr

/-- The ladder sequencer's state (R52). -/
structure Ladder where
  bank : BankId
  effFirst : Nat
  effLast : Nat
  top : Nat
  currentLast : Nat
  allowed : Nat
  /-- The rung being exposed or read, and its attempt. -/
  current : Option (Nat × Nat)
  /-- Model: the attempt that is due and has not started (R54). -/
  due : Option (Nat × Nat)
  inFlight : List Flight
  rungList : List RungEntry
  restarts : Nat
  policyUsed : Bool
  extensions : Nat
  cut : Bool
  conds : Conds
  c : Nat
  l : Nat
  stopping : Stopping
  /-- Model: an attempt has started since the ladder's start or last restart (R64). -/
  begun : Bool
  /-- Model (log 19): a restart waits for the merge in progress to end (R60, step 2); yes for a policy switch. -/
  restartPending : Option Bool
deriving DecidableEq, Repr

/-- The ladder fields handed on with the tile (R67), with the bank's top rung for the tile's record (R51; log 63). -/
structure LadderFields where
  bank : BankId
  effFirst : Nat
  effLast : Nat
  top : Nat
  rungList : List RungEntry
  restarts : Nat
  extensions : Nat
  cut : Bool
  conds : Conds
deriving DecidableEq, Repr

/-! ### Chapter 4: the lamp unit -/

/-- A bank's last change to FAILED (R71). -/
structure LastFailure where
  tag : Nat
  lit : Bool
deriving DecidableEq, Repr

/-- The monitor result of the last exposure that ended on a bank (R71). -/
structure LastReading where
  exposure : Nat
  purpose : Purpose
  samples : Nat
  mean : Nat
  mref : Option Nat
  verdict : Verdict
deriving DecidableEq, Repr

/-- One lamp bank (R71). Its drive level is its parameter (R71, R79). -/
structure Bank where
  health : Health
  lit : Bool
  faultInput : Bool
  failures : Nat
  lastFailure : Option LastFailure
  lastReading : Option LastReading
deriving DecidableEq, Repr

/-- The exposure record (R71); `startAt` is the start on the part's internal time. -/
structure Exposure where
  bank : BankId
  purpose : Purpose
  exposure : Nat
  startTag : Nat
  startAt : Nat
  driftTol : Nat
  sum : Nat
  count : Nat
deriving DecidableEq, Repr

/-- The lamp unit (R71). `line` is the exposure line: absent when low, else the internal time at which it falls (R72, R76). -/
structure Lamps where
  a : Bank
  b : Bank
  exposure : Option Exposure
  line : Option Nat
deriving DecidableEq, Repr

/-! ### Chapter 5: the frame intake and the merge engine -/

/-- A frame slot that is not FREE (R84). -/
structure Slot where
  state : SlotState
  taker : Taker
  /-- Rung and attempt, for LADDER. -/
  rung : Nat
  attempt : Nat
  discard : Bool
  exposureEnd : Nat
  deadline : Nat
  reception : Reception
  lines : Nat
  shortSeen : Bool
  refSum : Nat
  clipped : Nat
  /-- The reference mean B, for VALID and MERGING. -/
  b : Nat
  window : Window
  c : Nat
  /-- The active samples of the lines received, line 0 first. -/
  pixels : List (List Sample)
  /-- The monitor mean of a calibration frame, once it is VALID (R124). -/
  m : Nat
deriving DecidableEq, Repr

/-- The last frame record (R84). `figures` is B and the clipped count of a valid frame; the clipped count of a CALIBRATION
frame, which R86 says is not kept, stands as 0 (log 50). -/
structure LastFrame where
  taker : Taker
  rung : Option (Nat × Nat)
  lines : Nat
  figures : Option (Nat × Nat)
  verdict : FrameVerdict
  tag : Nat
deriving DecidableEq, Repr

/-- Model: what the pixel link is sending (R83, R87, R89). -/
inductive LinkRx where
  | idle
  | receiving (slot : SlotId)
  /-- A stray, or the remainder of a frame given up by FRAME_TIMEOUT or a soft reset: it is discarded to its end, which
  changes nothing more (R84, R87, R89). -/
  | discarding
  /-- A frame whose discard-marked slot was released at its deadline: when it ends it is a stray (R90). -/
  | released
deriving DecidableEq, Repr

/-- The frame intake (R84). -/
structure Intake where
  s1 : Option Slot
  s2 : Option Slot
  discarded : Nat
  last : Option LastFrame
  /-- Model. -/
  rx : LinkRx
  /-- The VALID slots in the order the intake validated them (R98, R124). -/
  validOrder : List SlotId
deriving DecidableEq, Repr

/-- A merge record (R95). -/
inductive MergeRec where
  | none
  | clipped
  | under
  | valid (rung signal : Nat)
deriving DecidableEq, Repr

/-- The class counts of a plane (R95). -/
structure ClassCounts where
  nNone : Nat
  nClipped : Nat
  nUnder : Nat
  nValid : Nat
deriving DecidableEq, Repr

/-- The tile a plane serves, with its job's record and the time tag at which the tile was taken into hand (R95, R155). -/
structure Owner where
  number : Nat
  record : JobRecord
  row : Nat
  col : Nat
  ordinal : Nat
  started : Nat
deriving DecidableEq, Repr

/-- A merge plane that is not FREE (R95). -/
structure Plane where
  state : PlaneState
  owner : Owner
  window : Window
  c : Nat
  l : Nat
  recs : List (List MergeRec)
  counts : ClassCounts
  merges : Nat
  stamp : Option Nat
  ladder : Option LadderFields
deriving DecidableEq, Repr

/-- The merge planes and the last full stamp given (R95, R96). -/
structure Merge where
  p1 : Option Plane
  p2 : Option Plane
  lastStamp : Nat
deriving DecidableEq, Repr

/-! ### Chapter 6: the density converter -/

/-- A converted pixel: density code and class (R110). -/
structure PixOut where
  code : Nat
  cls : PixClass
deriving DecidableEq, Repr

/-- The running counts and figures of a conversion (R101, R111, R112). -/
structure ConvFigures where
  nNormal : Nat
  nOver : Nat
  nUnder : Nat
  nDefect : Nat
  sum : Nat
  min : Option Nat
  max : Option Nat
  bins : List Nat
deriving DecidableEq, Repr

/-- A conversion in progress (R101); the converter is IDLE when there is none. -/
structure Conversion where
  plane : PlaneId
  buffer : BufId
  owner : Owner
  bank : BankId
  window : Window
  l : Nat
  rowsDone : Nat
  figures : ConvFigures
  /-- The code of the pixel last written in the row being converted, which the next one takes where it is DEFECT (R109); absent at
  the start of each row. -/
  lastCode : Option Nat
deriving DecidableEq, Repr

/-! ### Chapter 7: calibration -/

/-- A flat record (R119). Its validity stands in `Flat`. -/
structure FlatRecord where
  bank : BankId
  eFlat : Nat
  top : Nat
  frames : Nat
  retakes : Nat
  bf : Nat
  mref : Nat
  driveLevel : Nat
  clipLevel : Nat
  floor : Nat
  clipMarked : Nat
  dark : Nat
  tag : Nat
  age : Nat
deriving DecidableEq, Repr

/-- The flat plane, the clip marks and the flat record of a captured flat (R118). -/
structure FlatData where
  f : List (List Nat)
  clip : List (List Bool)
  record : FlatRecord
deriving DecidableEq, Repr

/-- A bank's flat: its validity, and its data when a calibration has made one (R118). -/
structure Flat where
  validity : Validity
  data : Option FlatData
deriving DecidableEq, Repr

/-- The calibration in progress (R121). -/
structure Calibration where
  phase : CalPhase
  bank : BankId
  eFlat : Nat
  n : Nat
  clipLevel : Nat
  floor : Nat
  calX : Nat
  calY : Nat
  driveLevel : Nat
  frameIndex : Nat
  attempt : Nat
  retakes : Nat
  takenIn : Nat
  sums : List (List Nat)
  marks : List (List Bool)
  sumB : Nat
  sumM : Nat
  pendingM : Option Nat
  failure : Option CalFailure
  /-- Model: an attempt is due and has not started (R123). -/
  due : Bool
deriving DecidableEq, Repr

/-- The calibration store (R118, R121, R130). -/
structure CalStore where
  flatA : Flat
  flatB : Flat
  cal : Option Calibration
  staleSet : BankSet
  raisedSet : BankSet
deriving DecidableEq, Repr

/-! ### Chapter 8: motion and zones -/

/-- An order a requester wants (R134): kind, arguments (x and y, or the slot first), requester. -/
structure Wanted where
  kind : OrderKind
  arg1 : Nat
  arg2 : Nat
  requester : Requester
deriving DecidableEq, Repr

/-- The outstanding order (R133). -/
structure Order where
  kind : OrderKind
  number : Nat
  arg1 : Nat
  arg2 : Nat
  requester : Requester
  /-- Latched limit, in seconds. -/
  limit : Nat
  issuedAt : Nat
  retried : Bool
  /-- Its first issue has timed out and the STOP sent for that is outstanding: its number is no longer live (R136, R137). -/
  awaitingReissue : Bool
  /-- The position found before its issue, restored at the end of a LOAD or RETURN (R135). -/
  savedPosition : Option (Nat × Nat)
deriving DecidableEq, Repr

/-- The outstanding STOP (R133). -/
structure StopOrder where
  number : Nat
  limit : Nat
  issuedAt : Nat
  reissue : Bool
deriving DecidableEq, Repr

/-- The last report taken (R133, R135). -/
structure LastReport where
  kind : ReportKind
  number : Nat
  tag : Nat
  matched : Bool
deriving DecidableEq, Repr

/-- The motion port (R133). -/
structure Motion where
  nextNumber : Nat
  order : Option Order
  stop : Option StopOrder
  unsure : Bool
  position : Option (Nat × Nat)
  expect : Expectation
  discarded : Nat
  last : Option LastReport
  /-- A HOME request is in progress (R141). -/
  homeRequest : Bool
  /-- Model: the order that waits for an order or STOP to end (R134). -/
  waiting : Option Wanted
  /-- The record being assembled from the line, its bytes so far from the start byte on (R201). -/
  rxBytes : List Byte
  /-- One of them carried a framing error. -/
  rxError : Bool
  /-- Model (log 34): the records sent on the line since power-on, oldest first (R201). -/
  sent : List (List Byte)
deriving DecidableEq, Repr

/-- A zone table entry (R146). -/
structure Zone where
  enabled : Bool
  kind : ZoneKind
  x0 : Nat
  y0 : Nat
  x1 : Nat
  y1 : Nat
  classes : BitVec 8
  hits : Nat
deriving DecidableEq, Repr

/-! ### Chapter 9: output -/

/-- The conversion figures a CAPTURED record carries (R154). -/
structure RecordConv where
  nNormal : Nat
  nOver : Nat
  nUnder : Nat
  nDefect : Nat
  /-- Minimum, maximum and mean code, with normal above 0. -/
  stats : Option (Nat × Nat × Nat)
  w : Nat
  h : Nat
deriving DecidableEq, Repr

/-- The ladder fields of a tile record (R154): the conditions have a field of their own there, and those that the ladder of
a tile NOT_CAPTURED had gathered are not kept. The record carries the top rung and the effective ladder of its bank (R51); R67's list of
what is handed on and R154's table do not name the top rung, and its place in the record is the model's choice (log 63). -/
structure RecordLadder where
  bank : BankId
  effFirst : Nat
  effLast : Nat
  top : Nat
  rungList : List RungEntry
  restarts : Nat
  extensions : Nat
  cut : Bool
deriving DecidableEq, Repr

/-- A tile record (R154). Its conditions are present in a CAPTURED record alone. -/
structure TileRecord where
  sequence : Nat
  number : Nat
  plateId : List Byte
  row : Nat
  col : Nat
  ordinal : Nat
  status : TileStatus
  attention : Bool
  conds : Option Conds
  ladder : Option RecordLadder
  conv : Option RecordConv
  started : Nat
  ended : Nat
deriving DecidableEq, Repr

/-- The label of a tile buffer (R150). -/
structure BufLabel where
  number : Nat
  sequence : Nat
  row : Nat
  col : Nat
  w : Nat
  h : Nat
deriving DecidableEq, Repr

/-- A tile buffer that is not FREE (R150). -/
structure Buf where
  state : BufState
  label : Option BufLabel
  stamp : Option Nat
  rows : List (List PixOut)
  /-- The TILE-HEADER of the present sending has been taken. -/
  headerTaken : Bool
  rowsTaken : Nat
deriving DecidableEq, Repr

/-- The output unit: buffers, the last conversion-end stamp, and the tile log (R150, R156).
Held and unread are the lengths R156 makes of these. -/
structure Output where
  t1 : Option Buf
  t2 : Option Buf
  t3 : Option Buf
  t4 : Option Buf
  lastStamp : Nat
  records : List TileRecord
  newest : Nat
  readMark : Nat
deriving DecidableEq, Repr

/-! ### Chapter 10: statistics -/

structure Counter where
  value : Nat
  half : CountMark
  full : CountMark
deriving DecidableEq, Repr

/-- The statistics unit (R165). -/
structure Stats where
  histState : HistState
  histJob : Option (Nat × List Byte)
  bins : List Nat
  nOver : Nat
  nUnder : Nat
  nDefect : Nat
  tilesAdded : Nat
  counters : List Counter
  lastCleared : Nat
deriving DecidableEq, Repr

/-! ### Chapter 11: faults -/

/-- The fields of a context a raising block fills (R177). The attempt stands with the rung: R70 shows both in the
first-fault slots (log 47). -/
structure Ctx where
  job : Option (Nat × List Byte)
  tile : Option (Nat × Nat)
  /-- Rung and attempt. -/
  rung : Option (Nat × Nat)
  bank : Option BankId
deriving DecidableEq, Repr

/-- The context a recording keeps (R177). -/
structure Context where
  fields : Ctx
  tag : Nat
  injected : Bool
deriving DecidableEq, Repr

/-- A fault raised and not yet taken by the fault unit (R177; log 7). -/
structure Raised where
  kind : FaultKind
  ctx : Ctx
deriving DecidableEq, Repr

/-- The state of one kind (R175). -/
structure KindState where
  seen : Bool
  count : Nat
  masked : Bool
  severity : Severity
deriving DecidableEq, Repr

/-- A full first-fault slot (R179); `firstFatal` is meant for the SERIOUS slot. -/
structure FaultSlot where
  kind : FaultKind
  ctx : Context
  more : Bool
  firstFatal : Bool
deriving DecidableEq, Repr

/-- A fault's action and its escalation reach the pass controller in either order (R46, R177), and its recording, which escalates, comes
apart from both. This says which of them the sender has let come before the action of one fault that the pass controller acts
on: neither, the recording, or the recording and then the escalation (log 68). -/
inductive Ahead where
  | no
  | recorded
  | halted
deriving DecidableEq, Repr

/-- The fault unit (R175). -/
structure Faults where
  kinds : List KindState
  corrected : Option FaultSlot
  serious : Option FaultSlot
  locked : Bool
  jobMark : Option FaultKind
  /-- Model: faults raised and not yet taken (R177). -/
  raised : List Raised
  /-- Model: escalations made and not yet taken by the pass controller, with the injected flag (R181). -/
  escalations : List (FaultKind × Bool)
  /-- Model: what comes before the pass controller's actions for the faults to come that have one, the next fault's first; nothing where
  the list has ended (log 68). -/
  ahead : List Ahead
deriving DecidableEq, Repr

/-! ### Chapter 12: parameters and the time base -/

/-- The parameters (12.4). Bit i of `counterNotify` is the flag of counter i + 1. -/
structure Params where
  clipLevel : Nat
  signalFloor : Nat
  driftTol : Nat
  frameGrace : Nat
  moveLimit : Nat
  handlerLimit : Nat
  flatAgeLimit : Nat
  lampLevelA : Nat
  lampLevelB : Nat
  calX : Nat
  calY : Nat
  timeRes : Nat
  notifyCorrected : Bool
  notifyDegraded : Bool
  notifyFatal : Bool
  counterNotify : BitVec 16
deriving DecidableEq, Repr

/-- The time base (R194): its resolution is TIME_RES; `elapsed` is the part of a count interval gone, in µs. -/
structure TimeBase where
  count : Nat
  wraps : Nat
  elapsed : Nat
deriving DecidableEq, Repr

/-! ### Notices and replies (9.8, 12.3) -/

/-- The end of a calibration as OPERATION-DONE carries it (R127); `none` is SUCCESS. -/
structure CalDone where
  bank : BankId
  eFlat : Nat
  n : Nat
  failure : Option CalFailure
  takenIn : Nat
  retakes : Nat
  /-- For FRAMES, the frame index. -/
  frameIndex : Option Nat
  /-- For CLIPPED, DARK and SUCCESS, the clip-marked count and the dark count. -/
  judged : Option (Nat × Nat)
  /-- For SUCCESS, Bf, Mref and the top rung. -/
  made : Option (Nat × Nat × Nat)
  tag : Nat
deriving DecidableEq, Repr

/-- The notices (9.8). -/
inductive Notice where
  /-- R25. -/
  | plateStart (job : Nat) (plateId : List Byte) (slot tiles : Nat) (walk : Walk) (bank : BankId)
      (top first last : Nat) (stale : Bool) (budgetS : Option Nat) (tag : Nat)
  /-- R16. -/
  | plateDone (entry : HistoryEntry)
  /-- R45. -/
  | halted (kind : FaultKind) (injected : Bool) (entered : PassState) (job : Option Nat)
      (tile : Option (Nat × Nat)) (tag : Nat)
  /-- R159. -/
  | tileDone (sequence job row col ordinal : Nat) (status : TileStatus) (attention : Bool)
      (conds : Option Conds) (ended : Nat)
  /-- R157, step 4. -/
  | logHalf (newest readMark unread : Nat)
  /-- R157, step 3. -/
  | logWrap (lost newest readMark : Nat)
  /-- R127. -/
  | calDone (done : CalDone)
  /-- R141. -/
  | homeDone (result : HomeResult) (kind : Option FaultKind) (unsure : Bool) (tag : Nat)
  /-- R172; `full` is FULL, otherwise HALF. -/
  | counter (id : CounterId) (full : Bool) (value tag : Nat)
  /-- R180. -/
  | fault (kind : FaultKind) (cls : Severity) (count : Nat) (ctx : Context) (effect : SlotEffect)
  /-- R194. -/
  | timeWrap (wraps resolution : Nat)
deriving DecidableEq, Repr

/-- The reasons of a refusal, with their extra content (R191, R200). -/
inductive Reason where
  | badFormat
  | unknownKind
  | badField
  | queueFull
  | slotTaken (job : Nat)
  | outOfTravel (coordinate : Nat)
  | notFound
  | busy
  | halted
  | notActive
  | late
  | notHalted
  | locked
  | platePresent
  | bankFailed
  | faultAsserted
deriving DecidableEq, Repr

/-- The value of a parameter: a number, on/off, or the flags of COUNTER_NOTIFY (R200). -/
inductive ParamValue where
  | number (n : Nat)
  | onOff (on : Bool)
  | flags (mask : BitVec 16)
deriving DecidableEq, Repr

/-- A row of READ-QUEUE without a job number (R17). -/
structure QueueRow where
  number : Nat
  active : Bool
  plateId : List Byte
  slot : Nat
  rows : Nat
  cols : Nat
  accepted : Nat
  started : Option Nat
deriving DecidableEq, Repr

/-- What READ-PASS returns (R21). -/
structure PassView where
  state : PassState
  job : Option (Nat × JobRecord)
  plate : PlateState
  loadIssued : Bool
  bank : Option BankInUse
  banksUsed : BankSet
  walkPos : Nat
  tile : Option Tile
  rung : Option Nat
  handedOver : Nat
  budget : BudgetState
  remaining : Nat
  pausePending : Bool
  cancelPending : Bool
  resumePoint : Option ResumePoint
  mark : Option Mark
  unsure : Bool
  records : Nat
deriving DecidableEq, Repr

/-- A bank as READ-LAMPS returns it (R81). -/
structure BankView where
  bank : Bank
  level : Nat
  mref : Option Nat
deriving DecidableEq, Repr

/-- A slot as READ-INTAKE returns it (R100): no samples. -/
structure SlotView where
  state : SlotState
  taker : Taker
  rung : Option (Nat × Nat)
  filling : Option (Bool × Reception × Nat)
  figures : Option (Nat × Nat)
deriving DecidableEq, Repr

/-- A plane as READ-INTAKE returns it (R100): no merge records. -/
structure PlaneView where
  state : PlaneState
  number : Nat
  plateId : List Byte
  row : Nat
  col : Nat
  ordinal : Nat
  window : Window
  c : Nat
  l : Nat
  counts : ClassCounts
  merges : Nat
  stamp : Option Nat
deriving DecidableEq, Repr

/-- A conversion as READ-CONVERTER returns it (R116): no codes. -/
structure ConvView where
  plane : PlaneId
  buffer : BufId
  number : Nat
  plateId : List Byte
  row : Nat
  col : Nat
  ordinal : Nat
  bank : BankId
  window : Window
  l : Nat
  rowsDone : Nat
  nNormal : Nat
  nOver : Nat
  nUnder : Nat
  nDefect : Nat
  range : Option (Nat × Nat)
deriving DecidableEq, Repr

/-- A flat as READ-CALIBRATION returns it (R131). -/
structure FlatView where
  validity : Validity
  record : Option FlatRecord
  staleNow : Bool
deriving DecidableEq, Repr

/-- A calibration in progress as READ-CALIBRATION returns it (R131): no work area. -/
structure CalView where
  phase : CalPhase
  bank : BankId
  eFlat : Nat
  n : Nat
  clipLevel : Nat
  floor : Nat
  calX : Nat
  calY : Nat
  driveLevel : Nat
  frameIndex : Nat
  attempt : Nat
  retakes : Nat
  takenIn : Nat
  failure : Option CalFailure
deriving DecidableEq, Repr

/-- What READ-MOTION returns (R145): for an outstanding order the milliseconds left to its limit. -/
structure MotionView where
  nextNumber : Nat
  order : Option (Order × Nat)
  stop : Option StopOrder
  unsure : Bool
  position : Option (Nat × Nat)
  expect : Expectation
  discarded : Nat
  last : Option LastReport
  homeRequest : Bool
  platePresent : Bool
deriving DecidableEq, Repr

/-- A tile buffer as READ-LOG-STATE returns it (R161): no codes. -/
structure BufView where
  state : BufState
  label : Option BufLabel
  stamp : Option Nat
  rowsTaken : Option Nat
deriving DecidableEq, Repr

/-- The content a reply's owning rule gives. -/
inductive Content where
  | empty
  /-- R9, R7: job number, position, tiles, and the clamps (index, value taken). -/
  | enqueued (number position tiles : Nat) (clamps : List (Nat × Nat))
  /-- R42, R40: a pass state. -/
  | passState (state : PassState)
  /-- R38. -/
  | pause (state : PassState) (pending : Bool)
  /-- R47: the pass state and the job it ended. -/
  | cleared (state : PassState) (ended : Option Nat)
  /-- R10, R11. -/
  | runState (run : RunState)
  /-- R17. -/
  | queue (run : RunState) (next : Nat) (jobs : List QueueRow)
  | job (number : Nat) (record : JobRecord) (active : Bool) (position : Nat)
  /-- R18. -/
  | history (entries : List HistoryEntry)
  | historyEntry (entry : HistoryEntry)
  /-- R21. -/
  | pass (view : PassView)
  /-- R80. -/
  | lamp (health : Health) (faultInput : Bool)
  /-- R81. -/
  | lamps (a b : BankView) (exposure : Option Exposure)
  /-- R100. -/
  | intake (s1 s2 : Option SlotView) (p1 p2 : Option PlaneView) (discarded : Nat) (last : Option LastFrame)
  /-- R116. -/
  | converter (conv : Option ConvView) (waiting : List Nat) (freeBuffers : Nat)
  /-- R120: clamps, bank, E_flat, n, top rung, whether a HOME precedes. -/
  | calibrating (clamps : List (Nat × Nat)) (bank : BankId) (eFlat n top : Nat) (homeFirst : Bool)
  /-- R131. -/
  | calibration (a b : FlatView) (staleSet : BankSet) (cal : Option CalView)
  /-- R141. -/
  | homing (unsure : Bool)
  /-- R145. -/
  | motion (view : MotionView)
  /-- R147: the entries named (their indices are not sent). -/
  | zones (entries : List (Nat × Option Zone))
  /-- R160: the record, when one is returned, with newest, the read mark and unread. -/
  | tileRecord (record : Option TileRecord) (newest readMark unread : Nat)
  /-- R161. -/
  | logState (held newest readMark unread : Nat) (oldest : Option Nat) (t1 t2 t3 t4 : Option BufView)
      (link : LinkState)
  /-- R169. -/
  | histogram (state : HistState) (job : Option (Nat × List Byte)) (tilesAdded : Nat) (bins : List Nat)
      (nOver nUnder nDefect total : Nat)
  /-- R173. -/
  | counters (values : List Counter) (lastCleared tag : Nat)
  /-- R176: the mask and severity of each kind named (the kinds themselves are not sent). -/
  | faultControl (rows : List (FaultKind × Bool × Severity))
  /-- R183: seen, count and mask of each kind named (the kinds themselves are not sent), and both slots. -/
  | faultCleared (rows : List (FaultKind × Bool × Nat × Bool)) (corrected serious : Option FaultSlot)
  /-- R184. -/
  | injected (seen : Bool) (count : Nat) (cls : Severity) (effect : SlotEffect)
  /-- R185. -/
  | lock (locked : Bool)
  /-- R186. -/
  | faults (kinds : List KindState) (corrected serious : Option FaultSlot) (notifyCorrected notifyDegraded notifyFatal : Bool)
      (locked : Bool) (jobMark : Option FaultKind) (job : Option Nat)
  /-- R192, R193. -/
  | param (id : ParamId) (value : ParamValue)
  | params (values : List (ParamId × ParamValue))
  /-- R195. -/
  | time (count resolution wraps : Nat)
  /-- R196. -/
  | identity (revision : Byte) (cause : ResetCause) (capacities : List Nat)
  /-- R198, step 4. -/
  | reset (cause : ResetCause)
deriving DecidableEq, Repr

/-- A reply's body (R191). -/
inductive ReplyBody where
  | ok (content : Content)
  | adjusted (content : Content)
  | refused (reason : Reason) (index : Nat) (content : Content)
deriving DecidableEq, Repr

/-- A reply: its kind code, the request's tag, its body (R189, R191). -/
structure Reply where
  kind : Nat
  tag : Byte
  body : ReplyBody
deriving DecidableEq, Repr

/-- A queued notice with its "notices were dropped" flag (R162). -/
structure QueuedNotice where
  dropped : Bool
  notice : Notice
deriving DecidableEq, Repr

/-- Whose place a frame being sent on the answer pipe holds: none, once a RESET has emptied its queue (R163, R198). -/
inductive Sending where
  | reply
  | notice
  | orphan
deriving DecidableEq, Repr

/-- The request link (R162, R188, R190). `pipe` is the frame begun on the answer pipe, as its bytes (R163). -/
structure Link where
  state : LinkState
  intake : List (List Byte)
  replies : List Reply
  notices : List QueuedNotice
  dropped : Bool
  pipe : Option (Sending × List Byte)
  cause : ResetCause
deriving DecidableEq, Repr

/-! ### The machine -/

/-- Why the machine stops with a fault: never. The manual gives every command its effect in every state, and every
trouble is a fault KIND of the fault unit (`FaultKind`), which is state. The type has no constructor. -/
inductive Fault
deriving DecidableEq, Repr

/-- Why a command is refused. -/
inductive Refusal where
  /-- Raised by an arm of `exec` for a command that has no meaning yet; safe, since the run stops there. No arm raises it. -/
  | notModelled (mnemonic : String)
deriving DecidableEq, Repr

/-- The state of the GC-816. -/
structure State where
  queue : PlateQueue
  pass : Pass
  ladder : Option Ladder
  lamps : Lamps
  intake : Intake
  merge : Merge
  conv : Option Conversion
  cal : CalStore
  motion : Motion
  /-- The 8 entries of the zone table (R146). -/
  zones : List (Option Zone)
  out : Output
  stats : Stats
  faults : Faults
  params : Params
  time : TimeBase
  link : Link
  /-- The plate-present line, an input level (8.5). -/
  platePresent : Bool
  /-- The part's internal time, in µs (R194: "The part's limits, budgets, exposures and deadlines run on its own internal time"). -/
  now : Nat
  /-- Model: how many free values have been drawn. -/
  drawn : Nat
  /-- Model: the commands that wait, first in, first out. -/
  pending : List Instr
deriving DecidableEq, Repr

/-! ### Power-on values -/

/-- Severities by default (11.1). -/
def defaultSeverity : FaultKind → Severity
  | .lampDrift | .frameShort | .frameTimeout | .moveRetry => .corrected
  | .bankFault | .rungLost | .staleFlat | .budgetExpired | .slotEmpty | .guardTile | .tableOccupied => .degraded
  | .noLight | .moveTimeout | .positionerHalt | .handlerTimeout | .plateSense => .fatal

/-- The sixteen kinds in the order of the kinds table (11.1). -/
def allKinds : List FaultKind :=
  [.lampDrift, .frameShort, .frameTimeout, .moveRetry, .bankFault, .rungLost, .staleFlat, .budgetExpired,
   .slotEmpty, .guardTile, .tableOccupied, .noLight, .moveTimeout, .positionerHalt, .handlerTimeout, .plateSense]

def noBanks : BankSet := ⟨false, false⟩

def noCounts : RecordCounts := ⟨0, 0, 0, 0, 0⟩

/-- The plate queue after power-on and soft reset (R19). -/
def resetQueue : PlateQueue := { jobs := [], run := .stopped, next := 1, history := [] }

/-- The pass after power-on and soft reset (R20). -/
def resetPass : Pass :=
  { state := .idle, job := none, plate := .notLoaded, loadIssued := false, bank := none, banksUsed := noBanks,
    walkPos := 0, tile := none, handedOver := 0, budget := ⟨.absent, 0, 0⟩, pausePending := false,
    cancelPending := false, resumePoint := none, mark := none, stale := false, counts := noCounts,
    step := .none, settle := none }

/-- A bank after power-on and soft reset (R71, R82), with its fault input as sensed. -/
def resetBank (faultInput : Bool) : Bank :=
  { health := .ready, lit := false, faultInput := faultInput, failures := 0, lastFailure := none, lastReading := none }

/-- The intake after power-on and soft reset (R84), with what the pixel link still sends. -/
def resetIntake (rx : LinkRx) : Intake :=
  { s1 := none, s2 := none, discarded := 0, last := none, rx := rx, validOrder := [] }

/-- The merge planes after power-on and soft reset (R95, R96). -/
def resetMerge : Merge := { p1 := none, p2 := none, lastStamp := 0 }

/-- The calibration store after power-on (R118, R121, R130, R132). -/
def resetCal : CalStore :=
  { flatA := ⟨.invalid, none⟩, flatB := ⟨.invalid, none⟩, cal := none, staleSet := noBanks, raisedSet := noBanks }

/-- The motion port after power-on (R133, R201). -/
def resetMotion : Motion :=
  { nextNumber := 0, order := none, stop := none, unsure := true, position := none, expect := .none, discarded := 0,
    last := none, homeRequest := false, waiting := none, rxBytes := [], rxError := false, sent := [] }

/-- The zone table after power-on and soft reset (R146). -/
def resetZones : List (Option Zone) := List.replicate 8 none

/-- The output unit after power-on and soft reset (R150, R156). -/
def resetOutput : Output :=
  { t1 := none, t2 := none, t3 := none, t4 := none, lastStamp := 0, records := [], newest := 0, readMark := 0 }

def resetCounter : Counter := ⟨0, .armed, .armed⟩

/-- The statistics unit after power-on and soft reset (R174). -/
def resetStats : Stats :=
  { histState := .none, histJob := none, bins := List.replicate 41 0, nOver := 0, nUnder := 0, nDefect := 0,
    tilesAdded := 0, counters := List.replicate 16 resetCounter, lastCleared := 0 }

def resetKinds : List KindState := allKinds.map fun k => ⟨false, 0, false, defaultSeverity k⟩

/-- The fault unit after power-on and soft reset, the injection lock apart (R187). -/
def resetFaults (locked : Bool) : Faults :=
  { kinds := resetKinds, corrected := none, serious := none, locked := locked, jobMark := none, raised := [],
    escalations := [], ahead := [] }

/-- The parameters' defaults (12.4). -/
def defaultParams : Params :=
  { clipLevel := 3968, signalFloor := 24, driftTol := 20, frameGrace := 250, moveLimit := 5, handlerLimit := 45,
    flatAgeLimit := 50, lampLevelA := 512, lampLevelB := 512, calX := 200000, calY := 200000, timeRes := 16,
    notifyCorrected := false, notifyDegraded := true, notifyFatal := true, counterNotify := 65535#16 }

def resetTime : TimeBase := ⟨0, 0, 0⟩

/-- The request link after power-on (R188, R197). -/
def resetLink : Link :=
  { state := .detached, intake := [], replies := [], notices := [], dropped := false, pipe := none, cause := .powerOn }

/-- The machine right after power-on (R197), with every input level clear (log 5). -/
def State.reset : State :=
  { queue := resetQueue, pass := resetPass, ladder := none,
    lamps := { a := resetBank false, b := resetBank false, exposure := none, line := none },
    intake := resetIntake .idle, merge := resetMerge, conv := none, cal := resetCal, motion := resetMotion,
    zones := resetZones, out := resetOutput, stats := resetStats, faults := resetFaults false,
    params := defaultParams, time := resetTime, link := resetLink, platePresent := false, now := 0, drawn := 0,
    pending := [] }

end Sys2Proof.Machine
end

