-- ==== Sys2Proof/Machine/Ops.lean ====
section
/-! DEFINITION. Named operations over the state that several blocks share: access to the numbered stores, time tags,
notices, replies, the raising of faults, the idle clock. -/

namespace Sys2Proof.Machine

open Sys2Proof

/-! ### Access to the pairs and fours of the machine -/

def BankId.other : BankId → BankId
  | .a => .b
  | .b => .a

def BankSet.has (b : BankSet) : BankId → Bool
  | .a => b.a
  | .b => b.b

def BankSet.add (b : BankSet) : BankId → BankSet
  | .a => { b with a := true }
  | .b => { b with b := true }

def BankSet.remove (b : BankSet) : BankId → BankSet
  | .a => { b with a := false }
  | .b => { b with b := false }

def State.bank (s : State) : BankId → Bank
  | .a => s.lamps.a
  | .b => s.lamps.b

def State.setBank (s : State) (i : BankId) (b : Bank) : State :=
  match i with
  | .a => { s with lamps.a := b }
  | .b => { s with lamps.b := b }

/-- The drive level of a bank is the value of its parameter (R71). -/
def State.level (s : State) : BankId → Nat
  | .a => s.params.lampLevelA
  | .b => s.params.lampLevelB

def State.flat (s : State) : BankId → Flat
  | .a => s.cal.flatA
  | .b => s.cal.flatB

def State.setFlat (s : State) (i : BankId) (f : Flat) : State :=
  match i with
  | .a => { s with cal.flatA := f }
  | .b => { s with cal.flatB := f }

def State.flatRecord (s : State) (i : BankId) : Option FlatRecord := (s.flat i).data.map (·.record)

def State.slot (s : State) : SlotId → Option Slot
  | .s1 => s.intake.s1
  | .s2 => s.intake.s2

def State.setSlot (s : State) (i : SlotId) (d : Option Slot) : State :=
  match i with
  | .s1 => { s with intake.s1 := d }
  | .s2 => { s with intake.s2 := d }

def State.plane (s : State) : PlaneId → Option Plane
  | .p1 => s.merge.p1
  | .p2 => s.merge.p2

def State.setPlane (s : State) (i : PlaneId) (d : Option Plane) : State :=
  match i with
  | .p1 => { s with merge.p1 := d }
  | .p2 => { s with merge.p2 := d }

def State.buf (s : State) : BufId → Option Buf
  | .t1 => s.out.t1
  | .t2 => s.out.t2
  | .t3 => s.out.t3
  | .t4 => s.out.t4

def State.setBuf (s : State) (i : BufId) (d : Option Buf) : State :=
  match i with
  | .t1 => { s with out.t1 := d }
  | .t2 => { s with out.t2 := d }
  | .t3 => { s with out.t3 := d }
  | .t4 => { s with out.t4 := d }

def allSlots : List SlotId := [.s1, .s2]
def allPlanes : List PlaneId := [.p1, .p2]
def allBufs : List BufId := [.t1, .t2, .t3, .t4]

/-- The first slot that is FREE, S1 before S2 (log 13). -/
def State.freeSlot (s : State) : Option SlotId := allSlots.find? fun i => (s.slot i).isNone

/-- The first plane that is FREE, P1 before P2 (log 13). -/
def State.freePlane (s : State) : Option PlaneId := allPlanes.find? fun i => (s.plane i).isNone

/-- The FREE buffer with the lowest number (R102). -/
def State.freeBuf (s : State) : Option BufId := allBufs.find? fun i => (s.buf i).isNone

/-- The slot that is FILLING: at most one is (R85). -/
def State.fillingSlot (s : State) : Option SlotId :=
  allSlots.find? fun i => (s.slot i).any fun d => decide (d.state = .filling)

/-- The slot of a taker that is MERGING. -/
def State.mergingSlot (s : State) (t : Taker) : Option SlotId :=
  allSlots.find? fun i => (s.slot i).any fun d => decide (d.state = .merging ∧ d.taker = t)

/-- The oldest VALID slot of a taker, in the order of validation (R98, R124). -/
def State.oldestValid (s : State) (t : Taker) : Option SlotId :=
  s.intake.validOrder.find? fun i => (s.slot i).any fun d => decide (d.state = .valid ∧ d.taker = t)

/-- A slot becomes FREE: its taker, rung, attempt and figures are cleared with it (R85). -/
def State.releaseSlot (s : State) (i : SlotId) : State :=
  let s := s.setSlot i none
  { s with intake.validOrder := s.intake.validOrder.filter fun j => decide (j ≠ i) }

/-- A plane becomes FREE: its owner, contents, ladder fields and stamp are discarded (R96). -/
def State.releasePlane (s : State) (i : PlaneId) : State := s.setPlane i none

/-! ### Time (R194) -/

/-- A time tag: the count as it stands at the event that takes it. -/
def State.tag (s : State) : Nat := s.time.count

/-! ### Jobs -/

/-- The job number and plate_id of the ACTIVE job, as contexts carry them (R177). -/
def State.jobCtx (s : State) : Option (Nat × List Byte) := s.pass.job.map fun j => (j.number, j.record.plateId)

/-- The row and column of the tile in hand. -/
def State.tileCtx (s : State) : Option (Nat × Nat) := s.pass.tile.map fun t => (t.row, t.col)

/-- A job is ACTIVE. -/
def State.jobActive (s : State) : Bool := s.pass.job.isSome

/-! ### Notices (R162) -/

/-- A notice is posted: it joins the queue with the dropped flag if the mark is set, or is dropped and sets the mark. -/
def postNotice (n : Notice) (s : State) : State :=
  if s.link.notices.length < Config.noticeCap then
    { s with link.notices := s.link.notices ++ [⟨s.link.dropped, n⟩], link.dropped := false }
  else { s with link.dropped := true }

/-! ### Replies (R190, R191) -/

/-- A reply to the request of kind code `kind` joins the reply queue: it carries the kind code plus 32,768 and the tag. -/
def queueReply (kind : Nat) (tag : Byte) (body : ReplyBody) (s : State) : State :=
  { s with link.replies := s.link.replies ++ [⟨kind + 32768, tag, body⟩] }

/-- A refusal without extra figures. -/
def refuse (r : Reason) (index : Nat := 0) : ReplyBody := .refused r index .empty

/-! ### Raising faults (R177) -/

/-- A block hands the fault unit a kind and a context; the fault unit takes it at FAULT_TAKEN (log 7). The command that raises a fault carries
out its action too. Where the pass controller or its ladder sequencer acts, the recording and the escalation may come before that action:
`takeAhead` (log 68). -/
def raiseFault (k : FaultKind) (ctx : Ctx) (s : State) : State :=
  { s with faults.raised := s.faults.raised ++ [⟨k, ctx⟩] }

def noCtx : Ctx := ⟨none, none, none, none⟩

/-- The context of the job and, when there is one, of the tile in hand (R139, R143, R148). -/
def State.passCtx (s : State) : Ctx := ⟨s.jobCtx, s.tileCtx, none, none⟩

/-- The context of a rung: job, tile, rung with its attempt, and bank (R70; log 47). -/
def State.rungCtx (s : State) (rung attempt : Nat) (bank : BankId) : Ctx :=
  ⟨s.jobCtx, s.tileCtx, some (rung, attempt), some bank⟩

/-! ### The statistics unit's additions (R171, R172) -/

def CounterId.index : CounterId → Nat
  | .platesDone => 0
  | .platesFailed => 1
  | .tilesCaptured => 2
  | .tilesAttention => 3
  | .tilesSkipped => 4
  | .tilesNotCaptured => 5
  | .rungsMerged => 6
  | .rungRetries => 7
  | .rungsLost => 8
  | .ladderRestarts => 9
  | .ladderCuts => 10
  | .ladderExtensions => 11
  | .moveRetries => 12
  | .pixelsOver => 13
  | .pixelsUnder => 14
  | .pixelsDefect => 15

def State.counter (s : State) (c : CounterId) : Counter := s.stats.counters.getD c.index resetCounter

/-- An addition to one counter: it saturates, fires the half and full marks at their crossings, and posts HALF and then
FULL for each crossing whose flag in COUNTER_NOTIFY is on (R171, R172). -/
def addCounter (c : CounterId) (amount : Nat) (s : State) : State :=
  let old := s.counter c
  let v := satAdd maxU32 old.value amount
  let half := decide (old.value < 2147483648 ∧ 2147483648 ≤ v ∧ old.half = .armed)
  let full := decide (old.value < maxU32 ∧ v = maxU32 ∧ old.full = .armed)
  let new : Counter :=
    ⟨v, if half then .fired else old.half, if full then .fired else old.full⟩
  let notify := s.params.counterNotify.getLsbD c.index
  let s := { s with stats.counters := s.stats.counters.set c.index new }
  let s := if half && notify then postNotice (.counter c false v s.tag) s else s
  if full && notify then postNotice (.counter c true v s.tag) s else s

/-! ### Free values -/

/-- One free value has been drawn: the next draw is another one. -/
def State.draw (s : State) : State := { s with drawn := s.drawn + 1 }

/-! ### The clock (R36, R194; log 1) -/

/-- The count passes from 4,294,967,295 to 0: the wrap count rises and TIME-WRAP is posted (R194). -/
def wrapTime (s : State) : State :=
  let s := { s with time := { count := 0, wraps := satAdd 65535 s.time.wraps 1, elapsed := 0 } }
  postNotice (.timeWrap s.time.wraps s.params.timeRes) s

/-- 1 µs below the largest count: the count rises by 1 at each TIME_RES µs that elapse (R194). -/
def countUs (s : State) : State :=
  if s.time.elapsed + 1 < s.params.timeRes then { s with time.elapsed := s.time.elapsed + 1 }
  else { s with time := { s.time with count := s.time.count + 1, elapsed := 0 } }

/-- The count stands at its largest value and the interval's TIME_RES µs have elapsed: it passes to 0 (R194). -/
def State.wrapDue (s : State) : Bool := decide (s.time.count = maxU32 ∧ s.params.timeRes ≤ s.time.elapsed)

/-- 1 µs of the time base. At the largest count the interval runs to its end, at which the wrap is due; TIME_WRAP makes it in
that moment, or the next tick does before it counts its own µs (R194; log 39). -/
def tickTime (s : State) : State :=
  if s.time.count < maxU32 then countUs s
  else if s.time.elapsed < s.params.timeRes then { s with time.elapsed := s.time.elapsed + 1 }
  else countUs (wrapTime s)

/-- 1 µs of a RUNNING budget: the remaining milliseconds fall, to 0 at the least (R36). -/
def Budget.tick (b : Budget) : Budget :=
  if b.state = .running then
    if b.subUs + 1 < 1000 then { b with subUs := b.subUs + 1 }
    else { b with remaining := b.remaining - 1, subUs := 0 }
  else b

/-- A RUNNING or SUSPENDED budget becomes STOPPED (R36). -/
def Budget.stop (b : Budget) : Budget :=
  if b.state = .running ∨ b.state = .suspended then { b with state := .stopped } else b

def stopBudget (s : State) : State := { s with pass.budget := s.pass.budget.stop }

end Sys2Proof.Machine
end

