-- ==== Sys2Proof/Machine/Flags.lean ====
section
/-! DEFINITION. The flags and marks of the part: the conditions of a tile and its attention (R69, R113, R114), the recording of a
fault (R178 to R182), the drift verdict (R75), staleness and usability (R24, R59, R130). -/

namespace Sys2Proof.Machine

open Sys2Proof

/-! ### Conditions and attention -/

def condOverLimit : Conds := 1#6
def condUnderLimit : Conds := 2#6
def condRungLost : Conds := 4#6
def condBankSwitch : Conds := 8#6
def condStaleFlat : Conds := 16#6
def condTruncated : Conds := 32#6
def allConds : Conds := 63#6

def Conds.has (c f : Conds) : Bool := decide (c &&& f ≠ 0#6)

/-- `c` with `f` in it when `on`, and without it otherwise. -/
def Conds.put (c f : Conds) (on : Bool) : Conds := if on then c ||| f else c &&& ~~~f

/-- A limit in per mille of the window's pixels is exceeded (R66, R113). -/
def overLimit (count limit pixels : Nat) : Bool := decide (limit * pixels < count * 1000)

/-- Attention: a condition of the completed set is in the job's attention_mask (R114). -/
def attention (conds mask : Conds) : Bool := decide (conds &&& mask ≠ 0#6)

/-! ### Light -/

/-- The verdict on a RUNG exposure: DRIFT when |M - Mref| * 1000 > DRIFT_TOL * Mref (R75). -/
def driftVerdict (m mref tol : Nat) : Verdict :=
  if tol * mref < (m - mref + (mref - m)) * 1000 then .drift else .held

/-- How many monitor samples an exposure of E µs has when it runs out: 1 + floor((E - 1) / 100) (R74). -/
def samplesDue (e : Nat) : Nat := 1 + (e - 1) / 100

/-- A bank is usable for plates: READY, with a valid flat (R24, R118). -/
def State.usable (s : State) (b : BankId) : Bool :=
  decide ((s.bank b).health = .ready ∧ (s.flat b).validity = .valid)

/-- The stale check's question: FLAT_AGE_LIMIT is not 0 and the flat's age is at or above it (R130). It looks at the age alone, whatever the
validity, and a bank without a record is not stale; R131's answer rests on that (log 64). -/
def State.isStale (s : State) (b : BankId) : Bool :=
  (s.flatRecord b).any fun r => decide (s.params.flatAgeLimit ≠ 0 ∧ s.params.flatAgeLimit ≤ r.age)

/-- Mref of the bank's flat, when there is one. -/
def State.mref (s : State) (b : BankId) : Option Nat := (s.flatRecord b).map (·.mref)

/-! ### Recording a fault (R178) -/

def FaultKind.index : FaultKind → Nat
  | .lampDrift => 0
  | .frameShort => 1
  | .frameTimeout => 2
  | .moveRetry => 3
  | .bankFault => 4
  | .rungLost => 5
  | .staleFlat => 6
  | .budgetExpired => 7
  | .slotEmpty => 8
  | .guardTile => 9
  | .tableOccupied => 10
  | .noLight => 11
  | .moveTimeout => 12
  | .positionerHalt => 13
  | .handlerTimeout => 14
  | .plateSense => 15

def State.kind (s : State) (k : FaultKind) : KindState :=
  s.faults.kinds.getD k.index ⟨false, 0, false, defaultSeverity k⟩

def State.setKind (s : State) (k : FaultKind) (v : KindState) : State :=
  { s with faults.kinds := s.faults.kinds.set k.index v }

/-- Step 1 of R178: seen, count, and the job mark, which takes the kind when a job is ACTIVE and the mark absent (R182). -/
def markSeen (k : FaultKind) (s : State) : State :=
  let ks := s.kind k
  let s := s.setKind k { ks with seen := true, count := satAdd 255 ks.count 1 }
  if s.jobActive && s.faults.jobMark.isNone then { s with faults.jobMark := some k } else s

/-- What a recording does to a first-fault slot (R179). -/
def fillSlot (slot : Option FaultSlot) (k : FaultKind) (ctx : Context) (fatal : Bool) : FaultSlot × SlotEffect :=
  match slot with
  | none => (⟨k, ctx, false, fatal⟩, .filled)
  | some f => ({ f with more := true }, if f.more then .none else .more)

/-- Step 2 of R178: the slot of the fault's class (R179). -/
def takeSlot (k : FaultKind) (ctx : Context) (cls : Severity) (s : State) : State × SlotEffect :=
  match cls with
  | .corrected =>
    let r := fillSlot s.faults.corrected k ctx false
    ({ s with faults.corrected := some r.1 }, r.2)
  | .degraded =>
    let r := fillSlot s.faults.serious k ctx false
    ({ s with faults.serious := some r.1 }, r.2)
  | .fatal =>
    let r := fillSlot s.faults.serious k ctx true
    ({ s with faults.serious := some r.1 }, r.2)

/-- The notify enable of a class (R180). -/
def State.notifies (s : State) : Severity → Bool
  | .corrected => s.params.notifyCorrected
  | .degraded => s.params.notifyDegraded
  | .fatal => s.params.notifyFatal

/-- The fault unit records one fault, by the mask and severity of its kind as they stand (R178): a masked kind stops at
step 1; otherwise the slot, the notice and, for FATAL, the escalation follow in this order. That a masked kind, which touches no slot, is
answered with the slot effect NONE is the model's choice, R180 and R184 naming none for it (log 62). -/
def recordFault (k : FaultKind) (fields : Ctx) (injected : Bool) (s : State) : State × SlotEffect :=
  let ks := s.kind k
  let ctx : Context := ⟨fields, s.tag, injected⟩
  let s := markSeen k s
  if ks.masked then (s, .none)
  else
    let r := takeSlot k ctx ks.severity s
    let s := r.1
    let s := if s.notifies ks.severity then
        postNotice (.fault k ks.severity (s.kind k).count ctx r.2) s else s
    let s := if ks.severity = .fatal then
        { s with faults.escalations := s.faults.escalations ++ [(k, injected)] } else s
    (s, r.2)

/-- The fault unit takes number `which` of the faults raised and not yet taken, 0 the one raised first, and records it; no
fault has a number past the last one's (R177, R178). -/
def takeRaised (which : Nat) (s : State) : State :=
  match s.faults.raised[which]? with
  | none => s
  | some r => (recordFault r.kind r.ctx false { s with faults.raised := s.faults.raised.eraseIdx which }).1

/-! ### What comes before an action of the pass controller (R46, R177; log 68) -/

/-- The recording of a fault to come is let come before its action. -/
def Ahead.record : Ahead → Ahead
  | .no | .recorded => .recorded
  | .halted => .halted

/-- After its recording, its escalation is let come before its action too. -/
def Ahead.escalate : Ahead → Ahead
  | .no => .no
  | .recorded | .halted => .halted

/-- Of the faults to come that the pass controller acts on, number `n`, 0 the next one, is let be recorded before its action. -/
def recordAhead : Nat → List Ahead → List Ahead
  | 0, [] => [.recorded]
  | 0, a :: as => a.record :: as
  | n + 1, [] => .no :: recordAhead n []
  | n + 1, a :: as => a :: recordAhead n as

/-- The last of the faults to come that is let be recorded before its action has its escalation come before it too. -/
def escalateAhead : List Ahead → List Ahead
  | [] => []
  | [a] => [a.escalate]
  | a :: b :: as => a :: escalateAhead (b :: as)

end Sys2Proof.Machine
end

