-- ==== Sys2Proof/Machine/Density.lean ====
section
/-! DEFINITION. The arithmetic of density conversion, exact to the last code: the logarithm (R107), the class and the code of a pixel
(R105, R106, R108, R109), a row of the converter (R103), the figures and bins of a tile (R111, R112). -/

namespace Sys2Proof.Machine

open Sys2Proof

/-! ### The table c(m) of R107, the nearest integer to 256 × log2(1 + m / 256), in eight pieces of 32 -/

def logTable0 : List Nat :=
  [0, 1, 3, 4, 6, 7, 9, 10, 11, 13, 14, 16, 17, 18, 20, 21,
   22, 24, 25, 26, 28, 29, 30, 32, 33, 34, 36, 37, 38, 40, 41, 42]

def logTable1 : List Nat :=
  [44, 45, 46, 47, 49, 50, 51, 52, 54, 55, 56, 57, 59, 60, 61, 62,
   63, 65, 66, 67, 68, 69, 71, 72, 73, 74, 75, 77, 78, 79, 80, 81]

def logTable2 : List Nat :=
  [82, 84, 85, 86, 87, 88, 89, 90, 92, 93, 94, 95, 96, 97, 98, 99,
   100, 102, 103, 104, 105, 106, 107, 108, 109, 110, 111, 112, 113, 114, 116, 117]

def logTable3 : List Nat :=
  [118, 119, 120, 121, 122, 123, 124, 125, 126, 127, 128, 129, 130, 131, 132, 133,
   134, 135, 136, 137, 138, 139, 140, 141, 142, 143, 144, 145, 146, 147, 148, 149]

def logTable4 : List Nat :=
  [150, 151, 152, 153, 154, 155, 155, 156, 157, 158, 159, 160, 161, 162, 163, 164,
   165, 166, 167, 168, 169, 169, 170, 171, 172, 173, 174, 175, 176, 177, 178, 178]

def logTable5 : List Nat :=
  [179, 180, 181, 182, 183, 184, 185, 185, 186, 187, 188, 189, 190, 191, 192, 192,
   193, 194, 195, 196, 197, 198, 198, 199, 200, 201, 202, 203, 203, 204, 205, 206]

def logTable6 : List Nat :=
  [207, 208, 208, 209, 210, 211, 212, 212, 213, 214, 215, 216, 216, 217, 218, 219,
   220, 220, 221, 222, 223, 224, 224, 225, 226, 227, 228, 228, 229, 230, 231, 231]

def logTable7 : List Nat :=
  [232, 233, 234, 234, 235, 236, 237, 238, 238, 239, 240, 241, 241, 242, 243, 244,
   244, 245, 246, 247, 247, 248, 249, 249, 250, 251, 252, 252, 253, 254, 255, 255]

def logTable : List Nat :=
  logTable0 ++ logTable1 ++ logTable2 ++ logTable3 ++ logTable4 ++ logTable5 ++ logTable6 ++ logTable7

/-- The converter's logarithm L(x), for x ≥ 1: 256 × k + c(m) (R107). -/
def logUnits (x : Nat) : Nat :=
  let k := Nat.log2 x
  256 * k + logTable.getD ((x - 2 ^ k) * 256 / 2 ^ k) 0

/-- N, the scaled signal of a VALID record (R106). -/
def scaledSignal (rung signal : Nat) : Nat := signal * 2 ^ (7 - rung)

/-- Fn, the scaled flat (R106). -/
def scaledFlat (f bf : Nat) : Nat := (f - bf) * 128

/-- The code of a NORMAL pixel (R108): a negative difference is taken as 0, and the code stops at 4095. -/
def densityCode (fn n : Nat) : Nat :=
  min 4095 (((logUnits fn - logUnits n) * 1204 + 512) / 1024)

/-- What the converter reads of the flat for one pixel: the flat value and the clip mark (R104). -/
structure FlatPixel where
  f : Nat
  clip : Bool
deriving DecidableEq, Repr

/-- DEFECT by the flat alone: clip-marked, or F - Bf < L, a negative difference included (R105, step 1). -/
def isDefect (p : FlatPixel) (bf l : Nat) : Bool := p.clip || decide (p.f < bf + l)

/-- The class and code of one pixel, `left` being the code just written in this row (R105, R108, R109). A NONE record
does not occur in a FULL plane (R97); it is read as UNDER is. -/
def convertPixel (bf l : Nat) (left : Option Nat) (p : FlatPixel) (r : MergeRec) : PixOut :=
  if isDefect p bf l then ⟨left.getD 0, .defect⟩
  else
    match r with
    | .clipped => ⟨0, .overexp⟩
    | .under | .none => ⟨4095, .underexp⟩
    | .valid rung signal => ⟨densityCode (scaledFlat p.f bf) (scaledSignal rung signal), .normal⟩

/-- One window row from column 0 upward (R103, R109). -/
def convertRow (bf l : Nat) : Option Nat → List (FlatPixel × MergeRec) → List PixOut
  | _, [] => []
  | left, (p, r) :: rest =>
    let out := convertPixel bf l left p r
    out :: convertRow bf l (some out.code) rest

/-! ### Counts, figures and bins -/

/-- The counts and figures at a conversion's start (R102). -/
def noFigures : ConvFigures :=
  { nNormal := 0, nOver := 0, nUnder := 0, nDefect := 0, sum := 0, min := none, max := none, bins := List.replicate 41 0 }

/-- The bin of a NORMAL code (R112). -/
def binOf (code : Nat) : Nat := min (code / 100) 40

/-- One pixel added to the running counts and figures (R111, R112). -/
def addPixel (g : ConvFigures) (p : PixOut) : ConvFigures :=
  match p.cls with
  | .normal =>
    { g with nNormal := g.nNormal + 1, sum := g.sum + p.code,
             min := some (match g.min with | none => p.code | some m => min m p.code),
             max := some (match g.max with | none => p.code | some m => max m p.code),
             bins := g.bins.modify (binOf p.code) (· + 1) }
  | .overexp => { g with nOver := g.nOver + 1 }
  | .underexp => { g with nUnder := g.nUnder + 1 }
  | .defect => { g with nDefect := g.nDefect + 1 }

/-- The mean code, rounded with halves upward (R111). -/
def meanCode (sum n : Nat) : Nat := (sum + n / 2) / n

/-- Minimum, maximum and mean code, absent when no pixel is NORMAL (R111). -/
def ConvFigures.stats (g : ConvFigures) : Option (Nat × Nat × Nat) :=
  if g.nNormal = 0 then none
  else some (g.min.getD 0, g.max.getD 0, meanCode g.sum g.nNormal)

end Sys2Proof.Machine
end

