-- ==== Sys2Proof/Machine/Geometry.lean ====
section
/-! DEFINITION. Tile geometry (R3, R5), the walk order (R27), the rungs of a bank (R49 to R51) and the zone table's answer (R148). -/

namespace Sys2Proof.Machine

open Sys2Proof

/-! ### Tiles -/

def JobRecord.tiles (r : JobRecord) : Nat := r.rows * r.cols

/-- The pixel count of a window, w × h (R2). -/
def Window.pixels (w : Window) : Nat := w.w * w.h

def fullWindow : Window := ⟨0, 0, Config.sensorCols, Config.sensorLines⟩

/-- The first x and y a tile covers (R3). -/
def JobRecord.tileX (r : JobRecord) (col : Nat) : Nat := r.originX + col * r.stepX
def JobRecord.tileY (r : JobRecord) (row : Nat) : Nat := r.originY + row * r.stepY

/-- The target point of a tile (R3). -/
def JobRecord.targetX (r : JobRecord) (col : Nat) : Nat := r.tileX col + r.fieldX / 2
def JobRecord.targetY (r : JobRecord) (row : Nat) : Nat := r.tileY row + r.fieldY / 2

/-- Row and column of a walk ordinal (R27). -/
def JobRecord.cell (r : JobRecord) (ordinal : Nat) : Nat × Nat :=
  let row := ordinal / r.cols
  let k := ordinal % r.cols
  match r.walk with
  | .raster => (row, k)
  | .serpentine => (row, if row % 2 = 1 then r.cols - 1 - k else k)

/-! ### Rungs -/

/-- The largest rung of 0..r whose exposure does not exceed 8,000,000 µs (R50). -/
def topRungTo (eFlat : Nat) : Nat → Nat
  | 0 => 0
  | r + 1 => if eFlat * 2 ^ (r + 1) ≤ Config.rungMax then r + 1 else topRungTo eFlat r

/-- The top rung of a bank whose flat has exposure time `eFlat` (R50). -/
def topRung (eFlat : Nat) : Nat := topRungTo eFlat 7

/-- The exposure of rung r, E_flat × 2^r µs (R49). -/
def rungExposure (eFlat r : Nat) : Nat := eFlat * 2 ^ r

/-- A job's rungs fitted to a bank (R51). -/
def clampLadder (r : JobRecord) (bank : BankId) (eFlat : Nat) : BankInUse :=
  let t := topRung eFlat
  let last := min r.lastRung t
  { bank := bank, top := t, first := min r.firstRung last, last := last }

def BankPref.permitsOther : BankPref → Bool
  | .aFirst | .bFirst => true
  | .aOnly | .bOnly => false

/-- The banks a bank_pref has tried, in order (R24). -/
def BankPref.tried : BankPref → List BankId
  | .aOnly => [.a]
  | .bOnly => [.b]
  | .aFirst => [.a, .b]
  | .bFirst => [.b, .a]

def JobRecord.retryBank (r : JobRecord) (k : Nat) : RetryBank := if k = 1 then r.retryBank1 else r.retryBank2

/-! ### Zones -/

/-- The zone table's answer for a tile (R148). -/
inductive ZoneAnswer where
  | skip (entry : Nat)
  | guard (entry : Nat)
  | none
deriving DecidableEq, Repr

/-- An entry that applies to a format class: present, enabled, the class in its set (R148). -/
def Zone.applies (z : Zone) (cls : Nat) : Bool := z.enabled && z.classes.getLsbD cls

/-- A SKIP zone that contains the whole tile (R148). -/
def Zone.skips (z : Zone) (r : JobRecord) (row col : Nat) : Bool :=
  decide (z.kind = .skip ∧ z.x0 ≤ r.tileX col ∧ r.tileX col + r.fieldX - 1 ≤ z.x1
    ∧ z.y0 ≤ r.tileY row ∧ r.tileY row + r.fieldY - 1 ≤ z.y1)

/-- A GUARD zone that contains the tile's target point, its ends included (R148). -/
def Zone.guards (z : Zone) (r : JobRecord) (row col : Nat) : Bool :=
  decide (z.kind = .guard ∧ z.x0 ≤ r.targetX col ∧ r.targetX col ≤ z.x1
    ∧ z.y0 ≤ r.targetY row ∧ r.targetY row ≤ z.y1)

/-- The lowest-numbered entry that satisfies `p`, numbers counting from `n`. -/
def firstZone (p : Zone → Bool) : Nat → List (Option Zone) → Option Nat
  | _, [] => none
  | n, z :: zs => if z.any p then some n else firstZone p (n + 1) zs

def zoneAnswer (zones : List (Option Zone)) (r : JobRecord) (row col : Nat) : ZoneAnswer :=
  if !r.useZones then .none
  else
    match firstZone (fun z => z.applies r.formatClass && z.skips r row col) 0 zones with
    | some i => .skip i
    | none =>
      match firstZone (fun z => z.applies r.formatClass && z.guards r row col) 0 zones with
      | some i => .guard i
      | none => .none

/-- The entry that gave the answer gains 1 in hits, saturating (R146, R148). -/
def hitZone (i : Nat) (s : State) : State :=
  { s with zones := s.zones.set i ((s.zones.getD i none).map fun z => { z with hits := satAdd 65535 z.hits 1 }) }

end Sys2Proof.Machine
end

