-- ==== Sys2Proof/Machine/Operands.lean ====
section
/-! DEFINITION. The operands of the commands: a transfer's header and body, the fields of every request in index order (R189,
R200), the checks and clamps of the job record (R1 to R7), and the taking of a request from the intake (R190). -/

namespace Sys2Proof.Machine

open Sys2Proof

/-! ### Bytes (R200: least significant first) -/

/-- The number that bytes, least significant first, stand for. -/
def leNat : List Byte → Nat
  | [] => 0
  | b :: bs => b.toNat + 256 * leNat bs

/-- A number of `n` bytes from the front of a body. -/
def takeNum (n : Nat) (bs : List Byte) : Option (Nat × List Byte) :=
  if bs.length < n then none else some (leNat (bs.take n), bs.drop n)

/-- A character field: a length byte, then that many character codes. -/
def takeChars : List Byte → Option (List Byte × List Byte)
  | [] => none
  | n :: bs => if bs.length < n.toNat then none else some (bs.take n.toNat, bs.drop n.toNat)

/-- An optional field: presence byte 0 or 1, then the field when present. Another presence byte breaks the layout (log 25). -/
def takeOpt {α : Type} (field : List Byte → Option (α × List Byte)) : List Byte → Option (Option α × List Byte)
  | [] => none
  | p :: bs =>
    if p = 0#8 then some (none, bs)
    else if p = 1#8 then (field bs).map fun r => (some r.1, r.2)
    else none

/-- A body that holds one field and nothing more. -/
def wholeBody {α : Type} (r : Option (α × List Byte)) : Option α :=
  match r with
  | some (a, []) => some a
  | _ => none

/-- Numbers of the given sizes in order, and nothing more. -/
def takeNums : List Nat → List Byte → Option (List Nat × List Byte)
  | [], bs => some ([], bs)
  | n :: ns, bs =>
    match takeNum n bs with
    | none => none
    | some (v, bs) => (takeNums ns bs).map fun r => (v :: r.1, r.2)

/-! ### The frame header (12.2, R200) -/

/-- The body length a header gives. -/
def headerLength (t : List Byte) : Nat := leNat ((t.drop 4).take 2)

/-- The format check of R189. -/
def formatOk (t : List Byte) : Bool :=
  decide (6 ≤ t.length ∧ t.length ≤ Config.frameMax ∧ t.length = 6 + headerLength t)

def kindCode (t : List Byte) : Nat := leNat (t.take 2)

def tagOf (t : List Byte) : Byte := t.getD 2 0#8

/-- A RESET that is taken as it arrives (R198): at least 6 bytes, RESET's kind code, body length 0 and no body. -/
def isReset (t : List Byte) : Bool := decide (t.length = 6 ∧ kindCode t = 36 ∧ headerLength t = 0)

/-! ### Taking a request (R190) -/

/-- The request of kind code `code` at the head of the intake, when it is taken: the reply queue has room and the
transfer passes the format check. Its tag, its body, and the state with the transfer gone from the intake. -/
def takeRequest (code : Nat) (s : State) : Option (Byte × List Byte × State) :=
  match s.link.intake with
  | [] => none
  | t :: rest =>
    if s.link.replies.length < Config.replyCap ∧ formatOk t = true ∧ kindCode t = code then
      some (tagOf t, t.drop 6, { s with link.intake := rest })
    else none

/-- A request row: the request at the head of the intake is taken, its block decides, its reply joins the reply queue;
when there is none of this row's kind the command finds nothing to take (log 2, log 3). -/
def serve (code : Nat) (block : List Byte → State → ReplyBody × State) (s : State) :
    Host.Outcome State Fault Refusal :=
  match takeRequest code s with
  | none => .next s
  | some (tag, body, s) =>
    let r := block body s
    .next (queueReply code tag r.1 r.2)

/-- A request whose body is to be empty. -/
def noBody (block : State → ReplyBody × State) (body : List Byte) (s : State) : ReplyBody × State :=
  match body with
  | [] => block s
  | _ => (refuse .badField 0, s)

/-- A request whose body is read by `layout`; a body that does not match is BAD_FIELD 0 (R189). -/
def withBody {α : Type} (layout : List Byte → Option α) (block : α → State → ReplyBody × State)
    (body : List Byte) (s : State) : ReplyBody × State :=
  match layout body with
  | some a => block a s
  | none => (refuse .badField 0, s)

/-! ### Named values by code (R200) -/

def bankOfCode : Nat → Option BankId
  | 0 => some .a
  | 1 => some .b
  | _ => none

def yesNoOfCode : Nat → Option Bool
  | 0 => some false
  | 1 => some true
  | _ => none

def walkOfCode : Nat → Option Walk
  | 0 => some .raster
  | 1 => some .serpentine
  | _ => none

def retryBankOfCode : Nat → Option RetryBank
  | 0 => some .same
  | 1 => some .alternate
  | _ => none

def bankPrefOfCode : Nat → Option BankPref
  | 0 => some .aOnly
  | 1 => some .bOnly
  | 2 => some .aFirst
  | 3 => some .bFirst
  | _ => none

def zoneKindOfCode : Nat → Option ZoneKind
  | 0 => some .skip
  | 1 => some .guard
  | _ => none

def severityOfCode : Nat → Option Severity
  | 0 => some .corrected
  | 1 => some .degraded
  | 2 => some .fatal
  | _ => none

/-- Mask values in the order of R175: masked, unmasked. -/
def maskOfCode : Nat → Option Bool
  | 0 => some true
  | 1 => some false
  | _ => none

def faultKindOfCode (n : Nat) : Option FaultKind := allKinds[n]?

/-- The sixteen parameters in the order of the table of 12.4, the order of their codes. -/
def allParams : List ParamId :=
  [.clipLevel, .signalFloor, .driftTol, .frameGrace, .moveLimit, .handlerLimit, .flatAgeLimit, .lampLevelA,
   .lampLevelB, .calX, .calY, .timeRes, .notifyCorrected, .notifyDegraded, .notifyFatal, .counterNotify]

def paramOfCode (n : Nat) : Option ParamId := allParams[n]?

/-! ### The job record (R1, R2, R4 to R7) -/

/-- The fields of ENQUEUE-PLATE as they stand in the body, codes and numbers unchecked. -/
structure RawJob where
  plateId : List Byte
  /-- Indices 2 to 21, in order. -/
  nums : List Nat
  budget : Option Nat
  mask : Option Nat
  stopOnAttention : Nat
  notifyQuiet : Nat
  window : Option (List Nat)
  useZones : Nat
deriving DecidableEq, Repr

/-- The sizes of indices 2 to 21: slot, format_class, rows, cols, the six lengths, walk, the two rungs, max_extensions,
the two limits, retry_count, the two retry banks, bank_pref. -/
def jobSizes : List Nat := [1, 1, 1, 1, 4, 4, 4, 4, 4, 4, 1, 1, 1, 1, 2, 2, 1, 1, 1, 1]

/-- The layout of ENQUEUE-PLATE's body. -/
def jobLayout (body : List Byte) : Option RawJob := do
  let (plateId, bs) ← takeChars body
  let (nums, bs) ← takeNums jobSizes bs
  let (budget, bs) ← takeOpt (takeNum 2) bs
  let (mask, bs) ← takeOpt (takeNum 1) bs
  let (stop, bs) ← takeNum 1 bs
  let (quiet, bs) ← takeNum 1 bs
  let (window, bs) ← takeOpt (takeNums [2, 2, 2, 2]) bs
  let zones ← wholeBody (takeNum 1 bs)
  return ⟨plateId, nums, budget, mask, stop, quiet, window, zones⟩

/-- The number of index `i`, 2 to 21. -/
def RawJob.num (r : RawJob) (i : Nat) : Nat := r.nums.getD (i - 2) 0

/-- The window's conditions (R4). -/
def windowOk : List Nat → Bool
  | [x0, y0, w, h] =>
    decide (x0 % 64 = 0 ∧ w % 64 = 0 ∧ 64 ≤ w ∧ w ≤ 4096 ∧ y0 % 16 = 0 ∧ h % 16 = 0 ∧ 64 ≤ h ∧ h ≤ 3072
      ∧ x0 + w ≤ 4096 ∧ y0 + h ≤ 3072)
  | _ => false

/-- The "refused" checks of R1 and R4 in index order: whether each index is in range. -/
def RawJob.checks (r : RawJob) : List (Nat × Bool) :=
  [(1, decide (1 ≤ r.plateId.length ∧ r.plateId.length ≤ 24) && r.plateId.all fun c => decide (32 ≤ c.toNat ∧ c.toNat ≤ 126)),
   (2, decide (1 ≤ r.num 2 ∧ r.num 2 ≤ 24)),
   (3, decide (r.num 3 ≤ 7)),
   (4, decide (1 ≤ r.num 4 ∧ r.num 4 ≤ 16)),
   (5, decide (1 ≤ r.num 5 ∧ r.num 5 ≤ 16)),
   (6, decide (r.num 6 ≤ Config.travelMax)),
   (7, decide (r.num 7 ≤ Config.travelMax)),
   (8, decide (1 ≤ r.num 8 ∧ r.num 8 ≤ Config.travelMax)),
   (9, decide (1 ≤ r.num 9 ∧ r.num 9 ≤ Config.travelMax)),
   (10, decide (1 ≤ r.num 10 ∧ r.num 10 ≤ Config.travelMax)),
   (11, decide (1 ≤ r.num 11 ∧ r.num 11 ≤ Config.travelMax)),
   (12, (walkOfCode (r.num 12)).isSome),
   (13, decide (r.num 13 ≤ 7)),
   (14, decide (r.num 14 ≤ 7 ∧ r.num 13 ≤ r.num 14)),
   (19, (retryBankOfCode (r.num 19)).isSome),
   (20, (retryBankOfCode (r.num 20)).isSome),
   (21, (bankPrefOfCode (r.num 21)).isSome),
   (23, r.mask.all fun m => decide (m < 64)),
   (24, (yesNoOfCode r.stopOnAttention).isSome),
   (25, (yesNoOfCode r.notifyQuiet).isSome),
   (26, r.window.all windowOk),
   (27, (yesNoOfCode r.useZones).isSome)]

/-- The index of the first field out of range by a "refused" rule (R6). -/
def RawJob.firstBad (r : RawJob) : Option Nat := (r.checks.find? fun c => !c.2).map (·.1)

/-- The clamped fields: index, value given, value taken (R7). -/
def RawJob.clamped (r : RawJob) : List (Nat × Nat × Nat) :=
  [(15, r.num 15, min (r.num 15) 3), (16, r.num 16, min (r.num 16) 1000), (17, r.num 17, min (r.num 17) 1000),
   (18, r.num 18, min (r.num 18) 2)]

/-- The list of an ADJUSTED reply: each clamped field's index and the value taken (R7). -/
def RawJob.clamps (r : RawJob) : List (Nat × Nat) :=
  (r.clamped.filter fun c => decide (c.2.1 ≠ c.2.2)).map fun c => (c.1, c.2.2)

def windowOf : Option (List Nat) → Window
  | some [x0, y0, w, h] => ⟨x0, y0, w, h⟩
  | _ => fullWindow

/-- The job record as taken, clamped and completed (R2, R7). -/
def RawJob.record (r : RawJob) : JobRecord :=
  { plateId := r.plateId, slot := r.num 2, formatClass := r.num 3, rows := r.num 4, cols := r.num 5,
    originX := r.num 6, originY := r.num 7, stepX := r.num 8, stepY := r.num 9, fieldX := r.num 10, fieldY := r.num 11,
    walk := (walkOfCode (r.num 12)).getD .raster, firstRung := r.num 13, lastRung := r.num 14,
    maxExtensions := min (r.num 15) 3, underLimit := min (r.num 16) 1000, overLimit := min (r.num 17) 1000,
    retryCount := min (r.num 18) 2, retryBank1 := (retryBankOfCode (r.num 19)).getD .same,
    retryBank2 := (retryBankOfCode (r.num 20)).getD .same, bankPref := (bankPrefOfCode (r.num 21)).getD .aOnly,
    budgetS := r.budget.bind fun b => if b = 0 then none else some b,
    attention := (r.mask.map (BitVec.ofNat 6)).getD 63#6, attentionDefaulted := r.mask.isNone,
    stopOnAttention := r.stopOnAttention == 1, notifyQuiet := r.notifyQuiet == 1,
    window := windowOf r.window, windowDefaulted := r.window.isNone, useZones := r.useZones == 1 }

/-- The last target point of a job on each axis (R5). -/
def JobRecord.lastX (r : JobRecord) : Nat := r.originX + (r.cols - 1) * r.stepX + r.fieldX / 2
def JobRecord.lastY (r : JobRecord) : Nat := r.originY + (r.rows - 1) * r.stepY + r.fieldY / 2

/-- The travel check: index and coordinate of the axis that fails, x before y (R5). -/
def JobRecord.outOfTravel (r : JobRecord) : Option (Nat × Nat) :=
  if Config.travelMax < r.lastX then some (6, r.lastX)
  else if Config.travelMax < r.lastY then some (7, r.lastY)
  else none

/-! ### SET-PARAM's value (R192, R200) -/

/-- A value as SET-PARAM's body gives it: its form byte decides its layout. -/
inductive RawValue where
  | number (n : Nat)
  | onOff (code : Nat)
  | flags (count mask : Nat)
  /-- A form byte that is none of 0, 1, 2, with whatever follows it (log 25). -/
  | unknown
deriving DecidableEq, Repr

/-- The layout of a value. -/
def valueLayout : List Byte → Option RawValue
  | [] => none
  | form :: bs =>
    if form = 0#8 then (wholeBody (takeNum 4 bs)).map RawValue.number
    else if form = 1#8 then (wholeBody (takeNum 1 bs)).map RawValue.onOff
    else if form = 2#8 then
      match bs with
      | [] => none
      | count :: bs => (wholeBody (takeNum ((count.toNat + 7) / 8) bs)).map (RawValue.flags count.toNat)
    else some .unknown

/-- SET-PARAM's body: a name code and a value. -/
def setParamLayout : List Byte → Option (Nat × RawValue)
  | [] => none
  | name :: bs => (valueLayout bs).map fun v => (name.toNat, v)

/-! ### READ-TILE-RECORD's choice (R160, R200) -/

inductive RecordChoice where
  | sequence (n : Nat)
  | next
  /-- A selector that is none of its values (log 25). -/
  | unknown
deriving DecidableEq, Repr

def choiceLayout : List Byte → Option RecordChoice
  | [] => none
  | sel :: bs =>
    if sel = 0#8 then (wholeBody (takeNum 4 bs)).map RecordChoice.sequence
    else if sel = 1#8 then (match bs with | [] => some .next | _ => none)
    else some .unknown

/-- One number of `n` bytes and nothing more. -/
def numBody (n : Nat) (body : List Byte) : Option Nat := wholeBody (takeNum n body)

/-- Numbers of the given sizes and nothing more. -/
def numsBody (sizes : List Nat) (body : List Byte) : Option (List Nat) := wholeBody (takeNums sizes body)

/-- One optional number of `n` bytes and nothing more. -/
def optBody (n : Nat) (body : List Byte) : Option (Option Nat) := wholeBody (takeOpt (takeNum n) body)

end Sys2Proof.Machine
end

