-- ==== Sys2Proof/Machine/Output.lean ====
section
/-! DEFINITION. The output unit: the writing of a tile record (R157, R159), the reading of the log (R158, R160, R161), the image
sender (R151, R152). -/

namespace Sys2Proof.Machine

open Sys2Proof

/-! ### Stamps -/

/-- The item that lies farthest back: the one of greatest age, the first of them when ages are equal (R96, R150). -/
def oldestBy {α : Type} (age : α → Option Nat) : List α → Option α
  | [] => none
  | x :: xs =>
    match age x, oldestBy age xs with
    | none, r => r
    | some _, none => some x
    | some a, some y => if (age y).getD 0 ≤ a then some x else some y

/-! ### The tile log -/

def State.held (s : State) : Nat := s.out.records.length

/-- Unread: newest - read mark, modulo 4,294,967,296 (R156). -/
def State.unread (s : State) : Nat := subU32 s.out.newest s.out.readMark

/-- A record's place in the counts of its job (R16, R21). -/
def RecordCounts.count (c : RecordCounts) (r : TileRecord) : RecordCounts :=
  match r.status with
  | .captured => { c with captured := c.captured + 1, attention := c.attention + (if r.attention then 1 else 0) }
  | .skipped => { c with skipped := c.skipped + 1 }
  | .guarded => { c with guarded := c.guarded + 1 }
  | .notCaptured => { c with notCaptured := c.notCaptured + 1 }

def RecordCounts.total (c : RecordCounts) : Nat := c.captured + c.skipped + c.guarded + c.notCaptured

/-- A quiet tile (R159). -/
def TileRecord.quiet (r : TileRecord) : Bool :=
  match r.status with
  | .captured => !r.attention
  | .skipped => true
  | .guarded | .notCaptured => false

/-- Steps 1 and 2 of R157: the record takes the next sequence and joins the ring, the oldest giving way at 256. -/
def joinRing (r : TileRecord) (s : State) : State :=
  let seq := (s.out.newest + 1) % modU32
  let kept := if s.out.records.length < Config.logCap then s.out.records else s.out.records.drop 1
  { s with out.newest := seq, out.records := kept ++ [{ r with sequence := seq }] }

/-- Steps 3 and 4 of R157, `unread` being the count before the write: WRAP, or HALF at the rise from 127 to 128. -/
def logNotices (unread : Nat) (s : State) : State :=
  if unread = Config.logCap then
    let lost := (s.out.readMark + 1) % modU32
    let s := { s with out.readMark := lost }
    postNotice (.logWrap lost s.out.newest lost) s
  else if unread = 127 then postNotice (.logHalf s.out.newest s.out.readMark (unread + 1)) s
  else s

/-- Step 5 of R157: TILE-DONE, unless the tile is quiet and its job's notify_quiet is no (R159). -/
def tileDone (r : TileRecord) (notifyQuiet : Bool) (s : State) : State :=
  if r.quiet && !notifyQuiet then s
  else postNotice (.tileDone s.out.newest r.number r.row r.col r.ordinal r.status r.attention r.conds r.ended) s

/-- Step 6 of R157: the station's tile counters of a record that is not CAPTURED. -/
def countStatus (r : TileRecord) (s : State) : State :=
  match r.status with
  | .captured => s
  | .skipped | .guarded => addCounter .tilesSkipped 1 s
  | .notCaptured => addCounter .tilesNotCaptured 1 s

/-- A completed record reaches the output unit (R157). Its job's counts gain it (R16, R21). -/
def writeRecord (r : TileRecord) (notifyQuiet : Bool) (s : State) : State :=
  let unread := s.unread
  let s := joinRing r s
  let s := { s with pass.counts := s.pass.counts.count r }
  countStatus r (tileDone r notifyQuiet (logNotices unread s))

/-! ### Reading the log -/

/-- A held record moves the read mark when it is unread, that is, newer than the mark (R158). -/
def markRead (seq : Nat) (s : State) : State :=
  if subU32 s.out.newest seq < s.unread then { s with out.readMark := seq } else s

/-- The record a sequence names, when it is held. -/
def State.heldRecord (s : State) (seq : Nat) : Option TileRecord :=
  s.out.records.find? fun r => decide (r.sequence = seq)

/-- READ-TILE-RECORD (R160). -/
def readTileRecord (choice : RecordChoice) (s : State) : ReplyBody × State :=
  let answerWith (found : Option TileRecord) : ReplyBody × State :=
    match found with
    | none => (.refused .notFound 0 (.tileRecord none s.out.newest s.out.readMark s.unread), s)
    | some r =>
      let t := markRead r.sequence s
      (.ok (.tileRecord (some r) t.out.newest t.out.readMark t.unread), t)
  match choice with
  | .sequence n => answerWith (s.heldRecord n)
  | .next => answerWith (if s.unread = 0 then none else s.heldRecord ((s.out.readMark + 1) % modU32))
  | .unknown => (refuse .badField 1, s)

def execReadTileRecord (s : State) : Host.Outcome State Fault Refusal :=
  serve 22 (withBody choiceLayout readTileRecord) s

/-- A buffer as READ-LOG-STATE returns it (R161). -/
def Buf.view (b : Buf) : BufView :=
  { state := b.state, label := b.label, stamp := b.stamp,
    rowsTaken := match b.state with | .sending => some b.rowsTaken | _ => none }

/-- READ-LOG-STATE (R161). -/
def readLogState (s : State) : ReplyBody × State :=
  (.ok (.logState s.held s.out.newest s.out.readMark s.unread (s.out.records.head?.map (·.sequence))
    (s.out.t1.map Buf.view) (s.out.t2.map Buf.view) (s.out.t3.map Buf.view) (s.out.t4.map Buf.view) s.link.state), s)

def execReadLogState (s : State) : Host.Outcome State Fault Refusal := serve 23 (noBody readLogState) s

/-! ### The image sender -/

/-- How far back a READY buffer's stamp lies from the last one given (R150). -/
def State.readyAge (s : State) (i : BufId) : Option Nat :=
  (s.buf i).bind fun b =>
    match b.state, b.stamp with
    | .ready, some stamp => some (subU32 s.out.lastStamp stamp)
    | _, _ => none

def State.sendingBuf (s : State) : Option BufId :=
  allBufs.find? fun i => (s.buf i).any fun b => decide (b.state = .sending)

/-- IMAGE_SENDER_TAKE (R151): with no buffer SENDING and the link CONFIGURED, the READY buffer with the oldest stamp
becomes SENDING with no frame taken. -/
def execImageSenderTake (s : State) : Host.Outcome State Fault Refusal :=
  if s.sendingBuf = none ∧ s.link.state = .configured then
    match oldestBy s.readyAge allBufs with
    | none => .next s
    | some i => .next (s.setBuf i ((s.buf i).map fun b => { b with state := .sending, headerTaken := false, rowsTaken := 0 }))
  else .next s

/-- The host takes the frame a SENDING buffer offers: its TILE-HEADER, then its ROW frames, then its TILE-END, which
frees the buffer (R152). -/
def takeImageFrame (b : Buf) : Option Buf :=
  if !b.headerTaken then some { b with headerTaken := true }
  else if b.rowsTaken < b.rows.length then some { b with rowsTaken := b.rowsTaken + 1 }
  else none

/-- IMAGE_FRAME_TAKEN (R152). -/
def execImageFrameTaken (s : State) : Host.Outcome State Fault Refusal :=
  if s.link.state = .configured then
    match s.sendingBuf with
    | none => .next s
    | some i => .next (s.setBuf i ((s.buf i).bind takeImageFrame))
  else .next s

/-- A link reset's effect on the buffers: a SENDING one returns to READY, its ROW count 0 (R153). -/
def Buf.unsend (b : Buf) : Buf :=
  match b.state with
  | .sending => { b with state := .ready, headerTaken := false, rowsTaken := 0 }
  | _ => b

def unsendBuffers (s : State) : State :=
  { s with out.t1 := s.out.t1.map Buf.unsend, out.t2 := s.out.t2.map Buf.unsend,
           out.t3 := s.out.t3.map Buf.unsend, out.t4 := s.out.t4.map Buf.unsend }

end Sys2Proof.Machine
end

