-- ==== Sys2Proof/Machine/Stats.lean ====
section
/-! DEFINITION. The statistics unit: the plate histogram (R166 to R169) and the station counters' reads (R173). -/

namespace Sys2Proof.Machine

open Sys2Proof

/-- The histogram is cleared and opened for a job at the issue of LOAD (R166). -/
def openHistogram (job : Nat × List Byte) (s : State) : State :=
  { s with stats.histState := .opened, stats.histJob := some job, stats.bins := List.replicate 41 0, stats.nOver := 0,
           stats.nUnder := 0, stats.nDefect := 0, stats.tilesAdded := 0 }

/-- The end of a job that issued LOAD freezes the histogram (R168). -/
def freezeHistogram (s : State) : State :=
  match s.stats.histState with
  | .opened => { s with stats.histState := .frozen }
  | .none | .frozen => s

/-- A converted tile is added to an OPEN histogram as one event (R167). -/
def addHistogram (g : ConvFigures) (s : State) : State :=
  match s.stats.histState with
  | .opened =>
    { s with stats.bins := List.zipWith (satAdd maxU32) s.stats.bins g.bins,
             stats.nOver := satAdd maxU32 s.stats.nOver g.nOver,
             stats.nUnder := satAdd maxU32 s.stats.nUnder g.nUnder,
             stats.nDefect := satAdd maxU32 s.stats.nDefect g.nDefect,
             stats.tilesAdded := s.stats.tilesAdded + 1 }
  | .none | .frozen => s

/-- A conversion end's additions to the station counters (R170: 3, 4, 14, 15, 16). They are one event; that the notices of different
counters are posted in number order is the model's choice (R171, R172; log 55). -/
def countConversion (g : ConvFigures) (attention : Bool) (s : State) : State :=
  let s := addCounter .tilesCaptured 1 s
  let s := if attention then addCounter .tilesAttention 1 s else s
  let s := addCounter .pixelsOver g.nOver s
  let s := addCounter .pixelsUnder g.nUnder s
  addCounter .pixelsDefect g.nDefect s

/-- A job's end adds to PLATES_DONE or PLATES_FAILED; a CANCELLED job adds to neither (R170). -/
def countJobEnd (outcome : JobOutcome) (s : State) : State :=
  match outcome with
  | .done | .doneDegraded => addCounter .platesDone 1 s
  | .failed | .overtime | .slotEmpty | .noBank => addCounter .platesFailed 1 s
  | .cancelled => s

/-- READ-HISTOGRAM (R169). -/
def readHistogram (s : State) : ReplyBody × State :=
  (.ok (.histogram s.stats.histState s.stats.histJob s.stats.tilesAdded s.stats.bins s.stats.nOver s.stats.nUnder
    s.stats.nDefect s.stats.bins.sum), s)

def execReadHistogram (s : State) : Host.Outcome State Fault Refusal := serve 24 (noBody readHistogram) s

/-- The clearing of READ-COUNTERS: every counter 0, every mark ARMED, last cleared the time tag of the read (R173). -/
def clearCounters (s : State) : State :=
  { s with stats.counters := List.replicate 16 resetCounter, stats.lastCleared := s.tag }

/-- READ-COUNTERS, with its clear choice (R173). -/
def readCounters (clear : Nat) (s : State) : ReplyBody × State :=
  let content := Content.counters s.stats.counters s.stats.lastCleared s.tag
  match yesNoOfCode clear with
  | none => (refuse .badField 1, s)
  | some false => (.ok content, s)
  | some true => (.ok content, clearCounters s)

def execReadCounters (s : State) : Host.Outcome State Fault Refusal := serve 25 (withBody (numBody 1) readCounters) s

end Sys2Proof.Machine
end

