-- ==== Sys2Proof/Machine/Faults.lean ====
section
/-! DEFINITION. The fault unit's commands: FAULT_TAKEN (R177, R178) and its five requests (R176, R183 to R186). -/

namespace Sys2Proof.Machine

open Sys2Proof

/-- The kinds a "kind or ALL" code names: the item's code, or 255 for ALL (R200). -/
def kindsOfCode (n : Nat) : Option (List FaultKind) :=
  if n = 255 then some allKinds else (faultKindOfCode n).map fun k => [k]

/-- FAULT_TAKEN: the fault unit takes one of the faults raised and not yet taken, and records it (R177, R178; log 7). The numbers
past the last one's go on to the faults still to be raised that the pass controller acts on: the one it means is recorded before its
action (log 68). -/
def execFaultTaken (which : Nat) (s : State) : Host.Outcome State Fault Refusal :=
  if which < s.faults.raised.length then .next (takeRaised which s)
  else .next { s with faults.ahead := recordAhead (which - s.faults.raised.length) s.faults.ahead }

/-! ### SET-FAULT-CONTROL (R176) -/

/-- Kind or ALL, an optional mask, an optional severity. -/
def faultControlLayout (body : List Byte) : Option (Nat × Option Nat × Option Nat) := do
  let (kind, bs) ← takeNum 1 body
  let (mask, bs) ← takeOpt (takeNum 1) bs
  let severity ← wholeBody (takeOpt (takeNum 1) bs)
  return (kind, mask, severity)

/-- A field present replaces a kind's value; a field absent leaves it. -/
def controlKind (mask : Option Bool) (severity : Option Severity) (s : State) (k : FaultKind) : State :=
  let ks := s.kind k
  s.setKind k { ks with masked := mask.getD ks.masked, severity := severity.getD ks.severity }

def State.controlRow (s : State) (k : FaultKind) : FaultKind × Bool × Severity :=
  (k, (s.kind k).masked, (s.kind k).severity)

/-- R176 names a check for each field and one for the body, and no order among them: of several that fail the model answers index 1
first, then 2, then 3, then 0 for a request that carries neither field (log 66). -/
def setFaultControl (r : Nat × Option Nat × Option Nat) (s : State) : ReplyBody × State :=
  match kindsOfCode r.1 with
  | none => (refuse .badField 1, s)
  | some kinds =>
    if r.2.1.any fun m => (maskOfCode m).isNone then (refuse .badField 2, s)
    else if r.2.2.any fun m => (severityOfCode m).isNone then (refuse .badField 3, s)
    else if r.2.1 = none ∧ r.2.2 = none then (refuse .badField 0, s)
    else
      let t := kinds.foldl (controlKind (r.2.1.bind maskOfCode) (r.2.2.bind severityOfCode)) s
      (.ok (.faultControl (kinds.map t.controlRow)), t)

def execSetFaultControl (s : State) : Host.Outcome State Fault Refusal :=
  serve 26 (withBody faultControlLayout setFaultControl) s

/-! ### CLEAR-FAULT (R183) -/

def clearKind (s : State) (k : FaultKind) : State :=
  let ks := s.kind k
  s.setKind k { ks with seen := false, count := 0 }

/-- A slot whose held kind is cleared becomes empty. -/
def emptySlot (kinds : List FaultKind) (slot : Option FaultSlot) : Option FaultSlot :=
  slot.filter fun f => !kinds.contains f.kind

def State.clearRow (s : State) (k : FaultKind) : FaultKind × Bool × Nat × Bool :=
  (k, (s.kind k).seen, (s.kind k).count, (s.kind k).masked)

def clearFault (code : Nat) (s : State) : ReplyBody × State :=
  match kindsOfCode code with
  | none => (refuse .badField 1, s)
  | some kinds =>
    let t := kinds.foldl clearKind s
    let t := { t with faults.corrected := emptySlot kinds t.faults.corrected,
                      faults.serious := emptySlot kinds t.faults.serious }
    (.ok (.faultCleared (kinds.map t.clearRow) t.faults.corrected t.faults.serious), t)

def execClearFault (s : State) : Host.Outcome State Fault Refusal := serve 27 (withBody (numBody 1) clearFault) s

/-! ### INJECT-FAULT and LOCK-INJECTION (R184, R185) -/

/-- The context of an injected fault: what stands at the taking (R70, R184). -/
def State.injectCtx (s : State) : Ctx :=
  ⟨s.jobCtx, s.tileCtx, s.ladder.bind (·.current), s.pass.bank.map (·.bank)⟩

/-- R184 does not say which refusal an unknown kind meets while the lock is locked: the model answers BAD_FIELD 1, the field's check
coming before the lock (log 67). -/
def injectFault (code : Nat) (s : State) : ReplyBody × State :=
  match faultKindOfCode code with
  | none => (refuse .badField 1, s)
  | some k =>
    if s.faults.locked then (refuse .locked, s)
    else
      let r := recordFault k s.injectCtx true s
      let ks := r.1.kind k
      (.ok (.injected ks.seen ks.count ks.severity r.2), r.1)

def execInjectFault (s : State) : Host.Outcome State Fault Refusal := serve 28 (withBody (numBody 1) injectFault) s

def lockInjection (s : State) : ReplyBody × State := (.ok (.lock true), { s with faults.locked := true })

def execLockInjection (s : State) : Host.Outcome State Fault Refusal := serve 29 (noBody lockInjection) s

/-! ### READ-FAULTS (R186) -/

def readFaults (s : State) : ReplyBody × State :=
  (.ok (.faults s.faults.kinds s.faults.corrected s.faults.serious s.params.notifyCorrected s.params.notifyDegraded
    s.params.notifyFatal s.faults.locked s.faults.jobMark (s.pass.job.map (·.number))), s)

def execReadFaults (s : State) : Host.Outcome State Fault Refusal := serve 30 (noBody readFaults) s

end Sys2Proof.Machine
end

