-- ==== Sys2Proof/Machine/Motion.lean ====
section
/-! DEFINITION. The motion port: orders and STOP (R133, R134, R136, R137), the records of the line (R201), the matching of reports
(R135), READ-MOTION (R145). What a requester does at an order's end stands with the requester. -/

namespace Sys2Proof.Machine

open Sys2Proof

/-! ### Records (R201) -/

/-- `n` bytes of a number, least significant first. -/
def leBytes : Nat → Nat → List Byte
  | 0, _ => []
  | n + 1, v => BitVec.ofNat 8 v :: leBytes n (v / 256)

/-- The check byte: the low 8 bits of the sum of bytes 1 to 8. -/
def checkByte (body : List Byte) : Byte := BitVec.ofNat 8 ((body.map BitVec.toNat).sum)

/-- A record of 10 bytes: start byte, kind, number, two arguments of 3 bytes, check. -/
def motionRecord (code number arg1 arg2 : Nat) : List Byte :=
  let body := BitVec.ofNat 8 code :: BitVec.ofNat 8 number :: (leBytes 3 arg1 ++ leBytes 3 arg2)
  197#8 :: (body ++ [checkByte body])

def OrderKind.code : OrderKind → Nat
  | .move => 1
  | .home => 2
  | .load => 3
  | .ret => 4

def stopCode : Nat := 5

def reportOfCode : Nat → Option ReportKind
  | 17 => some .done
  | 18 => some .empty
  | 19 => some .halted
  | 20 => some .stopped
  | _ => none

/-- The part sends a record on the line (log 34). -/
def sendRecord (bytes : List Byte) (s : State) : State := { s with motion.sent := s.motion.sent ++ [bytes] }

/-! ### Issuing (R134) -/

/-- The limit an order latches, in seconds. -/
def State.limitFor (s : State) : OrderKind → Nat
  | .move | .home => s.params.moveLimit
  | .load | .ret => s.params.handlerLimit

/-- The number an order or a STOP takes; the next one follows it, passing from 255 to 0. -/
def takeNumber (s : State) : State := { s with motion.nextNumber := (s.motion.nextNumber + 1) % 256 }

/-- What an issue brings to the pass and the histogram: LOAD (R26, R36, R166) and RETURN (R33, R36, R142). -/
def issueEffects (kind : OrderKind) (s : State) : State :=
  match kind with
  | .move | .home => s
  | .load =>
    let s := { s with pass.loadIssued := true }
    let s := match s.pass.budget.state with
      | .waiting => { s with pass.budget.state := .running }
      | _ => s
    match s.jobCtx with
    | some job => openHistogram job s
    | none => s
  | .ret => { stopBudget s with motion.expect := .none }

/-- An order is issued (R134): it takes the next number, latches its limit, becomes outstanding, clears the position and is
sent. A LOAD or RETURN keeps the position it found (R135). -/
def issueOrder (w : Wanted) (retried : Bool) (s : State) : State :=
  let n := s.motion.nextNumber
  let s := { takeNumber s with
    motion.order := some
      { kind := w.kind, number := n, arg1 := w.arg1, arg2 := w.arg2, requester := w.requester, limit := s.limitFor w.kind,
        issuedAt := s.now, retried := retried, awaitingReissue := false, savedPosition := s.motion.position },
    motion.position := none }
  issueEffects w.kind (sendRecord (motionRecord w.kind.code n w.arg1 w.arg2) s)

/-- No order and no STOP is outstanding. -/
def State.motionFree (s : State) : Bool := s.motion.order.isNone && s.motion.stop.isNone

/-- A requester wants an order: it is issued, or waits while an order or a STOP is outstanding (R134). -/
def wantOrder (w : Wanted) (s : State) : State :=
  if s.motionFree then issueOrder w false s else { s with motion.waiting := some w }

/-! ### STOP (R136) -/

/-- STOP becomes outstanding and is sent at once. -/
def newStop (reissue : Bool) (s : State) : State :=
  let n := s.motion.nextNumber
  let s := { takeNumber s with motion.stop := some ⟨n, s.params.moveLimit, s.now, reissue⟩ }
  sendRecord (motionRecord stopCode n 0 0) s

/-- STOP is due: it abandons an outstanding order, and an order that waits (log 33). A STOP already outstanding serves for
both, and its reissue is cleared (R136). -/
def sendStop (s : State) : State :=
  let s := { s with motion.order := none, motion.waiting := none }
  match s.motion.stop with
  | some st => { s with motion.stop := some { st with reissue := false } }
  | none => newStop false s

/-- The STOP of a first timeout: the order keeps its place, its number is no longer live, and it is issued again when
the STOP completes (R136, R137). -/
def retryStop (s : State) : State :=
  newStop true { s with motion.order := s.motion.order.map fun o => { o with awaitingReissue := true } }

/-- The STOP completes; with reissue pending the timed-out order is issued again with a new number, retried yes (R137). -/
def completeStop (unsure : Bool) (s : State) : State :=
  let reissue := s.motion.stop.any (·.reissue)
  let s := { s with motion.stop := none, motion.unsure := s.motion.unsure || unsure }
  match s.motion.order with
  | some o => if reissue then issueOrder ⟨o.kind, o.arg1, o.arg2, o.requester⟩ true s else s
  | none => s

/-! ### Reports (R135, R201) -/

/-- What a report does (the table of R135). -/
inductive ReportEffect where
  | orderDone
  | orderEmpty
  | orderHalted
  /-- The STOP completes; with positioner-unsure set for a HALTED report. -/
  | stopDone (unsure : Bool)
  | nothing
deriving DecidableEq, Repr

/-- The outstanding order, when its number is live. -/
def State.liveOrder (s : State) : Option Order := s.motion.order.filter fun o => !o.awaitingReissue

def matchReport (kind : ReportKind) (number : Nat) (s : State) : ReportEffect :=
  match s.liveOrder.filter (fun o => decide (o.number = number)) with
  | some o =>
    match kind with
    | .done => .orderDone
    | .empty => if o.kind = .load then .orderEmpty else .nothing
    | .halted => .orderHalted
    | .stopped => .nothing
  | none =>
    match s.motion.stop.filter (fun st => decide (st.number = number)) with
    | some _ =>
      match kind with
      | .done | .stopped => .stopDone false
      | .halted => .stopDone true
      | .empty => .nothing
    | none => .nothing

/-- A discarded report or record adds 1, saturating (R133, R135, R201). -/
def discardReport (s : State) : State := { s with motion.discarded := satAdd 65535 s.motion.discarded 1 }

/-- A report taken is kept as the last report, with whether it was matched (R135). -/
def noteReport (kind : ReportKind) (number : Nat) (s : State) : State :=
  let matched := decide (matchReport kind number s ≠ .nothing)
  { s with motion.last := some ⟨kind, number, s.tag, matched⟩ }

/-- A completed record is admitted when its check holds, its kind is a report's and no byte had a framing error (R201). -/
def admitRecord (bytes : List Byte) (framingError : Bool) : Option (ReportKind × Nat) :=
  if framingError = false ∧ bytes.getD 9 0#8 = checkByte ((bytes.drop 1).take 8) then
    (reportOfCode (bytes.getD 1 0#8).toNat).map fun k => (k, (bytes.getD 2 0#8).toNat)
  else none

/-- One byte off the line joins the record being assembled, or starts one when it is 197 (R201). A completed record
comes back, with whether any of its bytes had a framing error. -/
def assemble (b : RxByte) (s : State) : State × Option (List Byte × Bool) :=
  if s.motion.rxBytes = [] ∧ b.byte ≠ 197#8 then (s, none)
  else
    let bytes := s.motion.rxBytes ++ [b.byte]
    let err := s.motion.rxError || b.framingError
    if bytes.length < 10 then ({ s with motion.rxBytes := bytes, motion.rxError := err }, none)
    else ({ s with motion.rxBytes := [], motion.rxError := false }, some (bytes, err))

/-- The position at a DONE or EMPTY (R135): a MOVE's target, a HOME's (0, 0), what a LOAD or RETURN found. The order ends. -/
def endOrder (o : Order) (s : State) : State :=
  let s := { s with motion.order := none }
  match o.kind with
  | .move => { s with motion.position := some (o.arg1, o.arg2) }
  | .home => { s with motion.position := some (0, 0), motion.unsure := false }
  | .load | .ret => { s with motion.position := o.savedPosition }

/-! ### Limits -/

/-- The limit of an order or a STOP has run out on the part's internal time. -/
def limitPassed (limit issuedAt now : Nat) : Bool := decide (issuedAt + limit * 1000000 ≤ now)

/-- The context of an order's requester (R122, R139). -/
def State.requesterCtx (s : State) : Requester → Ctx
  | .pass => s.passCtx
  | .calibration => ⟨none, none, none, s.cal.cal.map (·.bank)⟩
  | .homeRequest => noCtx

/-! ### READ-MOTION (R145) -/

/-- The whole milliseconds left to an order's limit. -/
def Order.msLeft (o : Order) (now : Nat) : Nat := (o.issuedAt + o.limit * 1000000 - now) / 1000

/-- READ-MOTION. An order that awaits its reissue is returned with the number of its first issue, no longer live, and 0 ms left: the
model's reading of "every field as it stood" (R136, R145; log 57). -/
def readMotion (s : State) : ReplyBody × State :=
  (.ok (.motion
    { nextNumber := s.motion.nextNumber, order := s.motion.order.map fun o => (o, o.msLeft s.now),
      stop := s.motion.stop, unsure := s.motion.unsure, position := s.motion.position, expect := s.motion.expect,
      discarded := s.motion.discarded, last := s.motion.last, homeRequest := s.motion.homeRequest,
      platePresent := s.platePresent }), s)

def execReadMotion (s : State) : Host.Outcome State Fault Refusal := serve 18 (noBody readMotion) s

end Sys2Proof.Machine
end

