-- ==== Sys2Proof/Machine/Lamp.lean ====
section
/-! DEFINITION. The lamp unit: exposures (R72 to R76), the bank's side of a driver fault (R77, R78), MONITOR_SAMPLE, LAMP-RESET and
READ-LAMPS (R80, R81). -/

namespace Sys2Proof.Machine

open Sys2Proof

/-! ### An exposure's start (R72) -/

/-- A bank is lit. -/
def State.anyLit (s : State) : Bool := s.lamps.a.lit || s.lamps.b.lit

/-- An accepted exposure: the record with DRIFT_TOL latched and the first monitor sample, the bank lit, the line raised for
E µs. -/
def expose (bank : BankId) (purpose : Purpose) (e : Nat) (reading : Sample) (s : State) : State :=
  let s := s.setBank bank { s.bank bank with lit := true }
  { s with
    lamps.exposure := some
      { bank := bank, purpose := purpose, exposure := e, startTag := s.tag, startAt := s.now,
        driftTol := s.params.driftTol, sum := reading.toNat, count := 1 },
    lamps.line := some (s.now + e) }

/-! ### Samples (R74) -/

/-- MONITOR_SAMPLE: the sample that is due at k × 100 µs after the start, k × 100 being less than E, joins the sum (R74). -/
def execMonitorSample (reading : Sample) (s : State) : Host.Outcome State Fault Refusal :=
  match s.lamps.exposure with
  | none => .next s
  | some x =>
    if 100 * x.count < x.exposure ∧ x.startAt + 100 * x.count ≤ s.now then
      .next { s with lamps.exposure := some { x with sum := x.sum + reading.toNat, count := x.count + 1 } }
    else .next s

/-! ### The end of an exposure (R73, R75, R76) -/

/-- M, the mean of the samples taken (R74). -/
def Exposure.mean (x : Exposure) : Nat := x.sum / x.count

/-- The verdict of an exposure that runs out: judged for RUNG against the bank's Mref, NOT_JUDGED for CALIBRATION (R73, R75). -/
def State.verdict (s : State) (x : Exposure) : Verdict :=
  match x.purpose with
  | .calibration => .notJudged
  | .rung => driftVerdict x.mean ((s.mref x.bank).getD 0) x.driftTol

/-- The Mref the last reading shows: when it was judged (R71). -/
def State.judgedMref (s : State) (x : Exposure) : Option Nat :=
  match x.purpose with
  | .calibration => none
  | .rung => s.mref x.bank

/-- The lamp unit's side of running out: the bank dark, the line low, the last reading written, the record absent (R73). -/
def darkenAtEnd (x : Exposure) (s : State) : State :=
  let b := s.bank x.bank
  let s := s.setBank x.bank
    { b with lit := false, lastReading := some ⟨x.exposure, x.purpose, x.count, x.mean, s.judgedMref x, s.verdict x⟩ }
  { s with lamps.exposure := none, lamps.line := none }

/-- Both banks dark and the exposure record absent; the line runs its full length, and nothing is judged (R76). -/
def darkenNow (s : State) : State :=
  { s with lamps.a.lit := false, lamps.b.lit := false, lamps.exposure := none }

/-! ### Driver faults (R77, R78) -/

/-- A bank becomes FAILED: failures rise, saturating, and the last failure takes the time tag and the lit state. -/
def failBank (bank : BankId) (lit : Bool) (s : State) : State :=
  let b := s.bank bank
  s.setBank bank
    { b with health := .failed, failures := satAdd 255 b.failures 1, lastFailure := some ⟨s.tag, lit⟩ }

/-- The context of a fault of a dark bank: the bank and, when a job is ACTIVE, the job (R78). -/
def State.darkCtx (s : State) (bank : BankId) : Ctx := ⟨s.jobCtx, none, none, some bank⟩

/-- A driver fault of a dark bank (R78). -/
def darkFault (bank : BankId) (s : State) : State :=
  raiseFault .bankFault (s.darkCtx bank) (failBank bank false s)

def setFaultInput (bank : BankId) (asserted : Bool) (s : State) : State :=
  s.setBank bank { s.bank bank with faultInput := asserted }

/-- FAULT_INPUT_CLEAR: the clearing is recorded and does nothing else (R77). -/
def execFaultInputClear (bank : BankId) (s : State) : Host.Outcome State Fault Refusal :=
  .next (setFaultInput bank false s)

/-- Fault inputs found asserted after a reset are taken as driver faults of dark banks, A before B, an order of
the model's (R77, R82; log 6). -/
def assertedFaults (s : State) : State :=
  let s := if s.lamps.a.faultInput then darkFault .a s else s
  if s.lamps.b.faultInput then darkFault .b s else s

/-! ### LAMP-RESET and READ-LAMPS -/

/-- LAMP-RESET (R80). -/
def lampReset (code : Nat) (s : State) : ReplyBody × State :=
  match bankOfCode code with
  | none => (refuse .badField 1, s)
  | some bank =>
    if (s.bank bank).faultInput then (.refused .faultAsserted 0 (.lamp (s.bank bank).health true), s)
    else (.ok (.lamp .ready false), s.setBank bank { s.bank bank with health := .ready })

def execLampReset (s : State) : Host.Outcome State Fault Refusal := serve 11 (withBody (numBody 1) lampReset) s

/-- A bank as READ-LAMPS returns it: its Mref when its flat is valid (R81). -/
def State.bankView (s : State) (bank : BankId) : BankView :=
  ⟨s.bank bank, s.level bank,
   match (s.flat bank).validity with
   | .valid => s.mref bank
   | .invalid => none⟩

/-- READ-LAMPS (R81). -/
def readLamps (s : State) : ReplyBody × State :=
  (.ok (.lamps (s.bankView .a) (s.bankView .b) s.lamps.exposure), s)

def execReadLamps (s : State) : Host.Outcome State Fault Refusal := serve 12 (noBody readLamps) s

end Sys2Proof.Machine
end

