-- ==== Sys2Proof/Machine/Intake.lean ====
section
/-! DEFINITION. The frame intake: claiming a slot (R86), receiving lines (R83, R86, R93), the verdicts' own side (R88 to R92), READ-INTAKE
(R100). What a taker does with a verdict stands with the ladder and the calibration store. -/

namespace Sys2Proof.Machine

open Sys2Proof

/-! ### Claiming (R86) -/

/-- A slot as it stands at a claim. The deadline is the exposure's end plus FRAME_GRACE in milliseconds (R55, R86). -/
def freshSlot (taker : Taker) (rung attempt : Nat) (window : Window) (c e : Nat) (s : State) : Slot :=
  { state := .filling, taker := taker, rung := rung, attempt := attempt, discard := false, exposureEnd := s.now + e,
    deadline := s.now + e + s.params.frameGrace * 1000, reception := .notStarted, lines := 0, shortSeen := false,
    refSum := 0, clipped := 0, b := 0, window := window, c := c, pixels := [], m := 0 }

/-! ### Lines (R83, R86, R93) -/

/-- Whether sensor column x is inside a window. -/
def Window.hasCol (w : Window) (x : Nat) : Bool := decide (w.x0 ≤ x ∧ x < w.x0 + w.w)

def Window.hasLine (w : Window) (y : Nat) : Bool := decide (w.y0 ≤ y ∧ y < w.y0 + w.h)

/-- The samples at or above C among the active samples of a line inside the window (R93). -/
def clippedIn (w : Window) (c y : Nat) (active : List Sample) : Nat :=
  if w.hasLine y then (((active.drop w.x0).take w.w).filter fun p => decide (c ≤ p.toNat)).length else 0

/-- One line joins a slot in reception: lines received rises, saturating; a line that does not carry 4112 samples sets
short seen, and what it carries counts by column as far as it goes; lines beyond 3072 count and contribute nothing else. -/
def takeLine (samples : List Sample) (d : Slot) : Slot :=
  if d.lines < Config.sensorLines then
    let active := (samples.drop Config.refSamples).take Config.sensorCols
    { d with
      lines := satAdd 65535 d.lines 1
      shortSeen := d.shortSeen || decide (samples.length ≠ Config.lineSamples)
      refSum := d.refSum + ((samples.take Config.refSamples).map BitVec.toNat).sum
      clipped := match d.taker with
        | .ladder => d.clipped + clippedIn d.window d.c d.lines active
        | .calibration => 0
      pixels := d.pixels ++ [active] }
  else { d with lines := satAdd 65535 d.lines 1 }

/-- FRAME_LINE: a line of the frame in reception joins its slot; a line of any other frame is discarded (R86, R87). -/
def execFrameLine (samples : List Sample) (s : State) : Host.Outcome State Fault Refusal :=
  match s.intake.rx with
  | .receiving i => .next (s.setSlot i ((s.slot i).map (takeLine samples)))
  | .idle | .discarding | .released => .next s

/-! ### Verdicts -/

/-- B, the reference mean: rounded with halves upward and clamped to 1023 (R92). -/
def referenceMean (refSum : Nat) : Nat := min 1023 ((refSum + 24576) / 49152)

/-- A frame that has ended is short when it does not hold 3072 lines of 4112 samples (R88). -/
def Slot.isShort (d : Slot) : Bool := d.shortSeen || decide (d.lines ≠ Config.sensorLines)

/-- The rung and attempt of a LADDER slot. -/
def Slot.rungOf (d : Slot) : Option (Nat × Nat) :=
  match d.taker with
  | .ladder => some (d.rung, d.attempt)
  | .calibration => none

/-- The last frame record takes a verdict (R84). -/
def noteFrame (d : Slot) (verdict : FrameVerdict) (figures : Option (Nat × Nat)) (s : State) : State :=
  { s with intake.last := some ⟨d.taker, d.rungOf, d.lines, figures, verdict, s.tag⟩ }

/-- A frame is settled without being valid: its slot becomes FREE and the last frame record takes the verdict. -/
def dropFrame (i : SlotId) (d : Slot) (verdict : FrameVerdict) (s : State) : State :=
  noteFrame d verdict none (s.releaseSlot i)

/-- A frame is valid: B is computed and the slot becomes VALID, behind the slots already so (R88, R92). The clipped count of a
CALIBRATION frame, which R86 says is not kept, goes into the last frame record as the 0 it was claimed with (log 50). -/
def validateFrame (i : SlotId) (d : Slot) (m : Nat) (s : State) : State :=
  let b := referenceMean d.refSum
  let s := s.setSlot i (some { d with state := .valid, reception := .ended, b := b, m := m })
  noteFrame d .valid (some (b, d.clipped)) { s with intake.validOrder := s.intake.validOrder ++ [i] }

/-- The FILLING slot of a taker takes a discard mark (R90). -/
def markFilling (taker : Taker) (s : State) : State :=
  match s.fillingSlot with
  | none => s
  | some i =>
    s.setSlot i ((s.slot i).map fun d => if d.taker = taker then { d with discard := true } else d)

/-- Every VALID slot of a taker is discarded, becoming FREE (R91). -/
def freeValid (taker : Taker) (s : State) : State :=
  allSlots.foldl (fun s i =>
    if (s.slot i).any fun d => decide (d.state = .valid ∧ d.taker = taker) then s.releaseSlot i else s) s

/-- A taker holds a slot. -/
def State.holdsSlot (s : State) (taker : Taker) : Bool :=
  allSlots.any fun i => (s.slot i).any fun d => decide (d.taker = taker)

/-- The discarded count rises by 1, saturating (R87). -/
def countDiscarded (s : State) : State := { s with intake.discarded := satAdd 65535 s.intake.discarded 1 }

/-- A stray is counted and discarded whole (R87). -/
def countStray (s : State) : State := { countDiscarded s with intake.rx := .discarding }

/-- The FILLING slot awaits the frame that starts now: its line has fallen, its deadline has not come, and it is not
receiving (R86). -/
def State.awaiting (s : State) : Option SlotId :=
  s.fillingSlot.filter fun i =>
    (s.slot i).any fun d => decide (d.reception = .notStarted ∧ s.lamps.line = none ∧ s.now < d.deadline)

/-- A frame start taken with no frame in reception: the awaited frame's, or a stray's (R86, R87). -/
def startFrame (s : State) : State :=
  match s.awaiting with
  | some i =>
    let s := s.setSlot i ((s.slot i).map fun d => { d with reception := .receiving })
    { s with intake.rx := .receiving i }
  | none => countStray s

/-! ### READ-INTAKE (R100) -/

/-- A slot as READ-INTAKE returns it; a VALID or MERGING CALIBRATION slot shows a clipped count of 0, since R86 keeps none and
R100 makes no exception for it (log 50). -/
def Slot.view (d : Slot) : SlotView :=
  { state := d.state, taker := d.taker, rung := d.rungOf,
    filling := match d.state with | .filling => some (d.discard, d.reception, d.lines) | _ => none,
    figures := match d.state with | .filling => none | _ => some (d.b, d.clipped) }

def Plane.view (p : Plane) : PlaneView :=
  { state := p.state, number := p.owner.number, plateId := p.owner.record.plateId, row := p.owner.row, col := p.owner.col,
    ordinal := p.owner.ordinal, window := p.window, c := p.c, l := p.l, counts := p.counts, merges := p.merges,
    stamp := p.stamp }

/-- READ-INTAKE; with its flag set the discarded count becomes 0 after the reading. -/
def readIntake (flag : Nat) (s : State) : ReplyBody × State :=
  let content := Content.intake (s.intake.s1.map Slot.view) (s.intake.s2.map Slot.view)
    (s.merge.p1.map Plane.view) (s.merge.p2.map Plane.view) s.intake.discarded s.intake.last
  match yesNoOfCode flag with
  | none => (refuse .badField 1, s)
  | some false => (.ok content, s)
  | some true => (.ok content, { s with intake.discarded := 0 })

def execReadIntake (s : State) : Host.Outcome State Fault Refusal := serve 13 (withBody (numBody 1) readIntake) s

end Sys2Proof.Machine
end

