-- ==== Sys2Proof/Machine/Merge.lean ====
section
/-! DEFINITION. The merge engine: pixel outcomes (R94), the merge table (R98), planes and their class counts (R95 to R97), MERGE_BEGIN. -/

namespace Sys2Proof.Machine

open Sys2Proof

/-- The outcome of a pixel at a rung (R94). -/
inductive Outcome where
  | clipped
  | under
  | valid (signal : Nat)
deriving DecidableEq, Repr

/-- The signal S: P - B when P ≥ B, and 0 otherwise (R94). -/
def signal (p b : Nat) : Nat := p - b

/-- The first of clipped, under, valid that holds (R94). -/
def pixelOutcome (p b c l : Nat) : Outcome :=
  if c ≤ p then .clipped else if signal p b < l then .under else .valid (signal p b)

/-- The merge table (R98). -/
def mergeRecord (rung : Nat) (old : MergeRec) (o : Outcome) : MergeRec :=
  match o with
  | .valid s => .valid rung s
  | .clipped =>
    match old with
    | .none | .clipped => .clipped
    | .under => .under
    | .valid r s => .valid r s
  | .under =>
    match old with
    | .none | .clipped | .under => .under
    | .valid r s => .valid r s

/-- One window row merged with the samples of its sensor line from the window's left edge on. -/
def mergeRow (rung b c l : Nat) (row : List MergeRec) (samples : List Sample) : List MergeRec :=
  List.zipWith (fun old (p : Sample) => mergeRecord rung old (pixelOutcome p.toNat b c l)) row samples

/-- All window rows merged with a frame: record (i, j) with the sample at line y0 + i, column x0 + j (R95, R98). -/
def mergeRows (d : Slot) (l : Nat) (w : Window) (recs : List (List MergeRec)) : List (List MergeRec) :=
  List.zipWith (fun row line => mergeRow d.rung d.b d.c l row (line.drop w.x0)) recs (d.pixels.drop w.y0)

/-- One record added to the class counts. -/
def ClassCounts.add (n : ClassCounts) : MergeRec → ClassCounts
  | .none => { n with nNone := n.nNone + 1 }
  | .clipped => { n with nClipped := n.nClipped + 1 }
  | .under => { n with nUnder := n.nUnder + 1 }
  | .valid _ _ => { n with nValid := n.nValid + 1 }

/-- How many records hold each class (R95; log 22). -/
def classCounts (recs : List (List MergeRec)) : ClassCounts :=
  recs.foldl (fun n row => row.foldl ClassCounts.add n) ⟨0, 0, 0, 0⟩

/-- A cleared plane: every record NONE, merges 0 (R97). -/
def clearPlane (p : Plane) : Plane :=
  { p with recs := List.replicate p.window.h (List.replicate p.window.w .none),
           counts := ⟨p.window.pixels, 0, 0, 0⟩, merges := 0 }

/-- A plane claimed for a tile (R30, R96, R97). -/
def claimedPlane (owner : Owner) (c l : Nat) : Plane :=
  clearPlane
    { state := .filling, owner := owner, window := owner.record.window, c := c, l := l, recs := [],
      counts := ⟨0, 0, 0, 0⟩, merges := 0, stamp := none, ladder := none }

/-- The plane after the merge of a slot's frame has ended (R98). -/
def mergedPlane (d : Slot) (p : Plane) : Plane :=
  let recs := mergeRows d p.l p.window p.recs
  { p with recs := recs, counts := classCounts recs, merges := p.merges + 1 }

/-- A plane becomes FULL: it takes the ladder fields and the next full stamp (R96). -/
def fillPlane (i : PlaneId) (fields : LadderFields) (s : State) : State :=
  let stamp := (s.merge.lastStamp + 1) % modU32
  let s := s.setPlane i ((s.plane i).map fun p => { p with state := .full, stamp := some stamp, ladder := some fields })
  { s with merge.lastStamp := stamp }

/-- The frame in flight that occupies a slot takes a state (R56, R57). -/
def setFlight (i : SlotId) (st : FlightState) (s : State) : State :=
  { s with ladder := s.ladder.map fun l =>
      { l with inFlight := l.inFlight.map fun f => if f.slot = i then { f with state := st } else f } }

/-- MERGE_BEGIN: with no merge in progress, the oldest VALID slot of the tile becomes MERGING (R98). -/
def execMergeBegin (s : State) : Host.Outcome State Fault Refusal :=
  match s.mergingSlot .ladder with
  | some _ => .next s
  | none =>
    match s.oldestValid .ladder with
    | none => .next s
    | some i =>
      let s := s.setSlot i ((s.slot i).map fun d => { d with state := .merging })
      .next (setFlight i .merging { s with intake.validOrder := s.intake.validOrder.filter fun j => decide (j ≠ i) })

end Sys2Proof.Machine
end

