-- ==== Sys2Proof/Machine/Ladder.lean ====
section
/-! DEFINITION. The ladder sequencer: taking a bank into use (R24, R51, R130), a ladder's start (R53), switching and restart
(R59, R60, R64), cut and extension (R65, R66), stopping (R68), the rung list (R69). What the pass does at a ladder's end stands in
Pass.lean, and the decision after a failed attempt (R58, R61, R63) in Capture.lean. -/

namespace Sys2Proof.Machine

open Sys2Proof

def mapLadder (f : Ladder → Ladder) (s : State) : State := { s with ladder := s.ladder.map f }

/-! ### A bank taken into use (R24, R51, R130) -/

/-- The stale check of a bank (R130). -/
def staleCheck (bank : BankId) (s : State) : State :=
  if s.isStale bank then
    let raised := s.cal.raisedSet.has bank
    let s := { s with cal.staleSet := s.cal.staleSet.add bank, pass.stale := true }
    if raised then s
    else raiseFault .staleFlat ⟨s.jobCtx, s.tileCtx, none, some bank⟩ { s with cal.raisedSet := s.cal.raisedSet.add bank }
  else { s with cal.staleSet := s.cal.staleSet.remove bank }

/-- E_flat of a bank's flat (R49). -/
def State.eFlat (s : State) (bank : BankId) : Nat := ((s.flatRecord bank).map (·.eFlat)).getD 0

/-- A bank becomes the bank in use: it joins banks used, the job's rungs are clamped to it, and it is stale-checked. -/
def takeBank (job : JobRecord) (bank : BankId) (s : State) : State :=
  staleCheck bank
    { s with pass.bank := some (clampLadder job bank (s.eFlat bank)), pass.banksUsed := s.pass.banksUsed.add bank }

/-! ### A ladder's start (R53) -/

/-- The state of a ladder started on the bank in use, its first attempt due. -/
def freshLadder (job : JobRecord) (b : BankInUse) (stale : Bool) (c l : Nat) : Ladder :=
  { bank := b.bank, effFirst := b.first, effLast := b.last, top := b.top, currentLast := b.last,
    allowed := 1 + job.retryCount, current := none, due := some (b.first, 1), inFlight := [], rungList := [],
    restarts := 0, policyUsed := false, extensions := 0, cut := false,
    conds := Conds.put 0#6 condStaleFlat stale, c := c, l := l, stopping := .no, begun := false,
    restartPending := none }

/-! ### The rung list (R69) -/

/-- An entry is placed by its rung. -/
def insertRung (e : RungEntry) : List RungEntry → List RungEntry
  | [] => [e]
  | x :: xs => if e.rung < x.rung then e :: x :: xs else x :: insertRung e xs

def enterRung (e : RungEntry) (s : State) : State := mapLadder (fun l => { l with rungList := insertRung e l.rungList }) s

/-- The fields handed on with the tile (R67), with the bank's top rung (R51; log 63). -/
def Ladder.fields (l : Ladder) : LadderFields :=
  { bank := l.bank, effFirst := l.effFirst, effLast := l.effLast, top := l.top, rungList := l.rungList, restarts := l.restarts,
    extensions := l.extensions, cut := l.cut, conds := l.conds }

/-- The ladder fields as a tile record shows them: without the conditions (R154). -/
def LadderFields.shown (f : LadderFields) : RecordLadder :=
  { bank := f.bank, effFirst := f.effFirst, effLast := f.effLast, top := f.top, rungList := f.rungList, restarts := f.restarts,
    extensions := f.extensions, cut := f.cut }

def Ladder.hasMerged (l : Ladder) : Bool := l.rungList.any fun e => decide (e.outcome = .merged)

/-! ### Frames in flight -/

/-- The frame in flight that occupies a slot. -/
def State.flightAt (s : State) (i : SlotId) : Option Flight :=
  s.ladder.bind fun l => l.inFlight.find? fun f => decide (f.slot = i)

/-- A frame leaves the frames in flight. -/
def endFlight (i : SlotId) (s : State) : State :=
  mapLadder (fun l => { l with inFlight := l.inFlight.filter fun f => decide (f.slot ≠ i) }) s

/-- The present attempt's frame is settled: no attempt is being exposed or read any more (log 30). -/
def clearCurrent (s : State) : State := mapLadder (fun l => { l with current := none }) s

/-- The tile's waiting VALID frames are discarded: their slots are freed and they leave the frames in flight (R60, R91). -/
def discardWaiting (s : State) : State :=
  freeValid .ladder
    (mapLadder (fun l => { l with inFlight := l.inFlight.filter fun f => decide (f.state ≠ .valid) }) s)

/-! ### Switching banks (R59, R60, R64) -/

/-- The switch test; `policy` for a switch asked by retry policy (R59). -/
def switchTest (policy : Bool) (l : Ladder) (s : State) : Bool :=
  (s.pass.job.any fun j => j.record.bankPref.permitsOther) && s.usable (BankId.other l.bank)
    && decide (l.restarts < 2) && !(policy && l.policyUsed)

/-- A ladder takes the values of the bank in use, and its first attempt there becomes due (R60, steps 4 and 6; R64). -/
def rebank (b : BankInUse) (stale : Bool) (l : Ladder) : Ladder :=
  { l with bank := b.bank, effFirst := b.first, effLast := b.last, top := b.top, currentLast := b.last,
           conds := Conds.put l.conds condStaleFlat stale, due := some (b.first, 1), begun := false }

/-- The ladder moves to the other bank (R60, step 4; R64). -/
def moveBank (s : State) : State :=
  match s.ladder, s.pass.job with
  | some l, some j =>
    let other := BankId.other l.bank
    let s := takeBank j.record other s
    match s.pass.bank with
    | some b => mapLadder (rebank b (s.cal.staleSet.has other)) s
    | none => s
  | _, _ => s

/-- The tile's plane is cleared (R97). -/
def clearTilePlane (s : State) : State :=
  match s.pass.tile.bind (·.plane) with
  | some i => s.setPlane i ((s.plane i).map clearPlane)
  | none => s

/-- Steps 3 to 6 of a restart (R60), once no merge is in progress. -/
def finishRestart (policy : Bool) (s : State) : State :=
  let s := clearTilePlane s
  let s := mapLadder (fun l =>
    { l with rungList := [], restarts := l.restarts + 1, extensions := 0, restartPending := none,
             conds := Conds.put (Conds.put l.conds condRungLost false) condBankSwitch true,
             policyUsed := l.policyUsed || policy }) s
  moveBank (addCounter .ladderRestarts 1 s)

/-- A restart (R60): waiting frames are discarded; a merge in progress is allowed to end first (log 19). -/
def restart (policy : Bool) (s : State) : State :=
  let s := discardWaiting s
  match s.mergingSlot .ladder with
  | some _ => mapLadder (fun l => { l with due := none, restartPending := some policy }) s
  | none => finishRestart policy s

/-! ### A valid frame (R56, R65) -/

/-- The attempt has succeeded: the frame waits for its merge; a fully clipped one cuts the ladder; otherwise the next rung up,
when there is one, becomes due. -/
def frameSucceeded (i : SlotId) (rung clipped pixels : Nat) (s : State) : State :=
  let s := clearCurrent (setFlight i .valid s)
  if clipped = pixels then addCounter .ladderCuts 1 (mapLadder (fun l => { l with cut := true }) s)
  else mapLadder (fun l =>
    if l.stopping = .no ∧ rung < l.currentLast then { l with due := some (rung + 1, 1) } else l) s

/-! ### Stopping (R68) -/

/-- A stopping event: the first one sets `stopping`, drops what is due and, but for budget expiry, discards the tile's
frames; a later one leaves them as the first left them. A restart that waits for the merge in progress is dropped with what is
due, which the manual leaves open: its plane is not cleared, and the merge's rung is entered MERGED (R60, R68, R99; log 19). -/
def stopLadder (why : Stopping) (s : State) : State :=
  match s.ladder with
  | none => s
  | some l =>
    if l.stopping ≠ .no then s
    else
      let s := mapLadder (fun l => { l with stopping := why, due := none, restartPending := none }) s
      match why with
      | .expired | .no => mapLadder (fun l => { l with conds := Conds.put l.conds condTruncated true }) s
      | .cancelled | .halted | .fatal => discardWaiting (markFilling .ladder s)

/-- An exposure in progress is cut by a halt, a motion fatal action or PLATE_SENSE: both banks are dark, and the frame of the
slot that is FILLING is discarded when it arrives (R76, R90), also where the budget's expiry had stopped the ladder before, whose later
stopping events leave its frames alone by R68: the model's reading (log 16). -/
def cutExposure (s : State) : State :=
  match s.lamps.exposure with
  | some x =>
    match x.purpose with
    | .rung => markFilling .ladder (darkenNow s)
    | .calibration => markFilling .calibration (darkenNow s)
  | none => darkenNow s

/-! ### Extension (R66) and the start of an attempt (R54) -/

/-- The extension check on the plane's UNDER count. -/
def shouldExtend (l : Ladder) (job : JobRecord) (p : Plane) : Bool :=
  overLimit p.counts.nUnder job.underLimit p.window.pixels
    && decide (l.extensions < job.maxExtensions ∧ l.currentLast < l.top ∧ l.stopping = .no)

/-- One rung more: extensions and current last rise by 1 and its first attempt becomes due. -/
def extend (s : State) : State :=
  addCounter .ladderExtensions 1 (mapLadder (fun l =>
    { l with extensions := l.extensions + 1, currentLast := l.currentLast + 1, due := some (l.currentLast + 1, 1) }) s)

/-- A frame is still awaited. -/
def Ladder.awaits (l : Ladder) : Bool := l.inFlight.any fun f => decide (f.state = .awaited)

/-- An attempt starts: the slot is claimed, the frame enters the frames in flight, the bank is lit for E_r (R54, R70). -/
def startAttempt (l : Ladder) (window : Window) (r a : Nat) (i : SlotId) (reading : Sample) (s : State) : State :=
  let e := rungExposure (s.eFlat l.bank) r
  let s := s.setSlot i (some (freshSlot .ladder r a window l.c e s))
  let s := mapLadder (fun l =>
    { l with due := none, current := some (r, a), begun := true,
             inFlight := l.inFlight ++ [⟨i, r, a, .awaited, s.tag⟩] }) s
  let s := expose l.bank .rung e reading s
  if 1 < a then addCounter .rungRetries 1 s else s

end Sys2Proof.Machine
end

