-- ==== Sys2Proof/Machine/Calibration.lean ====
section
/-! DEFINITION. The calibration store: CALIBRATE (R120), its sequence (R122 to R125), failure and end (R126, R127), READ-CALIBRATION (R131),
CAL_ATTEMPT_START, TAKE_IN_BEGIN, TAKE_IN_END, the ages of the flats (R129). -/

namespace Sys2Proof.Machine

open Sys2Proof

def mapCal (f : Calibration → Calibration) (s : State) : State := { s with cal.cal := s.cal.cal.map f }

/-! ### The end of a calibration (R126, R127) -/

/-- OPERATION-DONE is posted, the work area is discarded and the calibration is over (R126, R127). -/
def endCal (c : Calibration) (judged : Option (Nat × Nat)) (made : Option (Nat × Nat × Nat)) (s : State) : State :=
  let s := { s with cal.cal := none }
  postNotice (.calDone
    { bank := c.bank, eFlat := c.eFlat, n := c.n, failure := c.failure, takenIn := c.takenIn, retakes := c.retakes,
      frameIndex := match c.failure with | some .frames => some c.frameIndex | _ => none,
      judged := judged, made := made, tag := s.tag }) s

/-- A failing calibration ends when no slot is held by it (R126). -/
def closeCal (s : State) : State :=
  match s.cal.cal with
  | some c =>
    if c.failure.isSome && !s.holdsSlot .calibration then endCal c none none s else s
  | none => s

/-- A calibration is given a failure reason, the first one standing, and winds down in CLOSING (R126). -/
def failCal (reason : CalFailure) (s : State) : State :=
  match s.cal.cal with
  | none => s
  | some c =>
    if c.failure.isSome then s
    else
      let s := mapCal (fun c => { c with failure := some reason, phase := .closing, due := false }) s
      closeCal (freeValid .calibration (markFilling .calibration s))

/-! ### CALIBRATE (R120) -/

/-- The largest of 1, 2, 4, 8, 16 that does not exceed the value given, 0 being taken as 1. -/
def framesTaken (n : Nat) : Nat :=
  if 16 ≤ n then 16 else if 8 ≤ n then 8 else if 4 ≤ n then 4 else if 2 ≤ n then 2 else 1

def eFlatTaken (e : Nat) : Nat := min 500000 (max 20 e)

/-- The sizes of CALIBRATE's fields (R200): the bank's code, E_flat with its range to 500,000, n with its range to 16. -/
def calSizes : List Nat := [1, 4, 1]

/-- Index and value taken of each clamped field, in index order. -/
def calClamps (e n : Nat) : List (Nat × Nat) :=
  (if eFlatTaken e = e then [] else [(2, eFlatTaken e)]) ++ (if framesTaken n = n then [] else [(3, framesTaken n)])

/-- The calibration in progress at acceptance (R120, R121). -/
def freshCal (bank : BankId) (e n : Nat) (s : State) : Calibration :=
  { phase := if s.motion.unsure then .homing else .positioning, bank := bank, eFlat := e, n := n,
    clipLevel := s.params.clipLevel, floor := s.params.signalFloor, calX := s.params.calX, calY := s.params.calY,
    driveLevel := s.level bank, frameIndex := 1, attempt := 1, retakes := 0, takenIn := 0,
    sums := List.replicate Config.sensorLines (List.replicate Config.sensorCols 0),
    marks := List.replicate Config.sensorLines (List.replicate Config.sensorCols false), sumB := 0, sumM := 0,
    pendingM := none, failure := none, due := false }

/-- The order a calibration's phase begins with: HOME in HOMING, MOVE to the latched point in POSITIONING (R122). -/
def calOrder (c : Calibration) : Wanted :=
  match c.phase with
  | .homing => ⟨.home, 0, 0, .calibration⟩
  | _ => ⟨.move, c.calX, c.calY, .calibration⟩

def calibrate (args : List Nat) (s : State) : ReplyBody × State :=
  match args with
  | [bankCode, e, n] =>
    match bankOfCode bankCode with
    | none => (refuse .badField 1, s)
    | some bank =>
      if s.jobActive || s.cal.cal.isSome || s.motion.homeRequest then (refuse .busy, s)
      else if s.pass.state = .halted then (refuse .halted, s)
      else if s.platePresent then (refuse .platePresent, s)
      else if (s.bank bank).health = .failed then (refuse .bankFailed, s)
      else
        let c := freshCal bank (eFlatTaken e) (framesTaken n) s
        let content := Content.calibrating (calClamps e n) bank c.eFlat c.n (topRung c.eFlat) s.motion.unsure
        let body := if calClamps e n = [] then ReplyBody.ok content else ReplyBody.adjusted content
        (body, wantOrder (calOrder c) { s with cal.cal := some c })
  | _ => (refuse .badField 0, s)

def execCalibrate (s : State) : Host.Outcome State Fault Refusal := serve 15 (withBody (numsBody calSizes) calibrate) s

/-! ### The orders' ends (R122) -/

/-- HOME DONE leads to POSITIONING and its MOVE; MOVE DONE leads to CAPTURING with the first attempt due. -/
def calOrderDone (s : State) : State :=
  match s.cal.cal with
  | none => s
  | some c =>
    match c.phase with
    | .homing =>
      let c := { c with phase := .positioning }
      wantOrder (calOrder c) { s with cal.cal := some c }
    | .positioning => { s with cal.cal := some { c with phase := .capturing, due := true } }
    | .capturing | .closing => s

/-! ### Attempts (R123) -/

/-- CAL_ATTEMPT_START: an attempt is due, the frame before it is settled and a slot is FREE. The plate-present line is read; a
bank that is FAILED refuses the exposure; a bank that is lit cannot arise (log 42). -/
def execCalAttemptStart (reading : Sample) (s : State) : Host.Outcome State Fault Refusal :=
  match s.cal.cal, s.freeSlot with
  | some c, some i =>
    if c.due ∧ c.failure = none ∧ s.fillingSlot = none then
      if s.platePresent then .next (failCal .platePresent s)
      else if (s.bank c.bank).health = .failed then .next (failCal .bankFault s)
      else if s.anyLit then .next s
      else
        let s := s.setSlot i (some (freshSlot .calibration 0 0 fullWindow c.clipLevel c.eFlat s))
        .next (expose c.bank .calibration c.eFlat reading (mapCal (fun c => { c with due := false }) s))
    else .next s
  | _, _ => .next s

/-- The exposure of a calibration frame runs out: its M is kept as pending M (R123). -/
def calExposureEnd (m : Nat) (s : State) : State := mapCal (fun c => { c with pendingM := some m }) s

/-- A valid frame waits to be taken in; below n, the first attempt of the next frame becomes due (R124). -/
def calFrameValid (s : State) : State :=
  mapCal (fun c =>
    if c.frameIndex < c.n then { c with pendingM := none, frameIndex := c.frameIndex + 1, attempt := 1, due := true }
    else { c with pendingM := none }) s

/-- A short or timed-out frame: its M is discarded; a retake while attempts are left, else failure FRAMES (R124). -/
def calFrameFailed (s : State) : State :=
  match s.cal.cal with
  | none => s
  | some c =>
    let s := mapCal (fun c => { c with pendingM := none }) s
    if c.failure.isSome then closeCal s
    else if c.attempt < 3 then
      mapCal (fun c => { c with attempt := c.attempt + 1, retakes := c.retakes + 1, due := true }) s
    else failCal .frames s

/-! ### Taking in (R124) -/

/-- TAKE_IN_BEGIN: with no taking in under way, the oldest VALID calibration slot becomes MERGING. -/
def execTakeInBegin (s : State) : Host.Outcome State Fault Refusal :=
  match s.mergingSlot .calibration with
  | some _ => .next s
  | none =>
    match s.oldestValid .calibration with
    | none => .next s
    | some i =>
      let s := s.setSlot i ((s.slot i).map fun d => { d with state := .merging })
      .next { s with intake.validOrder := s.intake.validOrder.filter fun j => decide (j ≠ i) }

/-- Each sample is added to its pixel's sum, and its mark is set when the sample is at or above the clip level. -/
def addSums (sums : List (List Nat)) (pixels : List (List Sample)) : List (List Nat) :=
  List.zipWith (List.zipWith fun n (p : Sample) => n + p.toNat) sums pixels

def addMarks (clip : Nat) (marks : List (List Bool)) (pixels : List (List Sample)) : List (List Bool) :=
  List.zipWith (List.zipWith fun m (p : Sample) => m || decide (clip ≤ p.toNat)) marks pixels

def takeIn (d : Slot) (c : Calibration) : Calibration :=
  { c with sums := addSums c.sums d.pixels, marks := addMarks c.clipLevel c.marks d.pixels, sumB := c.sumB + d.b,
           sumM := c.sumM + d.m, takenIn := c.takenIn + 1 }

/-! ### The averages and their judgement (R125) -/

/-- The mean of a sum over n frames, rounded with halves upward. -/
def average (n sum : Nat) : Nat := (sum + n / 2) / n

def countTrue (rows : List (List Bool)) : Nat := (rows.map fun row => row.countP fun b => b).sum

/-- The pixels with F - Bf below the floor, a negative difference included. -/
def countDark (bf floor : Nat) (rows : List (List Nat)) : Nat :=
  (rows.map fun row => row.countP fun f => decide (f < bf + floor)).sum

/-- The pixels of the sensor, 12,582,912. -/
def sensorPixels : Nat := Config.sensorCols * Config.sensorLines

/-- The flat a successful calibration makes (R119, R125). -/
def flatOf (c : Calibration) (marked dark tag : Nat) : FlatData :=
  { f := c.sums.map fun row => row.map (average c.n), clip := c.marks,
    record :=
      { bank := c.bank, eFlat := c.eFlat, top := topRung c.eFlat, frames := c.n, retakes := c.retakes,
        bf := average c.n c.sumB, mref := average c.n c.sumM, driveLevel := c.driveLevel, clipLevel := c.clipLevel,
        floor := c.floor, clipMarked := marked, dark := dark, tag := tag, age := 0 } }

/-- The judgement after the taking in of frame n (R125): CLIPPED, DARK, or success. -/
def judgeCal (c : Calibration) (s : State) : State :=
  let marked := countTrue c.marks
  let bf := average c.n c.sumB
  let dark := countDark bf c.floor (c.sums.map fun row => row.map (average c.n))
  if sensorPixels < marked * 1000 then endCal { c with failure := some .clipped } (some (marked, dark)) none s
  else if sensorPixels / 2 < dark then endCal { c with failure := some .dark } (some (marked, dark)) none s
  else
    let flat := flatOf c marked dark s.tag
    endCal c (some (marked, dark)) (some (bf, flat.record.mref, flat.record.top)) (s.setFlat c.bank ⟨.valid, some flat⟩)

/-- TAKE_IN_END: the taking in of a frame ends; its slot is freed; the nth brings the averages (R124, R125). -/
def execTakeInEnd (s : State) : Host.Outcome State Fault Refusal :=
  match s.cal.cal, s.mergingSlot .calibration with
  | some c, some i =>
    match s.slot i with
    | none => .next s
    | some d =>
      let c := takeIn d c
      let s := { s with cal.cal := some c }.releaseSlot i
      if c.failure.isSome then .next (closeCal s)
      else if c.takenIn = c.n then .next (judgeCal c s)
      else .next s
  | _, _ => .next s

/-! ### Ages and validity (R128, R129) -/

/-- A job's end adds 1 to the age of a flat, saturating. -/
def ageFlat (bank : BankId) (s : State) : State :=
  let f := s.flat bank
  s.setFlat bank { f with data := f.data.map fun d => { d with record := { d.record with age := satAdd 65535 d.record.age 1 } } }

def ageFlats (used : BankSet) (s : State) : State :=
  let s := if used.a then ageFlat .a s else s
  if used.b then ageFlat .b s else s

/-- A change of a bank's level makes its flat INVALID unless it returns to the level the flat was captured at (R79, R128). -/
def levelChanged (bank : BankId) (level : Nat) (s : State) : State :=
  if (s.flatRecord bank).any fun r => decide (r.driveLevel = level) then s
  else s.setFlat bank { s.flat bank with validity := .invalid }

/-! ### READ-CALIBRATION (R131) -/

/-- A flat as READ-CALIBRATION returns it. Whether it "would be found stale now" R131 does not say for an INVALID flat, whose age R128
lets play no part, nor for a bank with no record: the model judges a record by its age whatever the validity, and answers no without a
record (log 64). -/
def State.flatView (s : State) (bank : BankId) : FlatView :=
  ⟨(s.flat bank).validity, s.flatRecord bank, s.isStale bank⟩

/-- A calibration as READ-CALIBRATION returns it: the fields R131 lists by name, which leave out pending M and the work area
(log 58). -/
def Calibration.view (c : Calibration) : CalView :=
  { phase := c.phase, bank := c.bank, eFlat := c.eFlat, n := c.n, clipLevel := c.clipLevel, floor := c.floor,
    calX := c.calX, calY := c.calY, driveLevel := c.driveLevel, frameIndex := c.frameIndex, attempt := c.attempt,
    retakes := c.retakes, takenIn := c.takenIn, failure := c.failure }

def readCalibration (s : State) : ReplyBody × State :=
  (.ok (.calibration (s.flatView .a) (s.flatView .b) s.cal.staleSet (s.cal.cal.map Calibration.view)), s)

def execReadCalibration (s : State) : Host.Outcome State Fault Refusal := serve 16 (noBody readCalibration) s

end Sys2Proof.Machine
end

