-- ==== Sys2Proof/Machine/Converter.lean ====
section
/-! DEFINITION. The density converter: CONVERTER_CLAIM (R102), the conversion of rows (R103, R104), the record it completes (R113 to R115),
READ-CONVERTER (R116), and the tick of the part's clock. The end of a conversion stands in Pass.lean. -/

namespace Sys2Proof.Machine

open Sys2Proof

/-- How far back a FULL plane's stamp lies from the last one given (R96). -/
def State.fullAge (s : State) (i : PlaneId) : Option Nat :=
  (s.plane i).bind fun p =>
    match p.state, p.stamp with
    | .full, some stamp => some (subU32 s.merge.lastStamp stamp)
    | _, _ => none

/-- A buffer the converter has just claimed (R102, R150). It has no label and no stamp before it is READY, and is returned so: the model's
reading of R150 and R161 (log 61). -/
def freshBuf : Buf := { state := .converting, label := none, stamp := none, rows := [], headerTaken := false, rowsTaken := 0 }

/-- A conversion as it begins (R102). -/
def freshConversion (i : PlaneId) (b : BufId) (p : Plane) : Conversion :=
  { plane := i, buffer := b, owner := p.owner, bank := (p.ladder.map (·.bank)).getD .a, window := p.window, l := p.l,
    rowsDone := 0, figures := noFigures, lastCode := none }

/-- CONVERTER_CLAIM: IDLE, a FULL plane and a FREE buffer: the oldest FULL plane and the lowest-numbered FREE buffer (R102). The
claim comes with this command, which the sender may give later than the event that completed the conditions (log 54). -/
def execConverterClaim (s : State) : Host.Outcome State Fault Refusal :=
  match s.conv, oldestBy s.fullAge allPlanes, s.freeBuf with
  | none, some i, some b =>
    match s.plane i with
    | none => .next s
    | some p =>
      let s := s.setPlane i (some { p with state := .converting })
      .next { s.setBuf b (some freshBuf) with conv := some (freshConversion i b p) }
  | _, _, _ => .next s

/-! ### Rows and pixels (R103, R104) -/

/-- What the converter reads of the flat for one window row: sensor line y, columns from x0 on. -/
def flatRow (d : FlatData) (y x0 : Nat) : List FlatPixel :=
  List.zipWith FlatPixel.mk ((d.f.getD y []).drop x0) ((d.clip.getD y []).drop x0)

/-- The pixels of window row i of a plane, each with what the flat gives for it. -/
def rowPixels (d : FlatData) (c : Conversion) (recs : List (List MergeRec)) (i : Nat) : List (FlatPixel × MergeRec) :=
  List.zip (flatRow d (c.window.y0 + i) c.window.x0) (recs.getD i [])

/-- The words of window row i of a plane, converted against a flat. -/
def rowWords (d : FlatData) (c : Conversion) (recs : List (List MergeRec)) (i : Nat) : List PixOut :=
  convertRow d.record.bf c.l none (rowPixels d c recs i)

/-- How many pixels of the row being converted have their words in the buffer. -/
def Conversion.colsDone (c : Conversion) (b : Buf) : Nat := (b.rows.getD c.rowsDone []).length

/-- The pixels still to be converted of the row being converted. -/
def rowLeft (d : FlatData) (c : Conversion) (p : Plane) (b : Buf) : List (FlatPixel × MergeRec) :=
  (rowPixels d c p.recs c.rowsDone).drop (c.colsDone b)

/-- Words written at the end of row i, the rows before it being complete. -/
def Buf.write (b : Buf) (i : Nat) (words : List PixOut) : Buf :=
  { b with rows := b.rows.take i ++ [b.rows.getD i [] ++ words] }

/-- The conversion after words of the row in hand: its pixels join the counts and figures, and their last code stands; or the row is
complete, and rows done rises by 1 (R101, R103). -/
def Conversion.after (c : Conversion) (words : List PixOut) (rowEnds : Bool) : Conversion :=
  let c := { c with figures := words.foldl addPixel c.figures }
  if rowEnds then { c with rowsDone := c.rowsDone + 1, lastCode := none }
  else { c with lastCode := (words.getLast?.map (·.code)).or c.lastCode }

/-- The next `n` pixels of the row in hand are converted, all that are left of it where `n` is absent. The row is complete when none
is left. -/
def convertNext (n : Option Nat) (s : State) : State :=
  match s.conv with
  | none => s
  | some c =>
    match s.plane c.plane, (s.flat c.bank).data, s.buf c.buffer with
    | some p, some d, some b =>
      let pixels := rowLeft d c p b
      let taken := pixels.take (n.getD pixels.length)
      let words := convertRow d.record.bf c.l c.lastCode taken
      { s.setBuf c.buffer (some (b.write c.rowsDone words)) with
        conv := some (c.after words (decide (taken.length = pixels.length))) }
    | _, _, _ => { s with conv := some (c.after [] true) }

/-- What is left of the row in hand is converted. -/
def convertNextRow (s : State) : State := convertNext none s

/-- One pixel is converted. -/
def convertNextPixel (s : State) : State := convertNext (some 1) s

def convertRows : Nat → State → State
  | 0, s => s
  | n + 1, s => convertRows n (convertNextRow s)

/-- More than one pixel of the tile is still to be converted, or a row after the one in hand. -/
def State.pixelsLeft (s : State) : Bool :=
  s.conv.any fun c =>
    decide (c.rowsDone + 1 < c.window.h)
      || (match s.plane c.plane, (s.flat c.bank).data, s.buf c.buffer with
          | some p, some d, some b => decide (c.rowsDone < c.window.h ∧ 1 < (rowLeft d c p b).length)
          | _, _, _ => false)

/-- `n` pixels are converted, but never the last one of the tile, with which the conversion ends (R103). -/
def convertPixels : Nat → State → State
  | 0, s => s
  | n + 1, s => if s.pixelsLeft then convertPixels n (convertNextPixel s) else s

/-- One interval of the converter's own time: it converts as many pixels as a free value says, the last one being left to CONVERSION_END
(R103; log 21). -/
def converterTick (s : State) : State :=
  match s.conv with
  | none => s
  | some _ => convertPixels (Config.converterPixels s.drawn) s.draw

/-! ### The completed record (R113 to R115) -/

/-- The tile's completed conditions: the ladder's, with those of OVER_LIMIT and UNDER_LIMIT that hold (R113). -/
def convConds (c : Conversion) (ladder : Conds) : Conds :=
  let r := c.owner.record
  ladder ||| (if overLimit c.figures.nOver r.overLimit c.window.pixels then condOverLimit else 0#6)
    ||| (if overLimit c.figures.nUnder r.underLimit c.window.pixels then condUnderLimit else 0#6)

/-- The CAPTURED record, complete but for its sequence (R115, step 1). -/
def capturedRecord (c : Conversion) (fields : LadderFields) (tag : Nat) : TileRecord :=
  let conds := convConds c fields.conds
  { sequence := 0, number := c.owner.number, plateId := c.owner.record.plateId, row := c.owner.row, col := c.owner.col,
    ordinal := c.owner.ordinal, status := .captured, attention := attention conds c.owner.record.attention,
    conds := some conds, ladder := some fields.shown,
    conv := some
      { nNormal := c.figures.nNormal, nOver := c.figures.nOver, nUnder := c.figures.nUnder, nDefect := c.figures.nDefect,
        stats := c.figures.stats, w := c.window.w, h := c.window.h },
    started := c.owner.started, ended := tag }

/-- The buffer becomes READY with its label and the next stamp (R115, step 2; R150). -/
def readyBuffer (c : Conversion) (sequence : Nat) (s : State) : State :=
  let stamp := (s.out.lastStamp + 1) % modU32
  let label : BufLabel := ⟨c.owner.number, sequence, c.owner.row, c.owner.col, c.window.w, c.window.h⟩
  let s := s.setBuf c.buffer
    ((s.buf c.buffer).map fun b => { b with state := .ready, label := some label, stamp := some stamp })
  { s with out.lastStamp := stamp }

/-! ### READ-CONVERTER (R116) -/

def Conversion.view (c : Conversion) : ConvView :=
  { plane := c.plane, buffer := c.buffer, number := c.owner.number, plateId := c.owner.record.plateId, row := c.owner.row,
    col := c.owner.col, ordinal := c.owner.ordinal, bank := c.bank, window := c.window, l := c.l, rowsDone := c.rowsDone,
    nNormal := c.figures.nNormal, nOver := c.figures.nOver, nUnder := c.figures.nUnder, nDefect := c.figures.nDefect,
    range := if c.figures.nNormal = 0 then none else some (c.figures.min.getD 0, c.figures.max.getD 0) }

/-- The full stamps of the FULL planes, oldest first. -/
def State.waitingStamps (s : State) : List Nat :=
  match oldestBy s.fullAge allPlanes with
  | none => []
  | some i => (i :: allPlanes.filter fun j => decide (j ≠ i)).filterMap fun j =>
      (s.plane j).bind fun p => match p.state with | .full => p.stamp | _ => none

def readConverter (s : State) : ReplyBody × State :=
  (.ok (.converter (s.conv.map Conversion.view) s.waitingStamps (allBufs.filter fun i => (s.buf i).isNone).length), s)

def execReadConverter (s : State) : Host.Outcome State Fault Refusal := serve 14 (noBody readConverter) s

/-! ### The clock -/

/-- 1 µs: the internal time, the time base, a RUNNING budget and the converter go on (R36, R103, R194; log 1). -/
def idle (s : State) : State :=
  let s := tickTime { s with now := s.now + 1 }
  converterTick { s with pass.budget := s.pass.budget.tick }

end Sys2Proof.Machine
end

