-- ==== Sys2Proof/Machine/Pass.lean ====
section
/-! DEFINITION. The pass controller: the tile walk (R27 to R32), returning and the job's end (R33 to R35), settling a tile (R37, R42), the
halt (R45), what comes before an action (R46), the fatal actions (R44), a calibration's and a HOME request's part in them, and the
requests of the pass (R21, R38, R40, R47). -/

namespace Sys2Proof.Machine

open Sys2Proof

/-! ### The job's end (R35, R14, R16) -/

/-- A history entry is filed, the oldest of 8 giving way, and PLATE-DONE is posted with the same fields (R16). -/
def fileHistory (e : HistoryEntry) (s : State) : State :=
  let kept := if s.queue.history.length < Config.historyCap then s.queue.history else s.queue.history.drop 1
  postNotice (.plateDone e) { s with queue.history := kept ++ [e] }

/-- The outcome: the mark, or DONE or DONE_DEGRADED by the tile records (R35). -/
def State.outcome (s : State) : JobOutcome :=
  match s.pass.mark with
  | some .cancelled => .cancelled
  | some .overtime => .overtime
  | some .failed => .failed
  | some .slotEmpty => .slotEmpty
  | some .noBank => .noBank
  | none =>
    if s.pass.counts.attention = 0 ∧ s.pass.counts.guarded = 0 ∧ s.pass.counts.notCaptured = 0 then .done
    else .doneDegraded

/-- Where faults raised and not yet taken meet a job's end with no fault recorded in it, the manual fixes neither whether one
of them is recorded first nor which: a free value says, and the one it names is recorded whole (R177, R182; log 7). -/
def recordBeforeEnd (s : State) : State :=
  match s.faults.jobMark, s.faults.raised with
  | some _, _ | none, [] => s
  | none, _ :: _ =>
    match Config.faultTakenBeforeEnd s.drawn with
    | 0 => s.draw
    | k + 1 => takeRaised k s.draw

/-- The first fault of the ending job: the job mark, which becomes absent (R16, R182). A fault recorded before the end is
settled there: which of those under way that is, `recordBeforeEnd` leaves free (log 7). -/
def takeFirstFault (s : State) : Option FaultKind × State :=
  let s := recordBeforeEnd s
  (s.faults.jobMark, { s with faults.jobMark := none })

/-- The run state at an ACTIVE job's end (R11, R14). -/
def runAfterJob (occupied : Bool) (run : RunState) : RunState :=
  if occupied then .stopped
  else match run with
    | .stopping => .stopped
    | .stopped => .stopped
    | .running => .running

/-- What the pass clears at a job's end; HALTED stays HALTED (R35). -/
def clearPass (s : State) : State :=
  let state := match s.pass.state with
    | .halted => PassState.halted
    | _ => PassState.idle
  { s with
    pass := { resetPass with state := state, walkPos := s.pass.walkPos },
    cal.staleSet := noBanks, cal.raisedSet := noBanks, motion.expect := .none,
    motion.waiting := s.motion.waiting.filter fun w => decide (w.requester ≠ .pass) }

/-- The history entry of the job in hand (R16). -/
def State.entryOf (s : State) (j : JobInHand) (outcome : JobOutcome) (first : Option FaultKind) : HistoryEntry :=
  { number := j.number, plateId := j.record.plateId, slot := j.record.slot, outcome := outcome, counts := s.pass.counts,
    banksUsed := s.pass.banksUsed, stale := s.pass.stale, started := some j.started, ended := s.tag, firstFault := first }

/-- The job in hand ends (R35): the queue files it (R14), the counters, the ages and the histogram take their part, and the pass
clears its fields. -/
def endJob (occupied : Bool) (s : State) : State :=
  match s.pass.job with
  | none => s
  | some j =>
    let outcome := s.outcome
    let r := takeFirstFault s
    let s := fileHistory (s.entryOf j outcome r.1) r.2
    let s := { s with queue.jobs := s.queue.jobs.filter fun q => decide (q.number ≠ j.number),
                      queue.run := runAfterJob occupied s.queue.run }
    let s := ageFlats s.pass.banksUsed (countJobEnd outcome s)
    clearPass (if s.pass.loadIssued then freezeHistogram s else s)

/-- A MOVE, HOME, LOAD or RETURN order of the pass is outstanding. -/
def State.passOrder (s : State) : Bool := s.motion.order.any fun o => decide (o.requester = .pass)

/-- Whether the plate's place lets the job end (R35, R46; logs 17 and 18). -/
def State.plateLetsEnd (s : State) : Bool :=
  match s.pass.state with
  | .returning => false
  | .halted => decide (s.pass.plate = .returned ∨ (s.pass.mark = some .failed ∧ s.pass.plate ≠ .onTable))
  | _ => decide (s.pass.plate = .returned ∨ (s.pass.mark ≠ none ∧ s.pass.plate ≠ .onTable))

/-- Nothing of the job is under way: no tile in hand, none handed over, no order of the pass outstanding (R35). -/
def State.workDone (s : State) : Bool :=
  s.jobActive && decide (s.pass.tile = none ∧ s.pass.handedOver = 0) && !s.passOrder

/-- The job ends when its condition holds (R34, R35, R46). -/
def jobEndCheck (s : State) : State := if s.workDone && s.plateLetsEnd then endJob false s else s

/-! ### Tile records of the pass (R29, R31, R32, R155) -/

/-- A record that is not CAPTURED, complete but for its sequence. -/
def plainRecord (j : JobInHand) (row col ordinal : Nat) (status : TileStatus) (ladder : Option RecordLadder)
    (started ended : Nat) : TileRecord :=
  { sequence := 0, number := j.number, plateId := j.record.plateId, row := row, col := col, ordinal := ordinal,
    status := status, attention := false, conds := none, ladder := ladder, conv := none, started := started, ended := ended }

/-- The NOT_CAPTURED record of the undecided tile at place `o` of the walk (R32). -/
def recordUndecided (j : JobInHand) (s : State) (o : Nat) : State :=
  let cell := j.record.cell o
  writeRecord (plainRecord j cell.1 cell.2 o .notCaptured none s.tag s.tag) j.record.notifyQuiet s

/-- The walk is closed: every undecided tile of a loaded plate gets its record, and the walk position goes to the end (R32;
log 40). -/
def closeWalk (s : State) : State :=
  match s.pass.job with
  | none => s
  | some j =>
    let total := j.record.tiles
    let s := match s.pass.plate with
      | .notLoaded => s
      | _ => (List.range' s.pass.walkPos (total - s.pass.walkPos)).foldl (recordUndecided j) s
    { s with pass.walkPos := total }

/-- The tile's plane, when it holds one, is freed. -/
def freeTilePlane (s : State) : State :=
  match s.pass.tile with
  | none => s
  | some t =>
    match t.plane with
    | none => s
    | some i => { s.releasePlane i with pass.tile := some { t with plane := none } }

/-- The tile in hand gets its NOT_CAPTURED record, with the ladder fields when its ladder had started, and is in hand no more
(R31, R42, R154). -/
def recordTile (s : State) : State :=
  match s.pass.job, s.pass.tile with
  | some j, some t =>
    let fields := s.ladder.map fun l => l.fields.shown
    let s := { freeTilePlane s with pass.tile := none, pass.settle := none, ladder := none }
    writeRecord (plainRecord j t.row t.col t.ordinal .notCaptured fields t.started s.tag) j.record.notifyQuiet s
  | _, _ => s

/-! ### Returning (R33) -/

/-- No order is outstanding: HOME when positioner-unsure is set, then MOVE to the load point. -/
def beginReturn (s : State) : State :=
  if s.motion.unsure then wantOrder ⟨.home, 0, 0, .pass⟩ { s with pass.step := .homing }
  else wantOrder ⟨.move, 0, 0, .pass⟩ { s with pass.step := .moving }

/-- RETURNING is entered; it waits until no order and no STOP is outstanding (R33, R134). -/
def enterReturning (s : State) : State :=
  let s := { s with pass.state := .returning, pass.step := .waiting }
  if s.motionFree then beginReturn s else s

/-! ### The boundary (R28, R29) -/

/-- PAUSED is entered, with its resume point, and a RUNNING budget is suspended (R28, R39). -/
def enterPaused (point : ResumePoint) (s : State) : State :=
  let budget := match s.pass.budget.state with
    | .running => { s.pass.budget with state := .suspended }
    | _ => s.pass.budget
  { s with pass.state := .paused, pass.pausePending := false, pass.resumePoint := some point, pass.budget := budget }

/-- The tile at the walk position is taken into hand in phase DECIDING, and the pass is WALKING (R27, R28). -/
def takeTile (j : JobInHand) (s : State) : State :=
  let cell := j.record.cell s.pass.walkPos
  { s with
    pass.state := .walking
    pass.tile := some
      { row := cell.1, col := cell.2, ordinal := s.pass.walkPos, phase := .deciding, started := s.tag, moveDone := false,
        plane := none }
    pass.walkPos := s.pass.walkPos + 1 }

/-- A decision without a capture: the tile's record, with equal time tags, and no tile in hand (R29). -/
def decideRecord (j : JobInHand) (status : TileStatus) (s : State) : State :=
  match s.pass.tile with
  | none => s
  | some t =>
    writeRecord (plainRecord j t.row t.col t.ordinal status none t.started t.started) j.record.notifyQuiet
      { s with pass.tile := none }

/-- A tile boundary (R28), with the decision of R29; `n` bounds the tiles that may be decided without a MOVE. Where something is to come
before the record of a GUARD_TILE, the tile waits for it in DECIDING: `takeGuard` (log 68). -/
def boundaryLoop : Nat → State → State
  | 0, s => s
  | n + 1, s =>
    match s.pass.job with
    | none => s
    | some j =>
      let s := if s.pass.mark.isSome ∧ s.pass.walkPos < j.record.tiles then closeWalk s else s
      let more := decide (s.pass.walkPos < j.record.tiles ∧ s.pass.mark = none)
      if s.pass.pausePending then enterPaused (if more then .nextTile else .return) s
      else if more then
        let s := takeTile j s
        let t := j.record.cell (s.pass.walkPos - 1)
        match zoneAnswer s.zones j.record t.1 t.2 with
        | .skip e => boundaryLoop n (decideRecord j .skipped (hitZone e s))
        | .guard e =>
          let s := raiseFault .guardTile s.passCtx (hitZone e s)
          match s.faults.ahead with
          | [] => boundaryLoop n (decideRecord j .guarded s)
          | .no :: rest => boundaryLoop n (decideRecord j .guarded { s with faults.ahead := rest })
          | .recorded :: _ | .halted :: _ => s
        | .none =>
          wantOrder ⟨.move, j.record.targetX t.2, j.record.targetY t.1, .pass⟩
            { s with pass.tile := s.pass.tile.map fun t => { t with phase := .moving } }
      else enterReturning s

/-- A boundary reached while HALTED is not acted on (R45). -/
def boundary (s : State) : State :=
  match s.pass.state, s.pass.job with
  | .halted, _ => s
  | _, none => s
  | _, some j => boundaryLoop (j.record.tiles + 1) s

/-! ### Settling the tile in hand (R37, R42, R44, R47) -/

/-- Where the pass goes when the tile in hand has been settled. -/
def afterSettle (dest : SettleTo) (s : State) : State :=
  match dest with
  | .boundary => boundary s
  | .returning =>
    match s.pass.state with
    | .halted => jobEndCheck s
    | _ => enterReturning s
  | .inPlace => jobEndCheck s
  | .held => s

def settleNow (dest : SettleTo) (s : State) : State := afterSettle dest (recordTile s)

/-- A frame of the tile is still on its way into its plane: merging, waiting to be, or awaited and not to be discarded. -/
def State.planeBusy (s : State) : Bool :=
  s.ladder.any fun l => l.inFlight.any fun f =>
    match f.state with
    | .merging | .valid => true
    | .awaited => (s.slot f.slot).any fun d => !d.discard

/-- The plane of a FULL tile is handed over: its ladder ended with a MERGED rung (R31, R96). -/
def handOver (l : Ladder) (s : State) : State :=
  let s := match s.pass.tile.bind (·.plane) with
    | some i => fillPlane i l.fields s
    | none => s
  boundary { s with pass.tile := none, ladder := none, pass.handedOver := s.pass.handedOver + 1 }

/-- The end of the work of a ladder that is not being settled: an extension (R66), or the ladder's end (R67, R31). -/
def ladderDone (l : Ladder) (s : State) : State :=
  match s.pass.job, s.pass.tile.bind (·.plane) with
  | some j, some i =>
    if !l.cut && (s.plane i).any (shouldExtend l j.record) then extend s
    else if l.hasMerged then handOver l s
    else settleNow .boundary s
  | _, _ => s

/-- After an event of the ladder: a tile being settled gives up its plane and is recorded once nothing of it is in flight;
otherwise a ladder with nothing due and nothing in flight extends or ends (R42, R66, R67, R68). R61 and R66 have the extension
check wait for merges; that it waits for a failed attempt's frame, still to be discarded, as well is the model's choice
(log 51). -/
def progress (s : State) : State :=
  match s.ladder with
  | none => s
  | some l =>
    match s.pass.settle with
    | none => if l.inFlight = [] ∧ l.due = none then ladderDone l s else s
    | some dest =>
      let s := if s.planeBusy then s else freeTilePlane s
      if l.inFlight = [] ∧ dest ≠ .held then settleNow dest s else s

/-- The tile in hand is to be settled: at once; or when its MOVE has run to its end (R37, R42); or when nothing of its ladder is
in flight any more. -/
def settle (dest : SettleTo) (s : State) : State :=
  match s.pass.tile with
  | none => afterSettle dest s
  | some t =>
    match t.phase with
    | .ladder => progress { s with pass.settle := some dest }
    | .moving =>
      if t.moveDone = false ∧ (dest = .boundary ∨ dest = .returning) then { s with pass.settle := some dest }
      else settleNow dest s
    | .deciding | .waitPlane => settleNow dest s

/-! ### Halt (R45) -/

/-- A HOME request ends: OPERATION-DONE is posted (R141). -/
def endHome (result : HomeResult) (kind : Option FaultKind) (s : State) : State :=
  if s.motion.homeRequest then
    postNotice (.homeDone result kind s.motion.unsure s.tag) { s with motion.homeRequest := false }
  else s

/-- What the halt makes of the tile in hand: it is held, unless its settlement has begun (log 15). With none in hand, the end of the
order that the halt abandoned ends the job when the rest of R35's condition holds under HALTED (R35, R46; log 17). -/
def haltTile (s : State) : State :=
  match s.pass.tile, s.pass.settle with
  | none, _ => jobEndCheck s
  | some _, none => progress { s with pass.settle := some .held }
  | some _, some _ => settle .inPlace s

/-- The pass enters HALTED; already HALTED, it changes nothing (R45, R181). The calibration and the HOME
request end HALTED (R126, R141). The HALTED notice is posted first, then the calibration's end, then the HOME request's: an order
the manual leaves open and the model chooses (log 49). A HOME that the halt abandons leaves positioner-unsure as it stands, clear where
it was clear (R140; log 56). -/
def halt (kind : FaultKind) (injected : Bool) (s : State) : State :=
  match s.pass.state with
  | .halted => s
  | entered =>
    let notice := Notice.halted kind injected entered (s.pass.job.map (·.number)) s.tileCtx s.tag
    let s := stopBudget (sendStop (cutExposure s))
    let s := stopLadder .halted
      { s with pass.state := .halted, pass.step := .none, pass.pausePending := false, pass.cancelPending := false,
               pass.resumePoint := none }
    let s := haltTile (postNotice notice s)
    endHome .halted none (failCal .halted s)

/-- The pass controller takes the oldest escalation that waits, where there is one (R181; log 8). -/
def haltNext (s : State) : State :=
  match s.faults.escalations with
  | [] => s
  | e :: rest => halt e.1 e.2 { s with faults.escalations := rest }

/-- HALT_ESCALATION: the pass controller takes an escalation (R45). With none waiting, the escalation it means is still to be made: that of
the last fault which a FAULT_TAKEN let be recorded before its action, and it comes before that action too (log 68). -/
def execHaltEscalation (s : State) : Host.Outcome State Fault Refusal :=
  match s.faults.escalations with
  | [] => .next { s with faults.ahead := escalateAhead s.faults.ahead }
  | _ :: _ => .next (haltNext s)

/-! ### An escalation before its action (R46, R177; log 68) -/

/-- A fault has just been raised and the action of the pass controller, its ladder sequencer included, comes next. What the sender has let come
before that action comes now: nothing, its recording, or its recording and then the oldest escalation that waits. -/
def takeAhead (s : State) : State :=
  match s.faults.ahead with
  | [] => s
  | a :: rest =>
    let s := { s with faults.ahead := rest }
    let taken := takeRaised (s.faults.raised.length - 1) s
    match a with
    | .no => s
    | .recorded => taken
    | .halted => haltNext taken

/-- A boundary has stopped at a GUARD_TILE, its tile in DECIDING, for what comes before the tile's record: that comes, the record is written, and
the next boundary is reached, which under HALTED is not acted on and otherwise may stop so again (R29, R45); `n` bounds how often. -/
def takeGuards : Nat → State → State
  | 0, s => s
  | n + 1, s =>
    match s.pass.job, s.ladder with
    | none, _ | _, some _ => s
    | some j, none =>
      if s.pass.tile.any fun t => decide (t.phase = .deciding) then
        takeGuards n (boundary (decideRecord j .guarded { takeAhead s with pass.settle := none }))
      else s

/-- The boundary that a command reaches stops at most once for each fault to come for which the sender has let something come first. -/
def takeGuard (s : State) : State := takeGuards s.faults.ahead.length s


/-! ### Fatal actions (R44) -/

def setMark (m : Mark) (s : State) : State := { s with pass.mark := some m }

/-- A mark already set stands (R26, R37, R42). -/
def markUnlessSet (m : Mark) (s : State) : State :=
  match s.pass.mark with
  | some _ => s
  | none => setMark m s

/-- A plate that was ON_TABLE becomes LEFT. -/
def leavePlate (s : State) : State :=
  match s.pass.plate with
  | .onTable => { s with pass.plate := .left }
  | _ => s

/-- FINISHING is entered, or the pass stays HALTED (R44, R45). -/
def enterFinishing (s : State) : State :=
  match s.pass.state with
  | .halted => s
  | _ => { s with pass.state := .finishing, pass.step := .none }

/-- The lamp is darkened, the line expected to be nothing, and STOP sent (R44, R139). -/
def darkenAndStop (s : State) : State := sendStop (cutExposure { s with motion.expect := .none })

/-- The pass's part of a motion fatal kind and of PLATE_SENSE: FAILED, the lamp dark, STOP, the plate left where it is (R44). Under HALTED a job
with its plate NOT_LOADED ends as it would have in PREPARING or LOADING, and a halt may have ended the job already (R46). The
resume point of a PAUSED pass stands until the job's end (log 43). -/
def fatalLeave (s : State) : State :=
  match s.pass.job with
  | none => darkenAndStop s
  | some _ =>
    let s := darkenAndStop (stopBudget (setMark .failed s))
    match s.pass.state, s.pass.plate with
    | .idle, _ | .preparing, _ | .loading, _ | .halted, .notLoaded => jobEndCheck s
    | _, _ => settle .inPlace (enterFinishing (stopLadder .fatal (closeWalk (leavePlate s))))

/-- NO_LIGHT: FAILED, the tile and the walk closed, the plate returned (R44, R62). The plate stays expected on the carrier until RETURN is
issued, R142's "a fatal action" being read as one that leaves the plate (log 60). The walk is closed before the tile in hand is
settled, so that its record comes behind those of the undecided tiles: the model's choice, which the manual leaves open
(log 48). A pass that is HALTED already stays so, and the return waits for CLEAR-HALT (R45, R46). -/
def noLight (s : State) : State :=
  let s := closeWalk (stopLadder .fatal (stopBudget (setMark .failed s)))
  match s.pass.state with
  | .halted => settle .inPlace s
  | _ => settle .returning s

/-- PLATE_SENSE is raised and its action carried out (R26, R143). -/
def plateSense (s : State) : State := fatalLeave (takeAhead (raiseFault .plateSense s.passCtx s))

/-- The motion fatal action (R139): the failed order has ended; the fault is raised with its requester's context, STOP is sent,
positioner-unsure is set, the expectation cleared, and the requester does the rest. What was let come before an action of the pass controller
does so here for an order of the pass alone: a calibration and a HOME request are told at once (log 68). -/
def motionFatal (kind : FaultKind) (requester : Requester) (s : State) : State :=
  let s := raiseFault kind (s.requesterCtx requester) s
  let s := match requester with
    | .pass => takeAhead s
    | .calibration | .homeRequest => s
  let s := sendStop { s with motion.order := none }
  let s := { s with motion.unsure := true, motion.expect := .none }
  match requester with
  | .pass => fatalLeave s
  | .calibration => failCal .motion s
  | .homeRequest => endHome .motion (some kind) s

/-! ### Requests of the pass -/

/-- READ-PASS (R21). -/
def readPass (s : State) : ReplyBody × State :=
  (.ok (.pass
    { state := s.pass.state, job := s.pass.job.map fun j => (j.number, j.record), plate := s.pass.plate,
      loadIssued := s.pass.loadIssued, bank := s.pass.bank, banksUsed := s.pass.banksUsed, walkPos := s.pass.walkPos,
      tile := s.pass.tile, rung := s.ladder.bind fun l => l.current.map (·.1), handedOver := s.pass.handedOver,
      budget := s.pass.budget.state, remaining := s.pass.budget.remaining, pausePending := s.pass.pausePending,
      cancelPending := s.pass.cancelPending, resumePoint := s.pass.resumePoint, mark := s.pass.mark,
      unsure := s.motion.unsure, records := s.pass.counts.total }), s)

def execReadPass (s : State) : Host.Outcome State Fault Refusal := serve 10 (noBody readPass) s

/-- PAUSE (R38). -/
def pause (s : State) : ReplyBody × State :=
  let refused (r : Reason) : ReplyBody := .refused r 0 (.pause s.pass.state s.pass.pausePending)
  if s.jobActive = false then (refused .notActive, s)
  else
    match s.pass.state with
    | .halted => (refused .halted, s)
    | .returning | .finishing => (refused .late, s)
    | .paused => (.ok (.pause .paused s.pass.pausePending), s)
    | st => (.ok (.pause st true), { s with pass.pausePending := true })

def execPause (s : State) : Host.Outcome State Fault Refusal := serve 7 (noBody pause) s

/-- A SUSPENDED budget runs again (R36, R40). -/
def runBudget (s : State) : State :=
  match s.pass.budget.state with
  | .suspended => { s with pass.budget.state := .running }
  | _ => s

/-- RESUME in PAUSED, by the resume point (R28, R40). -/
def resumePaused (s : State) : State :=
  let point := s.pass.resumePoint
  let s := runBudget { s with pass.resumePoint := none, pass.pausePending := false }
  match point with
  | some .nextTile => takeGuard (boundary s)
  | _ => enterReturning s

/-- RESUME (R40). -/
def resume (s : State) : ReplyBody × State :=
  if s.jobActive = false then (.refused .notActive 0 (.passState s.pass.state), s)
  else
    match s.pass.state with
    | .halted => (.refused .halted 0 (.passState .halted), s)
    | .paused =>
      let s := resumePaused s
      (.ok (.passState s.pass.state), s)
    | st => (.ok (.passState st), { s with pass.pausePending := false })

def execResume (s : State) : Host.Outcome State Fault Refusal := serve 8 (noBody resume) s

/-- The tile in hand at CLEAR-HALT: recorded now, or as soon as nothing of it is in flight (R47). -/
def clearTile (s : State) : State :=
  if s.ladder.all fun l => l.inFlight.isEmpty then recordTile s else { s with pass.settle := some .inPlace }

/-- CLEAR-HALT with a job ACTIVE: FAILED, the tile and the walk closed, then the choice (R47). -/
def clearHaltJob (ret : Bool) (s : State) : State :=
  let s := closeWalk (clearTile (setMark .failed s))
  if ret = true ∧ s.platePresent = true ∧ (s.pass.plate = .onTable ∨ s.pass.loadIssued = true) then enterReturning s
  else
    let s := match s.pass.plate with
      | .onTable => { leavePlate s with motion.expect := .none }
      | _ => s
    jobEndCheck { s with pass.state := .finishing }

/-- CLEAR-HALT, its choice coded 0 LEAVE, 1 RETURN (R47). -/
def clearHalt (code : Nat) (s : State) : ReplyBody × State :=
  match yesNoOfCode code with
  | none => (refuse .badField 1, s)
  | some ret =>
    match s.pass.state with
    | .halted =>
      let s := { s with queue.run := .stopped }
      match s.pass.job with
      | none =>
        let s := { s with pass.state := .idle }
        (.ok (.cleared .idle none), s)
      | some j =>
        let s := clearHaltJob ret s
        (.ok (.cleared s.pass.state (if s.jobActive then none else some j.number)), s)
    | st => (.refused .notHalted 0 (.cleared st none), s)

def execClearHalt (s : State) : Host.Outcome State Fault Refusal := serve 9 (withBody (numBody 1) clearHalt) s

/-- HOME (R141). R141 gives the refusals BUSY and HALTED and no order between them: that a job ACTIVE under HALTED, a calibration or a HOME
request answers BUSY before HALTED is the model's choice, after the order that R120 gives CALIBRATE (log 72). -/
def home (s : State) : ReplyBody × State :=
  if s.jobActive || s.cal.cal.isSome || s.motion.homeRequest then (refuse .busy, s)
  else
    match s.pass.state with
    | .halted => (refuse .halted, s)
    | _ =>
      (.ok (.homing s.motion.unsure), wantOrder ⟨.home, 0, 0, .homeRequest⟩ { s with motion.homeRequest := true })

def execHome (s : State) : Host.Outcome State Fault Refusal := serve 17 (noBody home) s

end Sys2Proof.Machine
end

