-- ==== Sys2Proof/Machine/Queue.lean ====
section
/-! DEFINITION. The plate queue: ENQUEUE-PLATE (R6 to R9), CANCEL-PLATE (R13, R42), READ-QUEUE, READ-HISTORY, START-QUEUE, STOP-QUEUE, and
JOB_START with what PREPARING does (R12, R22 to R25). -/

namespace Sys2Proof.Machine

open Sys2Proof

/-! ### ENQUEUE-PLATE -/

/-- The number after n, passing from 65,535 to 1 (R8). -/
def nextNumber (n : Nat) : Nat := if n < 65535 then n + 1 else 1

/-- The first number from `n` upward that no job of the queue holds, tried `fuel` times at most (R8). -/
def freeNumber (jobs : List QueueJob) : Nat → Nat → Nat
  | 0, n => n
  | fuel + 1, n => if jobs.any fun j => decide (j.number = n) then freeNumber jobs fuel (nextNumber n) else n

/-- The job that claims a slot (R9). -/
def State.claimant (s : State) (slot : Nat) : Option QueueJob :=
  s.queue.jobs.find? fun j => decide (j.record.slot = slot)

/-- A job is taken: a number, a slot claim, the tail of the queue (R7 to R9). The reply carries what R9 lists, and no field for the
state QUEUED, which every accepted job has: the model's reading (log 59). -/
def acceptJob (r : RawJob) (s : State) : ReplyBody × State :=
  let record := r.record
  let n := freeNumber s.queue.jobs Config.queueCap s.queue.next
  let job : QueueJob := { number := n, record := record, active := false, accepted := s.tag, started := none }
  let content := Content.enqueued n (s.queue.jobs.length + 1) record.tiles r.clamps
  let body := if r.clamps = [] then ReplyBody.ok content else ReplyBody.adjusted content
  (body, { s with queue.jobs := s.queue.jobs ++ [job], queue.next := nextNumber n })

/-- ENQUEUE-PLATE, by the checks of R6 in their order. -/
def enqueue (r : RawJob) (s : State) : ReplyBody × State :=
  match r.firstBad with
  | some i => (refuse .badField i, s)
  | none =>
    match r.record.outOfTravel with
    | some (i, coordinate) => (refuse (.outOfTravel coordinate) i, s)
    | none =>
      if Config.queueCap ≤ s.queue.jobs.length then (refuse .queueFull, s)
      else
        match s.claimant r.record.slot with
        | some j => (refuse (.slotTaken j.number) 2, s)
        | none => acceptJob r s

def execEnqueuePlate (s : State) : Host.Outcome State Fault Refusal := serve 1 (withBody jobLayout enqueue) s

/-! ### CANCEL-PLATE -/

/-- A QUEUED job is removed and filed as CANCELLED (R13, R16). -/
def cancelQueued (j : QueueJob) (s : State) : State :=
  fileHistory
    { number := j.number, plateId := j.record.plateId, slot := j.record.slot, outcome := .cancelled, counts := noCounts,
      banksUsed := noBanks, stale := false, started := none, ended := s.tag, firstFault := none }
    { s with queue.jobs := s.queue.jobs.filter fun q => decide (q.number ≠ j.number) }

/-- What every taken cancel of the ACTIVE job does (R42). -/
def takeCancel (s : State) : State :=
  markUnlessSet .cancelled (stopBudget { s with pass.pausePending := false })

/-- A cancel of the ACTIVE job, by the pass state (R42). The reply carries the pass state at the taking. -/
def cancelActive (s : State) : ReplyBody × State :=
  let body := ReplyBody.ok (.passState s.pass.state)
  match s.pass.state with
  | .halted => (refuse .halted, s)
  | .returning | .finishing => (refuse .late, s)
  | .preparing => (body, jobEndCheck { takeCancel s with pass.cancelPending := true })
  | .loading => (body, { takeCancel s with pass.cancelPending := true })
  | .walking => (body, settle .returning (stopLadder .cancelled (closeWalk (takeCancel s))))
  | .paused => (body, enterReturning (closeWalk (takeCancel s)))
  | .idle => (refuse .notFound, s)

/-- CANCEL-PLATE (R13). -/
def cancel (number : Nat) (s : State) : ReplyBody × State :=
  match s.queue.jobs.find? fun j => decide (j.number = number) with
  | none => (refuse .notFound, s)
  | some j => if j.active then cancelActive s else (.ok .empty, cancelQueued j s)

def execCancelPlate (s : State) : Host.Outcome State Fault Refusal := serve 2 (withBody (numBody 2) cancel) s

/-! ### Reading (R17, R18) -/

def QueueJob.row (j : QueueJob) : QueueRow :=
  { number := j.number, active := j.active, plateId := j.record.plateId, slot := j.record.slot, rows := j.record.rows,
    cols := j.record.cols, accepted := j.accepted, started := j.started }

/-- A job's position, counted from 1 at the head. -/
def positionOf (number : Nat) (jobs : List QueueJob) : Nat := jobs.findIdx (fun j => decide (j.number = number)) + 1

def readQueue (number : Option Nat) (s : State) : ReplyBody × State :=
  match number with
  | none => (.ok (.queue s.queue.run s.queue.next (s.queue.jobs.map QueueJob.row)), s)
  | some n =>
    match s.queue.jobs.find? fun j => decide (j.number = n) with
    | none => (refuse .notFound, s)
    | some j => (.ok (.job n j.record j.active (positionOf n s.queue.jobs)), s)

def execReadQueue (s : State) : Host.Outcome State Fault Refusal := serve 3 (withBody (optBody 2) readQueue) s

/-- READ-HISTORY (R18). Two entries can carry one number, since a number is reused once its job has left the queue (R8): of
them the oldest is returned, a choice of the model's (log 52). -/
def readHistory (number : Option Nat) (s : State) : ReplyBody × State :=
  match number with
  | none => (.ok (.history s.queue.history), s)
  | some n =>
    match s.queue.history.find? fun e => decide (e.number = n) with
    | none => (refuse .notFound, s)
    | some e => (.ok (.historyEntry e), s)

def execReadHistory (s : State) : Host.Outcome State Fault Refusal := serve 4 (withBody (optBody 2) readHistory) s

/-! ### The run state (R10, R11) -/

def startQueue (s : State) : ReplyBody × State :=
  match s.pass.state with
  | .halted => (.refused .halted 0 (.runState s.queue.run), s)
  | _ => (.ok (.runState .running), { s with queue.run := .running })

def execStartQueue (s : State) : Host.Outcome State Fault Refusal := serve 5 (noBody startQueue) s

def stopQueue (s : State) : ReplyBody × State :=
  match s.queue.run with
  | .running =>
    let run := if s.jobActive then RunState.stopping else .stopped
    (.ok (.runState run), { s with queue.run := run })
  | run => (.ok (.runState run), s)

def execStopQueue (s : State) : Host.Outcome State Fault Refusal := serve 6 (noBody stopQueue) s

/-! ### JOB_START and PREPARING -/

/-- The bank choice (R24): the first usable bank of those the job tries. -/
def State.chooseBank (s : State) (j : JobRecord) : Option BankId := j.bankPref.tried.find? s.usable

/-- PLATE-START's content (R25). -/
def plateStart (j : JobInHand) (b : BankInUse) (s : State) : Notice :=
  .plateStart j.number j.record.plateId j.record.slot j.record.tiles j.record.walk b.bank b.top b.first b.last
    (s.cal.staleSet.has b.bank) j.record.budgetS s.tag

/-- A bank is taken, PLATE-START is posted and the MOVE to the load point issued (R24, R25); or no bank is usable. -/
def bankChoice (j : JobInHand) (s : State) : State :=
  match s.chooseBank j.record with
  | none => endJob false (setMark .noBank s)
  | some bank =>
    let s := takeBank j.record bank s
    let s := match s.pass.bank with
      | some b => postNotice (plateStart j b s) s
      | none => s
    wantOrder ⟨.move, 0, 0, .pass⟩ { s with pass.step := .moving }

/-- The plate-present check, with TABLE_OCCUPIED when the line is true (R23, R144); then the bank choice. -/
def prepCheck (s : State) : State :=
  match s.pass.job with
  | none => s
  | some j =>
    if s.platePresent then endJob true (setMark .failed (takeAhead (raiseFault .tableOccupied ⟨s.jobCtx, none, none, none⟩ s)))
    else bankChoice j s

/-- The pass as PREPARING begins for a job (R22, R130). Pause pending stays as it is. -/
def prepare (j : JobInHand) (s : State) : State :=
  let budget : Budget := match j.record.budgetS with
    | none => ⟨.absent, 0, 0⟩
    | some b => ⟨.waiting, b * 1000, 0⟩
  { s with
    pass := { resetPass with state := .preparing, job := some j, budget := budget, pausePending := s.pass.pausePending },
    cal.staleSet := noBanks, cal.raisedSet := noBanks, faults.jobMark := none }

/-- The start condition's own part (R12). -/
def State.mayStart (s : State) : Bool :=
  decide (s.queue.run = .running ∧ s.pass.state = .idle) && s.cal.cal.isNone && !s.motion.homeRequest

/-- JOB_START: the head job becomes ACTIVE, the pass enters PREPARING, homing first when positioner-unsure is set. -/
def execJobStart (s : State) : Host.Outcome State Fault Refusal :=
  match s.queue.jobs with
  | [] => .next s
  | q :: rest =>
    if s.mayStart = true ∧ q.active = false then
      let s := { s with queue.jobs := { q with active := true, started := some s.tag } :: rest }
      let s := prepare ⟨q.number, q.record, s.tag⟩ s
      if s.motion.unsure then .next (wantOrder ⟨.home, 0, 0, .pass⟩ { s with pass.step := .homing })
      else .next (prepCheck s)
    else .next s

end Sys2Proof.Machine
end

