-- ==== Sys2Proof/Machine/Orders.lean ====
section
/-! DEFINITION. The ends of orders as their requesters take them: MOTION_REPORT (R135), the limits' expiries (R136 to R138), ORDER_ISSUE (R134),
PLATE_PRESENT_CHANGE (R143), and what the pass does at DONE and EMPTY (R22, R25, R26, R30, R33). -/

namespace Sys2Proof.Machine

open Sys2Proof

/-! ### DONE and EMPTY as the pass takes them -/

/-- LOADING is entered and LOAD issued with the job's slot (R26). -/
def enterLoading (s : State) : State :=
  match s.pass.job with
  | none => s
  | some j => wantOrder ⟨.load, j.record.slot, 0, .pass⟩ { s with pass.state := .loading, pass.step := .handling }

/-- DONE in PREPARING: a job cancelled meanwhile ends; after HOME the plate-present check, after MOVE the LOAD (R22, R25, R42). -/
def preparingDone (s : State) : State :=
  match s.pass.mark, s.pass.step with
  | some _, _ => jobEndCheck s
  | none, .homing => prepCheck s
  | none, _ => enterLoading s

/-- LOAD DONE: the line is read (R26). With a cancel pending the walk is closed and the plate returned (R42; log 29). -/
def loadDone (s : State) : State :=
  if s.platePresent then
    let s := { s with pass.plate := .onTable, motion.expect := .present, pass.step := .none }
    if s.pass.cancelPending then enterReturning (closeWalk { s with pass.cancelPending := false })
    else takeGuard (boundary s)
  else plateSense s

/-- LOAD EMPTY: SLOT_EMPTY is raised and the job ends, a mark already set standing (R26). Its escalation taken first, the job ends under
HALTED all the same: R177 gives either order the same result (log 68). -/
def loadEmpty (s : State) : State :=
  let s := takeAhead (raiseFault .slotEmpty ⟨s.jobCtx, none, none, none⟩ s)
  match s.pass.job, s.pass.state with
  | none, _ => s
  | some _, .halted => if s.workDone then endJob false (markUnlessSet .slotEmpty s) else markUnlessSet .slotEmpty s
  | some _, _ => jobEndCheck (markUnlessSet .slotEmpty s)

/-- The MOVE of the tile in hand is done: a tile being settled gets its record; otherwise it claims a plane (R30, R37, R42). With
both planes busy it enters WAIT_PLANE; with one FREE the claim is PLANE_CLAIM's (log 12). -/
def tileMoved (s : State) : State :=
  match s.pass.settle with
  | some dest => settleNow dest s
  | none =>
    let phase := if s.freePlane.isNone then TilePhase.waitPlane else .moving
    { s with pass.tile := s.pass.tile.map fun t => { t with phase := phase, moveDone := true } }

/-- RETURN DONE: the line is read (R33). With the line true the plate is LEFT, by PLATE_SENSE's action, which a halt may precede. -/
def returnDone (s : State) : State :=
  if s.platePresent then
    let s := takeAhead (raiseFault .plateSense s.passCtx s)
    fatalLeave (match s.pass.job with
      | some _ => { s with pass.plate := .left }
      | none => s)
  else jobEndCheck { s with pass.plate := .returned, pass.state := .finishing, pass.step := .none }

/-- DONE in RETURNING: after HOME the MOVE to the load point, after it RETURN with the job's slot (R33). -/
def returningDone (s : State) : State :=
  match s.pass.step, s.pass.job with
  | .homing, _ => wantOrder ⟨.move, 0, 0, .pass⟩ { s with pass.step := .moving }
  | .moving, some j => wantOrder ⟨.ret, j.record.slot, 0, .pass⟩ { s with pass.step := .handling }
  | .handling, _ => returnDone s
  | _, _ => s

/-- The pass is told that its order ended DONE. -/
def passOrderDone (s : State) : State :=
  match s.pass.state with
  | .preparing => preparingDone s
  | .loading => loadDone s
  | .walking => tileMoved s
  | .returning => returningDone s
  | .idle | .paused | .finishing | .halted => s

/-- A requester is told that its order ended DONE (R135). -/
def orderDone (o : Order) (s : State) : State :=
  let s := endOrder o s
  match o.requester with
  | .pass => passOrderDone s
  | .calibration => calOrderDone s
  | .homeRequest => endHome .success none s

/-! ### MOTION_REPORT -/

/-- One admitted report (R135). -/
def takeReport (kind : ReportKind) (number : Nat) (s : State) : State :=
  let effect := matchReport kind number s
  let s := noteReport kind number s
  match effect, s.motion.order with
  | .orderDone, some o => orderDone o s
  | .orderEmpty, some o => loadEmpty (endOrder o s)
  | .orderHalted, some o => motionFatal .positionerHalt o.requester { s with motion.order := none }
  | .stopDone unsure, _ => completeStop unsure s
  | _, _ => discardReport s

/-- One byte off the line (R201). -/
def takeByte (s : State) (b : RxByte) : State :=
  match assemble b s with
  | (s, none) => s
  | (s, some (bytes, err)) =>
    match admitRecord bytes err with
    | none => discardReport s
    | some (kind, number) => takeReport kind number s

/-- MOTION_REPORT: bytes off the line, taken in order (R135, R201). -/
def execMotionReport (rx : List RxByte) (s : State) : Host.Outcome State Fault Refusal := .next (rx.foldl takeByte s)

/-! ### Limits (R136 to R138) -/

/-- MOVE_LIMIT_EXPIRY: a first timeout brings MOVE_RETRY and a STOP with reissue pending, a second MOVE_TIMEOUT (R137). The context of a
MOVE_RETRY, which 8.6 shows for an order of the pass alone, is the one R139 gives the fatal kinds: the bank for a calibration's order and no
field for a HOME request's, by the model's inference (log 69). -/
def execMoveLimitExpiry (s : State) : Host.Outcome State Fault Refusal :=
  match s.liveOrder with
  | none => .next s
  | some o =>
    if (o.kind = .move ∨ o.kind = .home) ∧ limitPassed o.limit o.issuedAt s.now = true then
      if o.retried then .next (motionFatal .moveTimeout o.requester { s with motion.order := none })
      else .next (retryStop (addCounter .moveRetries 1 (raiseFault .moveRetry (s.requesterCtx o.requester) s)))
    else .next s

/-- HANDLER_LIMIT_EXPIRY: HANDLER_TIMEOUT, without a retry (R138). -/
def execHandlerLimitExpiry (s : State) : Host.Outcome State Fault Refusal :=
  match s.liveOrder with
  | none => .next s
  | some o =>
    if (o.kind = .load ∨ o.kind = .ret) ∧ limitPassed o.limit o.issuedAt s.now = true then
      .next (motionFatal .handlerTimeout o.requester { s with motion.order := none })
    else .next s

/-- STOP_LIMIT_EXPIRY: the STOP completes all the same, and positioner-unsure is set (R136). -/
def execStopLimitExpiry (s : State) : Host.Outcome State Fault Refusal :=
  match s.motion.stop with
  | none => .next s
  | some st => if limitPassed st.limit st.issuedAt s.now then .next (completeStop true s) else .next s

/-- ORDER_ISSUE: with no order and no STOP outstanding, the order that waited is issued, or a RETURNING that waited begins
(R33, R134). -/
def execOrderIssue (s : State) : Host.Outcome State Fault Refusal :=
  if s.motionFree then
    match s.motion.waiting with
    | some w => .next (issueOrder w false { s with motion.waiting := none })
    | none =>
      if s.pass.state = .returning ∧ s.pass.step = .waiting then .next (beginReturn s) else .next s
  else .next s

/-- PLATE_PRESENT_CHANGE: the line takes its level; a fall while the plate is expected is PLATE_SENSE (R143). -/
def execPlatePresentChange (present : Bool) (s : State) : Host.Outcome State Fault Refusal :=
  let fell := s.platePresent && !present
  let s := { s with platePresent := present }
  if fell = true ∧ s.motion.expect = .present then .next (plateSense s) else .next s

end Sys2Proof.Machine
end

