-- ==== Sys2Proof/Machine/Capture.lean ====
section
/-! DEFINITION. The events of capture: failed attempts, exposures' ends, driver faults, frames, attempts, planes, merges, conversions, the
plate budget (R30, R36, R37, R54, R58, R61, R63, R73, R77, R83 to R91, R98, R115). -/

namespace Sys2Proof.Machine

open Sys2Proof

/-! ### A failed attempt (R58, R61, R63)

The sequencer's decision is the action of the fault that the unit judging the failure raised (R58), and going on after a lost rung is that of
RUNG_LOST: an escalation may come before either (R177; log 68). -/

/-- A rung is lost, with its last attempt: it is entered, RUNG_LOST is raised, and the ladder goes on unless a halt has come first (R61). -/
def loseRung (rung started : Nat) (s : State) : State :=
  match s.ladder with
  | none => s
  | some l =>
    let s := addCounter .rungsLost 1 (enterRung ⟨rung, .lost, l.allowed, started⟩ s)
    mapLadder (fun l =>
      { l with conds := Conds.put l.conds condRungLost true,
               due := if l.stopping = .no ∧ rung < l.currentLast then some (rung + 1, 1) else none })
      (takeAhead (raiseFault .rungLost (s.rungCtx rung l.allowed l.bank) s))

/-- The decision after attempt `a` of rung `r` fails, by the first row of R63's table that holds. -/
def decideFailure (bankFault : Bool) (r a started : Nat) (s : State) : State :=
  match s.ladder, s.pass.job with
  | some l, some j =>
    if bankFault && decide (l.stopping = .no) && switchTest false l s then restart false s
    else if l.stopping ≠ .no then s
    else if a < l.allowed ∧ j.record.retryBank a = .alternate ∧ switchTest true l s = true then restart true s
    else if a < l.allowed then mapLadder (fun l => { l with due := some (r, a + 1) }) s
    else loseRung r started s
  | _, _ => s

/-- The attempt whose frame is awaited fails at its exposure (R58), its fault raised: its slot takes a discard mark (R90), and R63 decides. -/
def failExposure (bankFault : Bool) (s : State) : State :=
  let s := takeAhead s
  match s.fillingSlot.bind s.flightAt with
  | none => s
  | some f => decideFailure bankFault f.rung f.attempt f.started (markFilling .ladder s)

/-! ### EXPOSURE_TIMER_END (R73, R75) -/

/-- The context of the rung whose frame is awaited (R70). -/
def State.awaitedCtx (s : State) (bank : BankId) : Ctx :=
  match s.fillingSlot.bind s.slot with
  | some d => s.rungCtx d.rung d.attempt bank
  | none => s.passCtx

/-- The requester is told how an exposure that ran out ended (R73): DRIFT raises LAMP_DRIFT and fails the attempt (R177; log 68). -/
def exposureRanOut (x : Exposure) (verdict : Verdict) (s : State) : State :=
  match x.purpose with
  | .calibration => calExposureEnd x.mean s
  | .rung =>
    match verdict with
    | .drift => failExposure false (raiseFault .lampDrift (s.awaitedCtx x.bank) s)
    | .held | .notJudged => s

/-- EXPOSURE_TIMER_END: the line falls; an exposure that was not cut runs out, all its samples having been taken (log 10). -/
def execExposureTimerEnd (s : State) : Host.Outcome State Fault Refusal :=
  match s.lamps.line with
  | none => .next s
  | some t =>
    if t ≤ s.now then
      match s.lamps.exposure with
      | none => .next { s with lamps.line := none }
      | some x =>
        if x.count = samplesDue x.exposure then .next (exposureRanOut x (s.verdict x) (darkenAtEnd x s)) else .next s
    else .next s

/-! ### FAULT_INPUT_ASSERT (R77, R78) -/

/-- The requester of a cut exposure is told that it ended in BANK_FAULT (R77, step 4). The sequencer may meet the fault's escalation before
it is told; a calibration is told at once (R177; log 68). -/
def exposureFaulted (purpose : Purpose) (s : State) : State :=
  match purpose with
  | .rung => failExposure true s
  | .calibration => failCal .bankFault s

/-- A driver fault of the bank that is lit, in the order of R77. -/
def litFault (bank : BankId) (x : Exposure) (s : State) : State :=
  let s := failBank bank true (darkenNow s)
  let ctx : Ctx := match x.purpose with
    | .rung => s.awaitedCtx bank
    | .calibration => ⟨none, none, none, some bank⟩
  exposureFaulted x.purpose (raiseFault .bankFault ctx s)

/-- FAULT_INPUT_ASSERT: the change from clear to asserted is a driver fault; while asserted none is taken (R77). -/
def execFaultInputAssert (bank : BankId) (s : State) : Host.Outcome State Fault Refusal :=
  if (s.bank bank).faultInput then .next s
  else
    let s := setFaultInput bank true s
    match s.lamps.exposure with
    | some x => if x.bank = bank then .next (litFault bank x s) else .next (darkFault bank s)
    | none => .next (darkFault bank s)

/-! ### Frames (R83, R86 to R90) -/

/-- The context of a frame fault: the rung's for a LADDER slot, the bank alone for a CALIBRATION slot (R88). -/
def State.frameCtx (s : State) (d : Slot) : Ctx :=
  match d.taker with
  | .ladder => ⟨s.jobCtx, s.tileCtx, some (d.rung, d.attempt), s.ladder.map (·.bank)⟩
  | .calibration => ⟨none, none, none, s.cal.cal.map (·.bank)⟩

/-- The ladder goes on, and with it the walk (R31, R66, R67; log 68). -/
def progressOn (s : State) : State := takeGuard (progress s)

/-- A discard-marked frame ends or meets its deadline: it is not judged (R90). No rule says what becomes of a calibration's
pending M then: it stands until the calibration ends (log 46). -/
def frameDiscarded (i : SlotId) (d : Slot) (s : State) : State :=
  let s := dropFrame i d .discarded s
  match d.taker with
  | .ladder => progressOn (clearCurrent (endFlight i s))
  | .calibration => closeCal s

/-- A frame fails, FRAME_SHORT or FRAME_TIMEOUT: the slot is released, the kind raised, the taker told (R88, R89). The sequencer may meet the
fault's escalation before it is told; a calibration is told at once (R177; log 68). -/
def frameFailed (i : SlotId) (d : Slot) (kind : FaultKind) (verdict : FrameVerdict) (s : State) : State :=
  let s := raiseFault kind (s.frameCtx d) (dropFrame i d verdict s)
  match d.taker with
  | .ladder =>
    let started := ((s.flightAt i).map (·.started)).getD s.tag
    progressOn (decideFailure false d.rung d.attempt started (clearCurrent (endFlight i (takeAhead s))))
  | .calibration => calFrameFailed s

/-- A valid frame is handed to its taker (R88). -/
def frameValid (i : SlotId) (d : Slot) (s : State) : State :=
  let m := (s.cal.cal.bind (·.pendingM)).getD 0
  match d.taker with
  | .ladder => progressOn (frameSucceeded i d.rung d.clipped d.window.pixels (validateFrame i d 0 s))
  | .calibration => calFrameValid (validateFrame i d m s)

/-- The awaited frame has ended: discarded when marked, else short or valid; a frame broken by a new frame start is short
whatever it holds (R83, R88, R90). -/
def judgeFrame (i : SlotId) (broken : Bool) (s : State) : State :=
  match s.slot i with
  | none => s
  | some d =>
    if d.discard then frameDiscarded i d s
    else if broken || d.isShort then frameFailed i d .frameShort .frameShort s
    else frameValid i d s

/-- FRAME_START: the awaited frame's, or a stray's; a frame in reception ends short first, and one whose marked slot was
released ends as a stray (R83, R86, R87, R90). -/
def execFrameStart (s : State) : Host.Outcome State Fault Refusal :=
  match s.intake.rx with
  | .receiving i => .next (countStray (judgeFrame i true { s with intake.rx := .idle }))
  | .released => .next (startFrame (countDiscarded s))
  | .idle | .discarding => .next (startFrame s)

/-- FRAME_END (R88, R90). The end of a frame whose marked slot was released makes it a stray (R90); the end of any other frame
that is being discarded changes nothing more (R84, R87, R89). -/
def execFrameEnd (s : State) : Host.Outcome State Fault Refusal :=
  match s.intake.rx with
  | .receiving i => .next (judgeFrame i false { s with intake.rx := .idle })
  | .released => .next (countDiscarded { s with intake.rx := .idle })
  | .discarding => .next { s with intake.rx := .idle }
  | .idle => .next s

/-- A frame in reception at its slot's deadline goes on arriving, and its remainder is discarded: uncounted after a
FRAME_TIMEOUT (R89), and for a marked slot counted when it ends (R90). -/
def giveUpFrame (i : SlotId) (marked : Bool) (s : State) : State :=
  if s.intake.rx = .receiving i then { s with intake.rx := if marked then .released else .discarding } else s

/-- FRAME_DEADLINE: FRAME_TIMEOUT, or DISCARDED for a marked slot (R89, R90). -/
def execFrameDeadline (s : State) : Host.Outcome State Fault Refusal :=
  match s.fillingSlot with
  | none => .next s
  | some i =>
    match s.slot i with
    | none => .next s
    | some d =>
      if d.deadline ≤ s.now then
        if d.discard then .next (frameDiscarded i d (giveUpFrame i true s))
        else .next (frameFailed i d .frameTimeout .frameTimeout (giveUpFrame i false s))
      else .next s

/-! ### ATTEMPT_START (R54, R62, R64) -/

/-- An attempt is due on a FAILED bank (R62, R64). -/
def failedBankDue (l : Ladder) (r a : Nat) (s : State) : State :=
  if switchTest false l s then
    if l.begun = false ∧ l.rungList = [] ∧ l.inFlight = [] then moveBank s else restart false s
  else noLight (takeAhead (raiseFault .noLight (s.rungCtx r a l.bank) s))

/-- ATTEMPT_START: a due attempt starts, with the monitor's first sample; on a FAILED bank R64 decides instead. -/
def execAttemptStart (reading : Sample) (s : State) : Host.Outcome State Fault Refusal :=
  match s.ladder, s.pass.job with
  | some l, some j =>
    match l.due with
    | none => .next s
    | some (r, a) =>
      if l.stopping ≠ .no then .next s
      else if (s.bank l.bank).health = .failed then .next (failedBankDue l r a s)
      else if l.awaits || s.anyLit then .next s
      else
        match s.freeSlot with
        | none => .next s
        | some i => .next (startAttempt l j.record.window r a i reading s)
  | _, _ => .next s

/-! ### PLANE_CLAIM (R30, R53) -/

/-- The tile may claim a plane: its MOVE is done, it is not being settled or held, and the pass is not HALTED. -/
def State.mayClaim (s : State) : Bool :=
  (s.pass.tile.any fun t =>
    match t.phase with
    | .waitPlane => true
    | .moving => t.moveDone
    | .deciding | .ladder => false) && s.pass.settle.isNone && decide (s.pass.state ≠ .halted)

/-- The plane becomes FILLING for the tile and is cleared; the tile enters LADDER and its ladder is started on the bank in use,
with C and L latched. -/
def claimPlane (j : JobInHand) (t : Tile) (b : BankInUse) (i : PlaneId) (s : State) : State :=
  let c := s.params.clipLevel
  let l := s.params.signalFloor
  let owner : Owner := ⟨j.number, j.record, t.row, t.col, t.ordinal, t.started⟩
  let s := s.setPlane i (some (claimedPlane owner c l))
  { s with pass.tile := some { t with phase := .ladder, moveDone := true, plane := some i },
           ladder := some (freshLadder j.record b (s.cal.staleSet.has b.bank) c l) }

def execPlaneClaim (s : State) : Host.Outcome State Fault Refusal :=
  match s.pass.job, s.pass.tile, s.pass.bank, s.freePlane with
  | some j, some t, some b, some i => if s.mayClaim then .next (claimPlane j t b i s) else .next s
  | _, _, _, _ => .next s

/-! ### MERGE_END (R57, R98, R99) -/

/-- The rung's entry at its merge end: entered MERGED, except under a restart, which then goes on (R57, R60, R99). -/
def rungMerged (f : Flight) (s : State) : State :=
  match s.ladder.bind (·.restartPending) with
  | some policy => finishRestart policy s
  | none => enterRung ⟨f.rung, .merged, f.attempt, f.started⟩ s

/-- MERGE_END: the plane takes the frame, its merges rise, the slot is freed, the rung is entered, and the ladder goes on. -/
def execMergeEnd (s : State) : Host.Outcome State Fault Refusal :=
  match s.mergingSlot .ladder, s.pass.tile.bind (·.plane) with
  | some i, some p =>
    match s.slot i, s.flightAt i with
    | some d, some f =>
      let s := s.setPlane p ((s.plane p).map (mergedPlane d))
      let s := addCounter .rungsMerged 1 (endFlight i (s.releaseSlot i))
      .next (progressOn (rungMerged f s))
    | _, _ => .next s
  | _, _ => .next s

/-! ### CONVERSION_END (R115) -/

/-- A CAPTURED record with attention sets pause pending, under stop_on_attention, in PREPARING, LOADING and WALKING (R41). -/
def attentionPause (attention : Bool) (s : State) : State :=
  match s.pass.job, s.pass.state with
  | some j, .preparing | some j, .loading | some j, .walking =>
    if attention && j.record.stopOnAttention then { s with pass.pausePending := true } else s
  | _, _ => s

/-- What the end of a conversion does, in the order of R115. -/
def finishConversion (c : Conversion) (fields : LadderFields) (s : State) : State :=
  let r := capturedRecord c fields s.tag
  let s := attentionPause r.attention (writeRecord r c.owner.record.notifyQuiet s)
  let s := readyBuffer c s.out.newest s
  let s := countConversion c.figures r.attention (addHistogram c.figures s)
  let s := s.releasePlane c.plane
  jobEndCheck { s with conv := none, pass.handedOver := s.pass.handedOver - 1 }

/-- CONVERSION_END: the rows still to do are converted, and the conversion ends (R103, R115). -/
def execConversionEnd (s : State) : Host.Outcome State Fault Refusal :=
  match s.conv with
  | none => .next s
  | some c =>
    let s := convertRows (c.window.h - c.rowsDone) s
    match s.conv, (s.plane c.plane).bind (·.ladder) with
    | some c, some fields => .next (finishConversion c fields s)
    | _, _ => .next s

/-! ### BUDGET_EXPIRY (R36, R37) -/

/-- The wind-up after expiry, by the pass state (R37). The walk is closed first, so that the record of a tile in WAIT_PLANE comes behind
those of the undecided tiles: the model's choice, which the manual leaves open (log 48). Under HALTED, its escalation taken first, it closes
the walk of a loaded plate and settles the tile in hand: one in LADDER, its ladder stopped by the halt, as R68 settles it (R45). -/
def windUp (s : State) : State :=
  let s := markUnlessSet .overtime s
  match s.pass.state with
  | .walking =>
    let s := closeWalk s
    match s.pass.tile with
    | none => s
    | some t =>
      match t.phase with
      | .ladder => progress (stopLadder .expired s)
      | _ => settle .boundary s
  | .halted =>
    match s.pass.plate with
    | .notLoaded => s
    | _ => settle .inPlace (closeWalk s)
  | _ => s

/-- BUDGET_EXPIRY: a RUNNING budget at 0 becomes EXPIRED and BUDGET_EXPIRED is raised (R36, R177). -/
def execBudgetExpiry (s : State) : Host.Outcome State Fault Refusal :=
  if s.pass.budget.state = .running ∧ s.pass.budget.remaining = 0 then
    let s := { s with pass.budget.state := .expired }
    .next (windUp (takeAhead (raiseFault .budgetExpired ⟨s.jobCtx, s.tileCtx, none, s.pass.bank.map (·.bank)⟩ s)))
  else .next s

end Sys2Proof.Machine
end

