-- ==== Sys2Proof/Machine/Params.lean ====
section
/-! DEFINITION. The parameters (R192, R193), the time base's requests and wrap (R194, R195), IDENTIFY (R196). -/

namespace Sys2Proof.Machine

open Sys2Proof

/-! ### Parameters -/

/-- A parameter's present value (R193). -/
def Params.get (p : Params) : ParamId → ParamValue
  | .clipLevel => .number p.clipLevel
  | .signalFloor => .number p.signalFloor
  | .driftTol => .number p.driftTol
  | .frameGrace => .number p.frameGrace
  | .moveLimit => .number p.moveLimit
  | .handlerLimit => .number p.handlerLimit
  | .flatAgeLimit => .number p.flatAgeLimit
  | .lampLevelA => .number p.lampLevelA
  | .lampLevelB => .number p.lampLevelB
  | .calX => .number p.calX
  | .calY => .number p.calY
  | .timeRes => .number p.timeRes
  | .notifyCorrected => .onOff p.notifyCorrected
  | .notifyDegraded => .onOff p.notifyDegraded
  | .notifyFatal => .onOff p.notifyFatal
  | .counterNotify => .flags p.counterNotify

/-- The range of a number parameter (12.4); TIME_RES takes its own values. -/
def ParamId.range : ParamId → Nat × Nat
  | .clipLevel => (1024, 4095)
  | .signalFloor => (1, 255)
  | .driftTol => (1, 200)
  | .frameGrace => (10, 2000)
  | .moveLimit => (1, 30)
  | .handlerLimit => (5, 120)
  | .flatAgeLimit => (0, 1000)
  | .lampLevelA | .lampLevelB => (0, 1023)
  | .calX | .calY => (0, 400000)
  | .timeRes => (1, 64)
  | .notifyCorrected | .notifyDegraded | .notifyFatal | .counterNotify => (0, 0)

/-- A TIME_RES is taken as the largest permitted value not above it, 0 as 1 (R192). -/
def timeResTaken (n : Nat) : Nat :=
  if 64 ≤ n then 64 else if 32 ≤ n then 32 else if 16 ≤ n then 16 else if 8 ≤ n then 8 else if 4 ≤ n then 4
  else if 2 ≤ n then 2 else 1

/-- The value taken for a number given (R192). -/
def ParamId.taken (p : ParamId) (n : Nat) : Nat :=
  match p with
  | .timeRes => timeResTaken n
  | _ => min p.range.2 (max p.range.1 n)

/-- A resolution is set: the count keeps its value, the part of an interval gone is discarded when it changes (R194). -/
def setTimeRes (n : Nat) (s : State) : State :=
  if n = s.params.timeRes then s else { s with params.timeRes := n, time.elapsed := 0 }

/-- A lamp level is set: when it differs, the bank's flat is judged by R79 and R128. -/
def setLevel (bank : BankId) (n : Nat) (s : State) : State :=
  if n = s.level bank then s
  else
    let s := levelChanged bank n s
    match bank with
    | .a => { s with params.lampLevelA := n }
    | .b => { s with params.lampLevelB := n }

/-- A number parameter takes a value. -/
def setNumber (p : ParamId) (n : Nat) (s : State) : State :=
  match p with
  | .clipLevel => { s with params.clipLevel := n }
  | .signalFloor => { s with params.signalFloor := n }
  | .driftTol => { s with params.driftTol := n }
  | .frameGrace => { s with params.frameGrace := n }
  | .moveLimit => { s with params.moveLimit := n }
  | .handlerLimit => { s with params.handlerLimit := n }
  | .flatAgeLimit => { s with params.flatAgeLimit := n }
  | .lampLevelA => setLevel .a n s
  | .lampLevelB => setLevel .b n s
  | .calX => { s with params.calX := n }
  | .calY => { s with params.calY := n }
  | .timeRes => setTimeRes n s
  | .notifyCorrected | .notifyDegraded | .notifyFatal | .counterNotify => s

def setOnOff (p : ParamId) (on : Bool) (s : State) : State :=
  match p with
  | .notifyCorrected => { s with params.notifyCorrected := on }
  | .notifyDegraded => { s with params.notifyDegraded := on }
  | .notifyFatal => { s with params.notifyFatal := on }
  | _ => s

/-- A lamp level is not to be changed now (R79). -/
def State.levelBusy (s : State) (p : ParamId) : Bool :=
  match p with
  | .lampLevelA | .lampLevelB => s.jobActive || s.cal.cal.isSome
  | _ => false

/-- SET-PARAM of a named parameter with a value of its layout (R192). A lamp level given a value of the wrong form is refused
BAD_FIELD also where R79 refuses BUSY: a precedence that the manual does not state (log 53). A refusal, BUSY or BAD_FIELD, carries no value:
R192 gives the reply the parameter's value after the request and does not say whether a refusal has it too, and the model's choice is that
it has not (log 70). -/
def setNamed (p : ParamId) (v : RawValue) (s : State) : ReplyBody × State :=
  match s.params.get p, v with
  | .number _, .number n =>
    if s.levelBusy p then (refuse .busy, s)
    else
      let taken := p.taken n
      let content := Content.param p (.number taken)
      (if taken = n then .ok content else .adjusted content, setNumber p taken s)
  | .onOff _, .onOff code => (.ok (.param p (.onOff (code == 1))), setOnOff p (code == 1) s)
  | .flags _, .flags count mask =>
    if count = 16 then
      let m := BitVec.ofNat 16 mask
      (.ok (.param p (.flags m)), { s with params.counterNotify := m })
    else (refuse .badField 2, s)
  | _, _ => (refuse .badField 2, s)

/-- SET-PARAM (R192). An on/off code that is neither value is judged before the owning rule's checks (R189; log 27). -/
def setParam (arg : Nat × RawValue) (s : State) : ReplyBody × State :=
  match arg.2 with
  | .onOff code =>
    if (yesNoOfCode code).isNone then (refuse .badField 2, s)
    else match paramOfCode arg.1 with
      | none => (refuse .badField 1, s)
      | some p => setNamed p arg.2 s
  | _ =>
    match paramOfCode arg.1 with
    | none => (refuse .badField 1, s)
    | some p => setNamed p arg.2 s

def execSetParam (s : State) : Host.Outcome State Fault Refusal := serve 31 (withBody setParamLayout setParam) s

/-- GET-PARAM: one parameter, or ALL (R193). -/
def getParam (code : Nat) (s : State) : ReplyBody × State :=
  if code = 255 then (.ok (.params (allParams.map fun p => (p, s.params.get p))), s)
  else
    match paramOfCode code with
    | none => (refuse .badField 1, s)
    | some p => (.ok (.param p (s.params.get p)), s)

def execGetParam (s : State) : Host.Outcome State Fault Refusal := serve 32 (withBody (numBody 1) getParam) s

/-! ### The time base (R194, R195) -/

def setTimeLayout (body : List Byte) : Option (Nat × Option Nat) := do
  let (count, bs) ← takeNum 4 body
  let res ← wholeBody (takeOpt (takeNum 1) bs)
  return (count, res)

def State.timeContent (s : State) : Content := .time s.time.count s.params.timeRes s.time.wraps

/-- The count is loaded as given. A wrap that was due at this moment does not occur: the interval that had run out is gone
with the old count (R195). The part of a count interval that has elapsed is kept, of which R194 and R195 say nothing but for a change of
TIME_RES: the model's choice (log 71). -/
def loadCount (n : Nat) (s : State) : State :=
  { s with time.count := n, time.elapsed := if s.params.timeRes ≤ s.time.elapsed then 0 else s.time.elapsed }

/-- SET-TIME: the count is loaded as given, a resolution present is taken as TIME_RES (R195). -/
def setTime (arg : Nat × Option Nat) (s : State) : ReplyBody × State :=
  let s := loadCount arg.1 s
  match arg.2 with
  | none => (.ok s.timeContent, s)
  | some n =>
    let s := setTimeRes (timeResTaken n) s
    (if timeResTaken n = n then .ok s.timeContent else .adjusted s.timeContent, s)

def execSetTime (s : State) : Host.Outcome State Fault Refusal := serve 33 (withBody setTimeLayout setTime) s

def readTime (s : State) : ReplyBody × State := (.ok s.timeContent, s)

def execReadTime (s : State) : Host.Outcome State Fault Refusal := serve 34 (noBody readTime) s

/-- TIME_WRAP: the wrap that is due is made: the count passes from its largest value to 0 (R194; log 39). -/
def execTimeWrap (s : State) : Host.Outcome State Fault Refusal :=
  if s.wrapDue then .next (wrapTime s) else .next s

/-! ### IDENTIFY (R196) -/

/-- The capacities in the order of R196. -/
def capacities : List Nat :=
  [Config.queueCap, Config.historyCap, Config.slotCount, Config.frameSlots, Config.mergePlanes, Config.tileBuffers,
   Config.logCap, Config.zoneEntries, Config.faultKinds, Config.stationCounters, Config.intakeCap, Config.replyCap,
   Config.noticeCap, Config.frameMax]

def identify (s : State) : ReplyBody × State := (.ok (.identity Config.revision s.link.cause capacities), s)

def execIdentify (s : State) : Host.Outcome State Fault Refusal := serve 35 (noBody identify) s

end Sys2Proof.Machine
end

