-- ==== Sys2Proof/Machine/Zones.lean ====
section
/-! DEFINITION. The zone table's requests: SET-ZONE, CLEAR-ZONE, READ-ZONES (R146, R147). Its answer stands in Geometry.lean. -/

namespace Sys2Proof.Machine

open Sys2Proof

/-- SET-ZONE's numbers, indices 1 to 8: index, enabled, kind, x0, y0, x1, y1, classes. -/
def zoneSizes : List Nat := [1, 1, 1, 4, 4, 4, 4, 1]

/-- The field number `i` of a SET-ZONE. -/
def zoneArg (args : List Nat) (i : Nat) : Nat := args.getD (i - 1) 0

/-- SET-ZONE's checks in field order (R147): whether each index passes. -/
def zoneChecks (args : List Nat) : List (Nat × Bool) :=
  let v := zoneArg args
  [(1, decide (v 1 ≤ 7)), (2, (yesNoOfCode (v 2)).isSome), (3, (zoneKindOfCode (v 3)).isSome),
   (4, decide (v 4 ≤ Config.travelMax)), (5, decide (v 5 ≤ Config.travelMax)),
   (6, decide (v 6 ≤ Config.travelMax ∧ v 4 < v 6)), (7, decide (v 7 ≤ Config.travelMax ∧ v 5 < v 7)),
   (8, decide (v 8 ≠ 0))]

def zoneOf (args : List Nat) : Zone :=
  let v := zoneArg args
  { enabled := v 2 == 1, kind := (zoneKindOfCode (v 3)).getD .skip, x0 := v 4, y0 := v 5, x1 := v 6, y1 := v 7,
    classes := BitVec.ofNat 8 (v 8), hits := 0 }

/-- The entry an index names. -/
def State.zone (s : State) (i : Nat) : Option Zone := s.zones.getD i none

/-- SET-ZONE: the entry is replaced whole, its hits 0 (R147). -/
def setZone (args : List Nat) (s : State) : ReplyBody × State :=
  match (zoneChecks args).find? fun c => !c.2 with
  | some c => (refuse .badField c.1, s)
  | none =>
    let i := zoneArg args 1
    let s := { s with zones := s.zones.set i (some (zoneOf args)) }
    (.ok (.zones [(i, s.zone i)]), s)

def execSetZone (s : State) : Host.Outcome State Fault Refusal := serve 19 (withBody (numsBody zoneSizes) setZone) s

/-- Every entry with its index. -/
def State.zoneList (s : State) : List (Nat × Option Zone) := (List.range 8).map fun i => (i, s.zone i)

/-- CLEAR-ZONE of one entry, or of all eight (R147). -/
def clearZone (code : Nat) (s : State) : ReplyBody × State :=
  if code = 255 then
    let s := { s with zones := resetZones }
    (.ok (.zones s.zoneList), s)
  else if code ≤ 7 then
    let s := { s with zones := s.zones.set code none }
    (.ok (.zones [(code, s.zone code)]), s)
  else (refuse .badField 1, s)

def execClearZone (s : State) : Host.Outcome State Fault Refusal := serve 20 (withBody (numBody 1) clearZone) s

/-- READ-ZONES (R147). -/
def readZones (s : State) : ReplyBody × State := (.ok (.zones s.zoneList), s)

def execReadZones (s : State) : Host.Outcome State Fault Refusal := serve 21 (noBody readZones) s

end Sys2Proof.Machine
end

