-- ==== Sys2Proof/Machine/Wire.lean ====
section
/-! DEFINITION. The bytes of the frames the part sends: replies, notices and image frames (R151, R152, R189, R191, R200).

A list whose count no rule names is sent behind a count byte. A field that is returned under a condition alone is sent behind a
presence byte of its own; a record that its table gives as absent or present whole takes one. A value that a table lists is coded
by its place there, and one that a sentence alone lists by its place in the sentence (log 24). -/

namespace Sys2Proof.Machine

open Sys2Proof

/-! ### Fields -/

def u8 (n : Nat) : List Byte := leBytes 1 n
def u16 (n : Nat) : List Byte := leBytes 2 n
def u32 (n : Nat) : List Byte := leBytes 4 n

/-- yes/no and on/off. -/
def yn (b : Bool) : List Byte := u8 (if b then 1 else 0)

/-- A named value: its place in the list of its values. -/
def named {α : Type} [DecidableEq α] (values : List α) (a : α) : List Byte := u8 (values.idxOf a)

def optField {α : Type} (field : α → List Byte) : Option α → List Byte
  | none => u8 0
  | some a => u8 1 ++ field a

def chars (cs : List Byte) : List Byte := u8 cs.length ++ cs

/-- A list behind its count. -/
def counted {α : Type} (item : α → List Byte) (xs : List α) : List Byte := u8 xs.length ++ xs.flatMap item

/-! ### Named values -/

def bankCode (b : BankId) : List Byte := named [.a, .b] b
def runCode (r : RunState) : List Byte := named [.stopped, .running, .stopping] r
def passCode (p : PassState) : List Byte :=
  named [.idle, .preparing, .loading, .walking, .paused, .returning, .finishing, .halted] p
def kindByte (k : FaultKind) : List Byte := u8 k.index
def severityCode (v : Severity) : List Byte := named [.corrected, .degraded, .fatal] v
def outcomeCode (o : JobOutcome) : List Byte :=
  named [.done, .doneDegraded, .cancelled, .overtime, .failed, .slotEmpty, .noBank] o
def statusCode (t : TileStatus) : List Byte := named [.captured, .skipped, .guarded, .notCaptured] t
def healthCode (h : Health) : List Byte := named [.ready, .failed] h
def walkCode (w : Walk) : List Byte := named [.raster, .serpentine] w
def retryCode (r : RetryBank) : List Byte := named [.same, .alternate] r
def prefCode (p : BankPref) : List Byte := named [.aOnly, .bOnly, .aFirst, .bFirst] p
def takerCode (t : Taker) : List Byte := named [.ladder, .calibration] t
/-- masked, unmasked (R175). -/
def maskCode (masked : Bool) : List Byte := u8 (if masked then 0 else 1)
/-- lit, dark (R71). -/
def litCode (lit : Bool) : List Byte := u8 (if lit then 0 else 1)
/-- asserted, clear (R71). -/
def inputCode (asserted : Bool) : List Byte := u8 (if asserted then 0 else 1)
/-- set, clear (R20, R133). -/
def unsureCode (unsure : Bool) : List Byte := u8 (if unsure then 0 else 1)
/-- locked, unlocked (R175). -/
def lockCode (locked : Bool) : List Byte := u8 (if locked then 0 else 1)
/-- FREE, FILLING, VALID, MERGING (R84). -/
def slotCode (p : Option SlotState) : List Byte := named [none, some .filling, some .valid, some .merging] p
/-- FREE, FILLING, FULL, CONVERTING (R95). -/
def planeCode (p : Option PlaneState) : List Byte := named [none, some .filling, some .full, some .converting] p
/-- FREE, CONVERTING, READY, SENDING (R150). -/
def bufCode (p : Option BufState) : List Byte := named [none, some .converting, some .ready, some .sending] p

/-- A set of banks, bit 0 for A and bit 1 for B. -/
def bankSetMask (b : BankSet) : List Byte := u8 ((if b.a then 1 else 0) + (if b.b then 2 else 0))

def condMask (c : Conds) : List Byte := u8 c.toNat

def windowField (w : Window) : List Byte := u16 w.x0 ++ u16 w.y0 ++ u16 w.w ++ u16 w.h

def pairField (f g : Nat → List Byte) (p : Nat × Nat) : List Byte := f p.1 ++ g p.2

/-- Two fields present under one condition, each behind its own presence byte (log 24). -/
def optPair {α β : Type} (f : α → List Byte) (g : β → List Byte) (p : Option (α × β)) : List Byte :=
  optField f (p.map (·.1)) ++ optField g (p.map (·.2))

/-! ### Records -/

/-- The presence byte of an optional field that stands: 1 as given, and in READ-QUEUE's reply alone 2 when it was defaulted
(R200). -/
def presence (queue defaulted : Bool) (field : List Byte) : List Byte := u8 (if queue && defaulted then 2 else 1) ++ field

/-- A job record's fields in index order; `queue` for the form READ-QUEUE returns it in (R1, R200). -/
def jobRecordField (queue : Bool) (r : JobRecord) : List Byte :=
  chars r.plateId ++ u8 r.slot ++ u8 r.formatClass ++ u8 r.rows ++ u8 r.cols ++ u32 r.originX ++ u32 r.originY
    ++ u32 r.stepX ++ u32 r.stepY ++ u32 r.fieldX ++ u32 r.fieldY ++ walkCode r.walk ++ u8 r.firstRung ++ u8 r.lastRung
    ++ u8 r.maxExtensions ++ u16 r.underLimit ++ u16 r.overLimit ++ u8 r.retryCount ++ retryCode r.retryBank1
    ++ retryCode r.retryBank2 ++ prefCode r.bankPref ++ optField u16 r.budgetS
    ++ presence queue r.attentionDefaulted (condMask r.attention) ++ yn r.stopOnAttention ++ yn r.notifyQuiet
    ++ presence queue r.windowDefaulted (windowField r.window) ++ yn r.useZones

def countsField (c : RecordCounts) : List Byte :=
  u16 c.captured ++ u16 c.skipped ++ u16 c.guarded ++ u16 c.notCaptured ++ u16 c.attention

/-- A history entry, and PLATE-DONE's body (R16). -/
def entryField (e : HistoryEntry) : List Byte :=
  u16 e.number ++ chars e.plateId ++ u8 e.slot ++ outcomeCode e.outcome ++ countsField e.counts ++ bankSetMask e.banksUsed
    ++ yn e.stale ++ optField u32 e.started ++ u32 e.ended ++ optField kindByte e.firstFault

def queueRowField (r : QueueRow) : List Byte :=
  u16 r.number ++ named [false, true] r.active ++ chars r.plateId ++ u8 r.slot ++ u8 r.rows ++ u8 r.cols ++ u32 r.accepted
    ++ optField u32 r.started

def tileField (t : Tile) : List Byte :=
  u8 t.row ++ u8 t.col ++ u8 t.ordinal ++ named [.deciding, .moving, .waitPlane, .ladder] t.phase

/-- READ-PASS's content: the fields of R20 in its table's order, the budget with its remaining milliseconds; then what R21 adds, in
its order; and last the top rung of the bank in use, which R51 returns without a place of its own (log 24). -/
def passField (v : PassView) : List Byte :=
  passCode v.state ++ optField (fun j : Nat × JobRecord => u16 j.1 ++ jobRecordField false j.2) v.job
    ++ named [.notLoaded, .onTable, .returned, .left] v.plate ++ yn v.loadIssued ++ optField bankCode (v.bank.map (·.bank))
    ++ bankSetMask v.banksUsed ++ u16 v.walkPos ++ optField tileField v.tile ++ u16 v.handedOver
    ++ named [.absent, .waiting, .running, .suspended, .stopped, .expired] v.budget ++ u32 v.remaining
    ++ yn v.pausePending ++ yn v.cancelPending ++ optField (named [ResumePoint.nextTile, .return]) v.resumePoint
    ++ optField (named [Mark.cancelled, .overtime, .failed, .slotEmpty, .noBank]) v.mark ++ unsureCode v.unsure
    ++ optField (named [PlaneId.p1, .p2]) (v.tile.bind (·.plane)) ++ optField u8 v.rung ++ u16 v.records
    ++ optPair u8 u8 (v.bank.map fun b => (b.first, b.last)) ++ optField u8 (v.bank.map (·.top))

def failureField (f : LastFailure) : List Byte := u32 f.tag ++ litCode f.lit

def purposeCode (p : Purpose) : List Byte := named [.rung, .calibration] p

def readingField (r : LastReading) : List Byte :=
  u32 r.exposure ++ purposeCode r.purpose ++ u32 r.samples ++ u16 r.mean ++ optField u16 r.mref
    ++ named [.held, .drift, .notJudged] r.verdict

/-- A bank of READ-LAMPS but for its Mref, which R81 names last. -/
def bankViewField (v : BankView) : List Byte :=
  healthCode v.bank.health ++ litCode v.bank.lit ++ u16 v.level ++ inputCode v.bank.faultInput ++ u8 v.bank.failures
    ++ optField failureField v.bank.lastFailure ++ optField readingField v.bank.lastReading

/-- The exposure record as READ-LAMPS returns it, with the samples so far and their mean (R81). -/
def exposureField (x : Exposure) : List Byte :=
  bankCode x.bank ++ purposeCode x.purpose ++ u32 x.exposure ++ u32 x.startTag ++ u8 x.driftTol ++ u32 x.count ++ u16 x.mean

/-- A slot (R100): its state always; each field that it adds under a condition behind a presence byte of its own, R100 not saying
how such fields are marked (log 24). -/
def slotViewField (v : Option SlotView) : List Byte :=
  let filling := v.bind (·.filling)
  slotCode (v.map (·.state)) ++ optField takerCode (v.map (·.taker)) ++ optPair u8 u8 (v.bind (·.rung))
    ++ optField yn (filling.map (·.1)) ++ optPair (named [Reception.notStarted, .receiving, .ended]) u16 (filling.map (·.2))
    ++ optPair u16 u32 (v.bind (·.figures))

/-- A tile as a plane's owner or a conversion's tile names it (R95, R101): one field. -/
def ownerField (number : Nat) (plateId : List Byte) (row col ordinal : Nat) : List Byte :=
  u16 number ++ chars plateId ++ u8 row ++ u8 col ++ u8 ordinal

def classCountsField (c : ClassCounts) : List Byte := u32 c.nNone ++ u32 c.nClipped ++ u32 c.nUnder ++ u32 c.nValid

/-- A plane (R100), by the same form as a slot (log 24). -/
def planeViewField (v : Option PlaneView) : List Byte :=
  planeCode (v.map (·.state)) ++ optField (fun p : PlaneView => ownerField p.number p.plateId p.row p.col p.ordinal) v
    ++ optField windowField (v.map (·.window)) ++ optField u16 (v.map (·.c)) ++ optField u8 (v.map (·.l))
    ++ optField classCountsField (v.map (·.counts)) ++ optField u8 (v.map (·.merges)) ++ optField u32 (v.bind (·.stamp))

def lastFrameField (f : LastFrame) : List Byte :=
  takerCode f.taker ++ optPair u8 u8 f.rung ++ u16 f.lines ++ optPair u16 u32 f.figures
    ++ named [.valid, .frameShort, .frameTimeout, .discarded] f.verdict ++ u32 f.tag

/-- The converter (R116): its state always, IDLE or CONVERTING; each field that it adds behind a presence byte of its own, the
minimum and the maximum with one each, R116 and R200 not saying how such fields are marked (log 24). -/
def convViewField (v : Option ConvView) : List Byte :=
  named [false, true] v.isSome ++ optField (named [PlaneId.p1, .p2]) (v.map (·.plane))
    ++ optField (named [BufId.t1, .t2, .t3, .t4]) (v.map (·.buffer))
    ++ optField (fun c : ConvView => ownerField c.number c.plateId c.row c.col c.ordinal) v
    ++ optField bankCode (v.map (·.bank)) ++ optField windowField (v.map (·.window)) ++ optField u8 (v.map (·.l))
    ++ optField u16 (v.map (·.rowsDone)) ++ optField u32 (v.map (·.nNormal)) ++ optField u32 (v.map (·.nOver))
    ++ optField u32 (v.map (·.nUnder)) ++ optField u32 (v.map (·.nDefect)) ++ optPair u16 u16 (v.bind (·.range))

def flatRecordField (r : FlatRecord) : List Byte :=
  bankCode r.bank ++ u32 r.eFlat ++ u8 r.top ++ u8 r.frames ++ u8 r.retakes ++ u16 r.bf ++ u16 r.mref ++ u16 r.driveLevel
    ++ u16 r.clipLevel ++ u8 r.floor ++ u32 r.clipMarked ++ u32 r.dark ++ u32 r.tag ++ u16 r.age

/-- A flat (R131): its validity first and once, though R119 lists it among the record's fields as well (log 58). -/
def flatViewField (v : FlatView) : List Byte :=
  named [.valid, .invalid] v.validity ++ optField flatRecordField v.record ++ yn v.staleNow

def failureCode (f : CalFailure) : List Byte :=
  named [.motion, .platePresent, .bankFault, .frames, .halted, .clipped, .dark] f

def calViewField (v : CalView) : List Byte :=
  named [.homing, .positioning, .capturing, .closing] v.phase ++ bankCode v.bank ++ u32 v.eFlat ++ u8 v.n ++ u16 v.clipLevel
    ++ u8 v.floor ++ u32 v.calX ++ u32 v.calY ++ u16 v.driveLevel ++ u8 v.frameIndex ++ u8 v.attempt ++ u8 v.retakes
    ++ u8 v.takenIn ++ optField failureCode v.failure

def requesterCode (r : Requester) : List Byte := named [.pass, .calibration, .homeRequest] r

/-- The arguments of an order as a reply sends them, each in the bytes of its range: a MOVE's x and y in µm, the slot 1..24 of a LOAD or
RETURN, and none for HOME, which carries none (R134, R200). -/
def orderArgs (o : Order) : List Byte :=
  match o.kind with
  | .move => u32 o.arg1 ++ u32 o.arg2
  | .load | .ret => u8 o.arg1
  | .home => []

/-- An outstanding order (R133, R145). -/
def orderField (o : Order) : List Byte :=
  named [.move, .home, .load, .ret] o.kind ++ u8 o.number ++ orderArgs o ++ requesterCode o.requester
    ++ u8 o.limit ++ u32 o.issuedAt ++ yn o.retried

def stopField (t : StopOrder) : List Byte := u8 t.number ++ u8 t.limit ++ u32 t.issuedAt ++ yn t.reissue

def reportField (r : LastReport) : List Byte :=
  named [.done, .empty, .halted, .stopped] r.kind ++ u8 r.number ++ u32 r.tag ++ yn r.matched

/-- READ-MOTION's content: the fields of R133 in its table's order, the plate-present level, and the milliseconds left of an
outstanding order (R145). R145 adds, for an outstanding STOP, whether a reissue is pending, which the STOP's record of R133 holds already:
the model sends it once, inside that record, and not again after the milliseconds left (log 65). -/
def motionField (v : MotionView) : List Byte :=
  u8 v.nextNumber ++ optField orderField (v.order.map (·.1)) ++ optField stopField v.stop ++ unsureCode v.unsure
    ++ optField (pairField u32 u32) v.position ++ named [.none, .present] v.expect ++ u16 v.discarded
    ++ optField reportField v.last ++ yn v.homeRequest ++ yn v.platePresent ++ optField u32 (v.order.map (·.2))

def zoneField (z : Zone) : List Byte :=
  yn z.enabled ++ named [.skip, .guard] z.kind ++ u32 z.x0 ++ u32 z.y0 ++ u32 z.x1 ++ u32 z.y1 ++ u8 z.classes.toNat
    ++ u16 z.hits

def rungEntryField (e : RungEntry) : List Byte :=
  u8 e.rung ++ named [.merged, .lost] e.outcome ++ u8 e.attempts ++ u32 e.started

/-- The ladder's fields of a tile record, each absent field marked absent (R154). -/
def ladderField (l : Option RecordLadder) : List Byte :=
  optField bankCode (l.map (·.bank)) ++ optField u8 (l.map (·.effFirst)) ++ optField u8 (l.map (·.effLast))
    ++ optField (counted rungEntryField) (l.map (·.rungList)) ++ optField u8 (l.map (·.restarts))
    ++ optField u8 (l.map (·.extensions)) ++ optField yn (l.map (·.cut))

/-- The conversion's fields of a tile record, each absent field marked absent (R154). -/
def recordConvField (c : Option RecordConv) : List Byte :=
  let stats := c.bind (·.stats)
  optField u32 (c.map (·.nNormal)) ++ optField u32 (c.map (·.nOver)) ++ optField u32 (c.map (·.nUnder))
    ++ optField u32 (c.map (·.nDefect)) ++ optField u16 (stats.map (·.1)) ++ optPair u16 u16 (stats.map (·.2))
    ++ optField u16 (c.map (·.w)) ++ optField u16 (c.map (·.h))

/-- A tile record, with every absent field marked absent: the fields of R154 in its table's order, and last the top rung of its bank, which
R51 has the record carry and for which R154 has no place (log 63). -/
def tileRecordField (r : TileRecord) : List Byte :=
  u32 r.sequence ++ u16 r.number ++ chars r.plateId ++ u8 r.row ++ u8 r.col ++ u8 r.ordinal ++ statusCode r.status
    ++ yn r.attention ++ optField condMask r.conds ++ ladderField r.ladder ++ recordConvField r.conv
    ++ u32 r.started ++ u32 r.ended ++ optField u8 (r.ladder.map (·.top))

def labelField (l : BufLabel) : List Byte :=
  u16 l.number ++ u32 l.sequence ++ u8 l.row ++ u8 l.col ++ u16 l.w ++ u16 l.h

/-- A tile buffer (R161), by the same form as a slot (log 24). -/
def bufViewField (v : Option BufView) : List Byte :=
  bufCode (v.map (·.state)) ++ optField labelField (v.bind (·.label)) ++ optField u32 (v.bind (·.stamp))
    ++ optField u16 (v.bind (·.rowsTaken))

def markCode (m : CountMark) : List Byte := named [.armed, .fired] m

def counterField (c : Counter) : List Byte := u32 c.value ++ markCode c.half ++ markCode c.full

def ctxField (c : Context) : List Byte :=
  optField (fun j : Nat × List Byte => u16 j.1 ++ chars j.2) c.fields.job ++ optField (pairField u8 u8) c.fields.tile
    ++ optPair u8 u8 c.fields.rung ++ optField bankCode c.fields.bank ++ u32 c.tag ++ yn c.injected

def correctedField (f : FaultSlot) : List Byte := kindByte f.kind ++ ctxField f.ctx ++ yn f.more
def seriousField (f : FaultSlot) : List Byte := correctedField f ++ yn f.firstFatal

def kindStateField (k : KindState) : List Byte := yn k.seen ++ u8 k.count ++ maskCode k.masked ++ severityCode k.severity

def effectCode (e : SlotEffect) : List Byte := named [.filled, .more, .none] e

def linkCode (l : LinkState) : List Byte := named [.detached, .attached, .configured] l

def causeCode (c : ResetCause) : List Byte := named [.powerOn, .soft] c

/-- A parameter's value: its form byte, then the value (R200). -/
def valueField : ParamValue → List Byte
  | .number n => u8 0 ++ u32 n
  | .onOff on => u8 1 ++ yn on
  | .flags mask => u8 2 ++ u8 16 ++ u16 mask.toNat

/-- A list of clamps: each entry is its index and the value taken, in the bytes that the field's own range takes in the request's
body (R200). `size` is the field's size by its index. -/
def clampsField (size : Nat → Nat) (cs : List (Nat × Nat)) : List Byte := counted (fun c => u8 c.1 ++ leBytes (size c.1) c.2) cs

/-- The size of the job record's index `i`, 2 to 21. -/
def jobFieldSize (i : Nat) : Nat := jobSizes.getD (i - 2) 0

/-- The size of CALIBRATE's index `i`. -/
def calFieldSize (i : Nat) : Nat := calSizes.getD (i - 1) 0

/-- The vendor name and the part name, as character codes (R196). -/
def vendorName : List Byte := "Kelunor".toList.map fun c => BitVec.ofNat 8 c.toNat
def partName : List Byte := "Halkyra GC-816".toList.map fun c => BitVec.ofNat 8 c.toNat

/-! ### Replies -/

/-- A reply's content, field by field in the order its rule names. An ENQUEUE-PLATE or CALIBRATE that was not clamped sends no
list of clamps. That ENQUEUE-PLATE's reply names the job as QUEUED adds no byte: a reply that carries a job number is that of a
QUEUED job (R9; log 59). READ-TILE-RECORD's record stands in every OK reply and in no refusal, and so has no presence byte
(R160). -/
def contentBytes : Content → List Byte
  | .empty => []
  | .enqueued n position tiles clamps =>
    u16 n ++ u8 position ++ u16 tiles ++ (if clamps = [] then [] else clampsField jobFieldSize clamps)
  | .passState p => passCode p
  | .pause p pending => passCode p ++ yn pending
  | .cleared p ended => passCode p ++ optField u16 ended
  | .runState r => runCode r
  | .queue run next jobs => runCode run ++ u16 next ++ counted queueRowField jobs
  | .job _ r active position => jobRecordField true r ++ named [false, true] active ++ u8 position
  | .history es => counted entryField es
  | .historyEntry e => entryField e
  | .pass v => passField v
  | .lamp h f => healthCode h ++ inputCode f
  | .lamps a b x =>
    bankViewField a ++ bankViewField b ++ optField exposureField x ++ optField u16 a.mref ++ optField u16 b.mref
  | .intake s1 s2 p1 p2 d f =>
    slotViewField s1 ++ slotViewField s2 ++ planeViewField p1 ++ planeViewField p2
      ++ u16 d ++ optField lastFrameField f
  | .converter c ws free => convViewField c ++ counted u32 ws ++ u8 free
  | .calibrating cs b e n top homeFirst =>
    (if cs = [] then [] else clampsField calFieldSize cs) ++ bankCode b ++ u32 e ++ u8 n ++ u8 top ++ yn homeFirst
  | .calibration a b st c => flatViewField a ++ flatViewField b ++ bankSetMask st ++ optField calViewField c
  | .homing u => unsureCode u
  | .motion v => motionField v
  | .zones es => es.flatMap fun e : Nat × Option Zone => optField zoneField e.2
  | .tileRecord r newest mark unread =>
    (match r with
      | some r => tileRecordField r
      | none => []) ++ u32 newest ++ u32 mark ++ u16 unread
  | .logState held newest mark unread oldest t1 t2 t3 t4 link =>
    u16 held ++ u32 newest ++ u32 mark ++ u16 unread ++ optField u32 oldest ++ bufViewField t1
      ++ bufViewField t2 ++ bufViewField t3 ++ bufViewField t4 ++ linkCode link
  | .histogram st job tiles bins ov un df total =>
    named [.none, .opened, .frozen] st ++ optField (fun j : Nat × List Byte => u16 j.1 ++ chars j.2) job ++ u16 tiles
      ++ bins.flatMap u32 ++ u32 ov ++ u32 un ++ u32 df ++ u32 total
  | .counters cs cleared tag => cs.flatMap counterField ++ u32 cleared ++ u32 tag
  | .faultControl rows =>
    rows.flatMap fun r : FaultKind × Bool × Severity => maskCode r.2.1 ++ severityCode r.2.2
  | .faultCleared rows c sr =>
    (rows.flatMap fun r : FaultKind × Bool × Nat × Bool => yn r.2.1 ++ u8 r.2.2.1 ++ maskCode r.2.2.2)
      ++ optField correctedField c ++ optField seriousField sr
  | .injected seen count cls effect => yn seen ++ u8 count ++ severityCode cls ++ effectCode effect
  | .lock locked => lockCode locked
  | .faults ks c sr n1 n2 n3 locked mark job =>
    ks.flatMap kindStateField ++ optField correctedField c ++ optField seriousField sr ++ yn n1 ++ yn n2 ++ yn n3
      ++ lockCode locked ++ optField kindByte mark ++ optField u16 job
  | .param _ v => valueField v
  | .params vs => vs.flatMap fun v => valueField v.2
  | .time count res wraps => u32 count ++ u8 res ++ u16 wraps
  | .identity rev cause caps => chars vendorName ++ chars partName ++ [rev] ++ causeCode cause ++ caps.flatMap u16
  | .reset cause => causeCode cause

/-- A reason's code and its extra content (12.9). -/
def reasonBytes : Reason → Nat × List Byte
  | .badFormat => (1, [])
  | .unknownKind => (2, [])
  | .badField => (3, [])
  | .queueFull => (4, [])
  | .slotTaken j => (5, u16 j)
  | .outOfTravel c => (6, u32 c)
  | .notFound => (7, [])
  | .busy => (8, [])
  | .halted => (9, [])
  | .notActive => (10, [])
  | .late => (11, [])
  | .notHalted => (12, [])
  | .locked => (13, [])
  | .platePresent => (14, [])
  | .bankFailed => (15, [])
  | .faultAsserted => (16, [])

/-- A reply body: status; for REFUSED the reason, the field index and the reason's extra content; then the content. -/
def replyBody : ReplyBody → List Byte
  | .ok c => u8 0 ++ contentBytes c
  | .adjusted c => u8 1 ++ contentBytes c
  | .refused r i c => u8 2 ++ u8 (reasonBytes r).1 ++ u8 i ++ (reasonBytes r).2 ++ contentBytes c

/-- A frame: the 6-byte header, then the body (R200). -/
def frame (kind : Nat) (tag : Byte) (flags : Nat) (body : List Byte) : List Byte :=
  u16 kind ++ [tag] ++ u8 flags ++ u16 body.length ++ body

/-- A reply's frame; its kind code goes into the two bytes the header has for it (log 26). -/
def replyFrame (r : Reply) : List Byte := frame r.kind r.tag 0 (replyBody r.body)

/-! ### Notices -/

def calDoneField (d : CalDone) : List Byte :=
  u8 0 ++ bankCode d.bank ++ u32 d.eFlat ++ u8 d.n
    ++ named [none, some CalFailure.motion, some .platePresent, some .bankFault, some .frames, some .halted, some .clipped, some .dark]
        d.failure
    ++ u8 d.takenIn ++ u8 d.retakes ++ optField u8 d.frameIndex ++ optPair u32 u32 d.judged
    ++ optField u16 (d.made.map (·.1)) ++ optPair u16 u8 (d.made.map (·.2)) ++ u32 d.tag

/-- A notice's kind code and body (9.8, 12.9). -/
def noticeBytes : Notice → Nat × List Byte
  | .plateStart job plateId slot tiles walk bank top first last stale budgetS tag =>
    (16385, u16 job ++ chars plateId ++ u8 slot ++ u16 tiles ++ walkCode walk ++ bankCode bank ++ u8 top ++ u8 first
      ++ u8 last ++ yn stale ++ optField u16 budgetS ++ u32 tag)
  | .plateDone e => (16386, entryField e)
  | .halted k injected entered job tile tag =>
    (16387, kindByte k ++ yn injected ++ passCode entered ++ optField u16 job ++ optField (pairField u8 u8) tile ++ u32 tag)
  | .tileDone seq job row col ordinal status attention conds ended =>
    (16388, u32 seq ++ u16 job ++ u8 row ++ u8 col ++ u8 ordinal ++ statusCode status ++ yn attention
      ++ optField condMask conds ++ u32 ended)
  | .logHalf newest mark unread => (16389, u8 0 ++ u32 newest ++ u32 mark ++ u16 unread)
  | .logWrap lost newest mark => (16389, u8 1 ++ u32 lost ++ u32 newest ++ u32 mark)
  | .calDone d => (16390, calDoneField d)
  | .homeDone result kind unsure tag =>
    (16390, u8 1 ++ named [.success, .motion, .halted] result ++ optField kindByte kind ++ unsureCode unsure ++ u32 tag)
  | .counter id full value tag =>
    (16391, u8 (id.index + 1) ++ u8 id.index ++ named [false, true] full ++ u32 value ++ u32 tag)
  | .fault k cls count ctx effect =>
    (16392, kindByte k ++ severityCode cls ++ u8 count ++ ctxField ctx ++ effectCode effect)
  | .timeWrap wraps res => (16393, u16 wraps ++ u8 res)

/-- A notice's frame: tag 0, and flags bit 0 for "notices were dropped" (R162, R200). -/
def noticeFrame (n : QueuedNotice) : List Byte :=
  frame (noticeBytes n.notice).1 0#8 (if n.dropped then 1 else 0) (noticeBytes n.notice).2

/-! ### Image frames (R152, R200; log 44) -/

def PixClass.code : PixClass → Nat
  | .normal => 0
  | .overexp => 1
  | .underexp => 2
  | .defect => 3

/-- The row word: the code in bits 0..11, the class in bits 12..13. -/
def rowWord (p : PixOut) : Nat := p.code % 4096 + 4096 * p.cls.code

/-- The frame a SENDING buffer offers now: TILE-HEADER, then its ROW frames, then TILE-END (R152). -/
def Buf.offered (b : Buf) : Option (List Byte) :=
  match b.state, b.label with
  | .sending, some l =>
    some (if !b.headerTaken then frame 8193 0#8 0 (labelField l)
      else if b.rowsTaken < b.rows.length then
        frame 8194 0#8 0 ((b.rows.getD b.rowsTaken []).flatMap fun p => u16 (rowWord p))
      else frame 8195 0#8 0 (u16 b.rowsTaken))
  | _, _ => none

/-- The image frame offered on the image pipe. -/
def State.imageFrame (s : State) : Option (List Byte) := (s.sendingBuf.bind s.buf).bind Buf.offered

end Sys2Proof.Machine
end

