-- ==== Sys2Proof/Machine/Link.lean ====
section
/-! DEFINITION. The request link: its states (R188), the request intake (R190), unrecognised requests (R189), the answer pipe (R163), and the
three resets (R197, R198, R199). -/

namespace Sys2Proof.Machine

open Sys2Proof

/-! ### Power-on (R197) -/

/-- Every block takes its power-on values; the input levels are what they are (log 5, log 6). -/
def powerOnState (s : State) : State :=
  { State.reset with
    lamps := { State.reset.lamps with a := resetBank s.lamps.a.faultInput, b := resetBank s.lamps.b.faultInput },
    platePresent := s.platePresent, drawn := s.drawn, pending := s.pending }

/-- POWER_ON; a fault input found asserted is then taken as a driver fault (R82, R197). -/
def execPowerOn (s : State) : Host.Outcome State Fault Refusal := .next (assertedFaults (powerOnState s))

/-! ### Soft reset (R198) -/

/-- A frame that has begun on the answer pipe is sent to its end; its queue is emptied (R198, step 2). -/
def orphanPipe (p : Option (Sending × List Byte)) : Option (Sending × List Byte) := p.map fun f => (.orphan, f.2)

/-- What the pixel link still sends of a frame in reception is discarded without being counted (R84). -/
def resetRx : LinkRx → LinkRx
  | .idle => .idle
  | .receiving _ | .discarding | .released => .discarding

/-- The motion port after a soft reset: STOP is sent, then every field takes its value; the next number is kept (R133). -/
def resetMotionPort (m : Motion) : Motion :=
  { resetMotion with nextNumber := m.nextNumber, stop := m.stop, sent := m.sent }

/-- Steps 1 to 3 of R198. The flats and their ages, the injection lock, the link state, the exposure line, the input levels and
the internal time stand; every other piece takes its soft-reset value. A fault raised and not yet taken stands too, to be recorded
into the cleared state (R187); an escalation made before the reset is dropped, since the pass returns to IDLE (R48, R187;
log 8). -/
def softReset (s : State) : State :=
  let s := sendStop s
  { s with
    queue := resetQueue, pass := resetPass, ladder := none,
    lamps := { a := resetBank s.lamps.a.faultInput, b := resetBank s.lamps.b.faultInput, exposure := none, line := s.lamps.line },
    intake := resetIntake (resetRx s.intake.rx), merge := resetMerge, conv := none,
    cal := { resetCal with flatA := s.cal.flatA, flatB := s.cal.flatB },
    motion := resetMotionPort s.motion, zones := resetZones, out := resetOutput, stats := resetStats,
    faults := { resetFaults s.faults.locked with raised := s.faults.raised }, params := defaultParams, time := resetTime,
    link := { state := s.link.state, intake := [], replies := [], notices := [], dropped := false,
              pipe := orphanPipe s.link.pipe, cause := .soft } }

/-- A RESET is taken as it arrives: the reset, its reply, and what follows it (R198). -/
def takeReset (tag : Byte) (s : State) : State :=
  assertedFaults (queueReply 36 tag (.ok (.reset .soft)) (softReset s))

/-- A transfer can arrive: the link is CONFIGURED and the intake has room (R188, R190). -/
def State.mayArrive (s : State) : Bool :=
  decide (s.link.state = .configured ∧ s.link.intake.length < Config.intakeCap)

/-- RESET: a transfer of 6 bytes with RESET's kind code, a tag and a flags byte that is not read (R189, R198). -/
def execReset (tag _flags : Byte) (s : State) : Host.Outcome State Fault Refusal :=
  if s.mayArrive then .next (takeReset tag s) else .next s

/-! ### Link reset (R199) and the link state (R188) -/

def LinkLoss.leaves : LinkLoss → LinkState
  | .busReset | .deconfigured => .attached
  | .detach => .detached

/-- LINK_RESET: intake and queues emptied, the frame being sent lost, the mark set, a SENDING buffer READY again. -/
def execLinkReset (cause : LinkLoss) (s : State) : Host.Outcome State Fault Refusal :=
  let s := unsendBuffers s
  .next { s with link := { s.link with state := LinkLoss.leaves cause, intake := [], replies := [], notices := [],
                                       dropped := true, pipe := none } }

/-- ATTACH: the port senses the host's bus (R188). -/
def execAttach (s : State) : Host.Outcome State Fault Refusal :=
  match s.link.state with
  | .detached => .next { s with link.state := .attached }
  | .attached | .configured => .next s

/-- CONFIGURE: the host selects the part's configuration, and the pipes are open (R188). -/
def execConfigure (s : State) : Host.Outcome State Fault Refusal :=
  match s.link.state with
  | .attached => .next { s with link.state := .configured }
  | .detached | .configured => .next s

/-! ### The request pipe -/

/-- REQUEST_TRANSFER_ARRIVES: the transfer joins the intake whole, or is held off at the bus; a RESET is taken at once
(R190, R198). -/
def execRequestTransferArrives (transfer : List Byte) (s : State) : Host.Outcome State Fault Refusal :=
  if s.mayArrive then
    if isReset transfer then .next (takeReset (tagOf transfer) s)
    else .next { s with link.intake := s.link.intake ++ [transfer] }
  else .next s

/-- How a transfer of no row's own kind is answered (R189): its kind code, its tag, its refusal. A RESET that was not taken as
it arrived has a body (log 4). -/
def unrecognised (t : List Byte) : Option (Nat × Byte × Reason) :=
  if formatOk t = false then
    some (if t.length < 2 then 0 else kindCode t, if t.length < 3 then 0#8 else tagOf t, .badFormat)
  else if kindCode t = 0 ∨ 36 < kindCode t then some (kindCode t, tagOf t, .unknownKind)
  else if kindCode t = 36 then some (36, tagOf t, .badField)
  else none

/-- UNRECOGNISED_REQUEST: the transfer at the head of the intake fails the format or the kind check (R189, R190). -/
def execUnrecognisedRequest (s : State) : Host.Outcome State Fault Refusal :=
  match s.link.intake with
  | [] => .next s
  | t :: rest =>
    if s.link.replies.length < Config.replyCap then
      match unrecognised t with
      | some (code, tag, reason) => .next (queueReply code tag (refuse reason 0) { s with link.intake := rest })
      | none => .next s
    else .next s

/-! ### The answer pipe (R163) -/

/-- The frame the sender chooses: the oldest reply, else the oldest notice. -/
def State.nextAnswer (s : State) : Option (Sending × List Byte) :=
  match s.link.replies, s.link.notices with
  | r :: _, _ => some (.reply, replyFrame r)
  | [], n :: _ => some (.notice, noticeFrame n)
  | [], [] => none

/-- ANSWER_SENDER_CHOOSE: with the pipe free and the link CONFIGURED, the next frame begins to be sent. -/
def execAnswerSenderChoose (s : State) : Host.Outcome State Fault Refusal :=
  if s.link.state = .configured ∧ s.link.pipe = none then .next { s with link.pipe := s.nextAnswer } else .next s

/-- ANSWER_FRAME_TAKEN: the host has taken the frame; it leaves its queue, and the pipe is free. -/
def execAnswerFrameTaken (s : State) : Host.Outcome State Fault Refusal :=
  match s.link.state, s.link.pipe with
  | .configured, some (.reply, _) => .next { s with link.pipe := none, link.replies := s.link.replies.drop 1 }
  | .configured, some (.notice, _) => .next { s with link.pipe := none, link.notices := s.link.notices.drop 1 }
  | .configured, some (.orphan, _) => .next { s with link.pipe := none }
  | _, _ => .next s

end Sys2Proof.Machine
end

