-- ==== Sys2Proof/Machine/Dispatch.lean ====
section
/-! DEFINITION. The dispatch of the commands: one arm for each row of spec/opcode_table.json. -/

namespace Sys2Proof.Machine

open Sys2Proof

def exec (i : Instr) (s : State) : Host.Outcome State Fault Refusal :=
  match i with
  | .powerOn => Sys2Proof.Machine.execPowerOn s
  | .reset tag flags => Sys2Proof.Machine.execReset tag flags s
  | .linkReset cause => Sys2Proof.Machine.execLinkReset cause s
  | .attach => Sys2Proof.Machine.execAttach s
  | .configure => Sys2Proof.Machine.execConfigure s
  | .requestTransferArrives transfer => Sys2Proof.Machine.execRequestTransferArrives transfer s
  | .unrecognisedRequest => Sys2Proof.Machine.execUnrecognisedRequest s
  | .enqueuePlate => Sys2Proof.Machine.execEnqueuePlate s
  | .cancelPlate => Sys2Proof.Machine.execCancelPlate s
  | .readQueue => Sys2Proof.Machine.execReadQueue s
  | .readHistory => Sys2Proof.Machine.execReadHistory s
  | .startQueue => Sys2Proof.Machine.execStartQueue s
  | .stopQueue => Sys2Proof.Machine.execStopQueue s
  | .pause => Sys2Proof.Machine.execPause s
  | .resume => Sys2Proof.Machine.execResume s
  | .clearHalt => Sys2Proof.Machine.execClearHalt s
  | .readPass => Sys2Proof.Machine.execReadPass s
  | .lampReset => Sys2Proof.Machine.execLampReset s
  | .readLamps => Sys2Proof.Machine.execReadLamps s
  | .readIntake => Sys2Proof.Machine.execReadIntake s
  | .readConverter => Sys2Proof.Machine.execReadConverter s
  | .calibrate => Sys2Proof.Machine.execCalibrate s
  | .readCalibration => Sys2Proof.Machine.execReadCalibration s
  | .home => Sys2Proof.Machine.execHome s
  | .readMotion => Sys2Proof.Machine.execReadMotion s
  | .setZone => Sys2Proof.Machine.execSetZone s
  | .clearZone => Sys2Proof.Machine.execClearZone s
  | .readZones => Sys2Proof.Machine.execReadZones s
  | .readTileRecord => Sys2Proof.Machine.execReadTileRecord s
  | .readLogState => Sys2Proof.Machine.execReadLogState s
  | .readHistogram => Sys2Proof.Machine.execReadHistogram s
  | .readCounters => Sys2Proof.Machine.execReadCounters s
  | .setFaultControl => Sys2Proof.Machine.execSetFaultControl s
  | .clearFault => Sys2Proof.Machine.execClearFault s
  | .injectFault => Sys2Proof.Machine.execInjectFault s
  | .lockInjection => Sys2Proof.Machine.execLockInjection s
  | .readFaults => Sys2Proof.Machine.execReadFaults s
  | .setParam => Sys2Proof.Machine.execSetParam s
  | .getParam => Sys2Proof.Machine.execGetParam s
  | .setTime => Sys2Proof.Machine.execSetTime s
  | .readTime => Sys2Proof.Machine.execReadTime s
  | .identify => Sys2Proof.Machine.execIdentify s
  | .answerSenderChoose => Sys2Proof.Machine.execAnswerSenderChoose s
  | .answerFrameTaken => Sys2Proof.Machine.execAnswerFrameTaken s
  | .imageSenderTake => Sys2Proof.Machine.execImageSenderTake s
  | .imageFrameTaken => Sys2Proof.Machine.execImageFrameTaken s
  | .jobStart => Sys2Proof.Machine.execJobStart s
  | .motionReport rx => Sys2Proof.Machine.execMotionReport rx s
  | .moveLimitExpiry => Sys2Proof.Machine.execMoveLimitExpiry s
  | .handlerLimitExpiry => Sys2Proof.Machine.execHandlerLimitExpiry s
  | .stopLimitExpiry => Sys2Proof.Machine.execStopLimitExpiry s
  | .orderIssue => Sys2Proof.Machine.execOrderIssue s
  | .platePresentChange present => Sys2Proof.Machine.execPlatePresentChange present s
  | .faultInputAssert bank => Sys2Proof.Machine.execFaultInputAssert bank s
  | .faultInputClear bank => Sys2Proof.Machine.execFaultInputClear bank s
  | .monitorSample reading => Sys2Proof.Machine.execMonitorSample reading s
  | .exposureTimerEnd => Sys2Proof.Machine.execExposureTimerEnd s
  | .frameStart => Sys2Proof.Machine.execFrameStart s
  | .frameLine samples => Sys2Proof.Machine.execFrameLine samples s
  | .frameEnd => Sys2Proof.Machine.execFrameEnd s
  | .frameDeadline => Sys2Proof.Machine.execFrameDeadline s
  | .attemptStart reading => Sys2Proof.Machine.execAttemptStart reading s
  | .planeClaim => Sys2Proof.Machine.execPlaneClaim s
  | .mergeBegin => Sys2Proof.Machine.execMergeBegin s
  | .mergeEnd => Sys2Proof.Machine.execMergeEnd s
  | .converterClaim => Sys2Proof.Machine.execConverterClaim s
  | .conversionEnd => Sys2Proof.Machine.execConversionEnd s
  | .calAttemptStart reading => Sys2Proof.Machine.execCalAttemptStart reading s
  | .takeInBegin => Sys2Proof.Machine.execTakeInBegin s
  | .takeInEnd => Sys2Proof.Machine.execTakeInEnd s
  | .budgetExpiry => Sys2Proof.Machine.execBudgetExpiry s
  | .timeWrap => Sys2Proof.Machine.execTimeWrap s
  | .faultTaken which => Sys2Proof.Machine.execFaultTaken which s
  | .haltEscalation => Sys2Proof.Machine.execHaltEscalation s

end Sys2Proof.Machine
end

