-- ==== Sys2Proof/Safety.lean ====
section
/-! DEFINITION. The terms in which claims are made: a request at the head of the intake and its answer (R189, R190, R200), and the
bounds and exclusions that the rules lay down for every moment. -/

namespace Sys2Proof.Machine

open Sys2Proof

/-! ### Requests and answers -/

/-- The transfer of a request: kind code, tag, flags byte and body length, then the body (12.2, R200). -/
def requestFrame (code : Nat) (tag flags : Byte) (body : List Byte) : List Byte :=
  [BitVec.ofNat 8 code, BitVec.ofNat 8 (code / 256), tag, flags, BitVec.ofNat 8 body.length, BitVec.ofNat 8 (body.length / 256)]
    ++ body

/-- A request of kind code `code` is to be taken: it stands at the head of the intake, before `rest`, it is a frame of at
most 1024 bytes, and the reply queue holds fewer than 4 replies (R189, R190). -/
def AtHead (code : Nat) (tag flags : Byte) (body : List Byte) (rest : List (List Byte)) (s : State) : Prop :=
  s.link.intake = requestFrame code tag flags body :: rest ∧ body.length ≤ 1018 ∧ s.link.replies.length < 4

/-- `s` with its intake left as `rest` and one reply more at the tail of the reply queue (R190, R191). -/
def State.answer (s : State) (rest : List (List Byte)) (code : Nat) (tag : Byte) (reply : ReplyBody) : State :=
  { s with link.intake := rest, link.replies := s.link.replies ++ [⟨code + 32768, tag, reply⟩] }

/-- The link after a notice is posted (R162): with fewer than 32 queued it joins the tail, carrying the dropped-notice mark as its flag,
and the mark is cleared; with 32 queued it is dropped and the mark is set, one already set staying so. -/
def Link.posted (l : Link) (n : Notice) : Link :=
  if l.notices.length < 32 then { l with notices := l.notices ++ [⟨l.dropped, n⟩], dropped := false }
  else { l with dropped := true }

/-- The request rows of the table with their kind codes (12.9); RESET is taken as it arrives and is none of them. -/
def requestCode : Instr → Option Nat
  | .enqueuePlate => some 1
  | .cancelPlate => some 2
  | .readQueue => some 3
  | .readHistory => some 4
  | .startQueue => some 5
  | .stopQueue => some 6
  | .pause => some 7
  | .resume => some 8
  | .clearHalt => some 9
  | .readPass => some 10
  | .lampReset => some 11
  | .readLamps => some 12
  | .readIntake => some 13
  | .readConverter => some 14
  | .calibrate => some 15
  | .readCalibration => some 16
  | .home => some 17
  | .readMotion => some 18
  | .setZone => some 19
  | .clearZone => some 20
  | .readZones => some 21
  | .readTileRecord => some 22
  | .readLogState => some 23
  | .readHistogram => some 24
  | .readCounters => some 25
  | .setFaultControl => some 26
  | .clearFault => some 27
  | .injectFault => some 28
  | .lockInjection => some 29
  | .readFaults => some 30
  | .setParam => some 31
  | .getParam => some 32
  | .setTime => some 33
  | .readTime => some 34
  | .identify => some 35
  | .powerOn | .reset _ _ | .linkReset _ | .attach | .configure | .requestTransferArrives _ | .unrecognisedRequest
  | .answerSenderChoose | .answerFrameTaken | .imageSenderTake | .imageFrameTaken | .jobStart | .motionReport _
  | .moveLimitExpiry | .handlerLimitExpiry | .stopLimitExpiry | .orderIssue | .platePresentChange _
  | .faultInputAssert _ | .faultInputClear _ | .monitorSample _ | .exposureTimerEnd | .frameStart | .frameLine _
  | .frameEnd | .frameDeadline | .attemptStart _ | .planeClaim | .mergeBegin | .mergeEnd | .converterClaim
  | .conversionEnd | .calAttemptStart _ | .takeInBegin | .takeInEnd | .budgetExpiry | .timeWrap | .faultTaken _
  | .haltEscalation => none

/-! ### What holds at every moment -/

/-- At most one bank is lit, a lit bank is the one the exposure record names, and no bank is lit without a record (R72). -/
def LampsOk (s : State) : Prop :=
  match s.lamps.exposure with
  | none => s.lamps.a.lit = false ∧ s.lamps.b.lit = false
  | some x => s.lamps.a.lit = decide (x.bank = .a) ∧ s.lamps.b.lit = decide (x.bank = .b)

/-- The queues of the request link stay within their capacities (R162, R190). -/
def LinkOk (s : State) : Prop :=
  s.link.intake.length ≤ 4 ∧ s.link.replies.length ≤ 4 ∧ s.link.notices.length ≤ 32

/-- The stores of the part hold what the capacities give them: 16 jobs and 8 history entries at the most, 256 tile records at
the most, 8 zone entries, 16 kinds, 16 counters, 41 bins; and the last code of a row being converted is a code (00, R9, R16, R101, R112,
R146, R156, R165, R175). -/
def StoresOk (s : State) : Prop :=
  s.queue.jobs.length ≤ 16 ∧ s.queue.history.length ≤ 8 ∧ s.out.records.length ≤ 256 ∧ s.zones.length = 8
    ∧ s.faults.kinds.length = 16 ∧ s.stats.counters.length = 16 ∧ s.stats.bins.length = 41
    ∧ ∀ c, s.conv = some c → c.figures.bins.length = 41 ∧ ∀ n, c.lastCode = some n → n ≤ 4095

/-- The counts that saturate stay inside their widths: the station counters, the histogram's bins and class counts, the kinds'
counts, the banks' failures, discarded frames and reports, lines received, flats' ages, zones' hits and wraps of the time base (R71,
R84, R119, R133, R146, R165, R175, R194). -/
def SaturatingCountsOk (s : State) : Prop :=
  (∀ c ∈ s.stats.counters, c.value ≤ 4294967295) ∧ (∀ n ∈ s.stats.bins, n ≤ 4294967295)
    ∧ (s.stats.nOver ≤ 4294967295 ∧ s.stats.nUnder ≤ 4294967295 ∧ s.stats.nDefect ≤ 4294967295)
    ∧ (∀ k ∈ s.faults.kinds, k.count ≤ 255) ∧ (∀ b, (s.bank b).failures ≤ 255)
    ∧ s.intake.discarded ≤ 65535 ∧ s.motion.discarded ≤ 65535
    ∧ (∀ i d, s.slot i = some d → d.lines ≤ 65535) ∧ (∀ f, s.intake.last = some f → f.lines ≤ 65535)
    ∧ (∀ b r, s.flatRecord b = some r → r.age ≤ 65535) ∧ (∀ z, some z ∈ s.zones → z.hits ≤ 65535) ∧ s.time.wraps ≤ 65535

/-- The numbers that wrap stay inside their widths: the order number, sequences of tile records, the read mark, stamps of planes and
buffers, and the count of the time base (R96, R133, R150, R156, R194). -/
def WrappingNumbersOk (s : State) : Prop :=
  s.motion.nextNumber < 256 ∧ s.time.count ≤ 4294967295
    ∧ s.out.newest ≤ 4294967295 ∧ s.out.readMark ≤ 4294967295 ∧ (∀ r ∈ s.out.records, r.sequence ≤ 4294967295)
    ∧ s.merge.lastStamp ≤ 4294967295 ∧ (∀ i p n, s.plane i = some p → p.stamp = some n → n ≤ 4294967295)
    ∧ s.out.lastStamp ≤ 4294967295 ∧ (∀ i b n, s.buf i = some b → b.stamp = some n → n ≤ 4294967295)

/-- Every count that saturates and every number that wraps stays inside its width. -/
def CountsOk (s : State) : Prop := SaturatingCountsOk s ∧ WrappingNumbersOk s

/-- Job numbers are 1 to 65,535, no two jobs of the queue share a number, and no two claim one slot (R8, R9). -/
def JobsOk (s : State) : Prop :=
  (1 ≤ s.queue.next ∧ s.queue.next ≤ 65535) ∧ s.queue.jobs.length ≤ 16
    ∧ (∀ j ∈ s.queue.jobs, 1 ≤ j.number ∧ j.number ≤ 65535)
    ∧ (s.queue.jobs.map (·.number)).Nodup ∧ (s.queue.jobs.map (·.record.slot)).Nodup

end Sys2Proof.Machine
end

