-- ==== Sys2Proof/Certificates/Slice0/Obligations.lean ====
section
/-! DEFINITION. The statements for the provers, in the order of the chapters of spec/. Each docstring names the rule it
formalises, and says where a clause is the model's own choice. -/

open Sys2Proof Sys2Proof.Machine

/-! ### The block as a whole -/

/-- A step takes the command at the front of the queue and runs it with the queue's rest. The queue is the model's (log 1). -/
def Obligations.StepRunsFrontCommand : Prop :=
  ∀ (c : Instr) (rest : List Instr) (s : State),
    step { s with pending := c :: rest } = exec c { s with pending := rest }

/-- On an empty queue a step is 1 µs of the part's own clock (the model's choice, log 1): the internal time rises by 1, the count
rises by 1 at each TIME_RES µs that elapse (R194), a RUNNING budget loses 1 ms at each 1000 µs (R36), and with the converter IDLE
and the count below its largest value nothing else changes. With it CONVERTING the conversion goes on besides, rows done never falling nor
reaching the last row, and nothing but its figures, its last code, its buffer and the model's count of draws changes (R103; the number of
pixels of a tick is left free, log 21). -/
def Obligations.IdleStepRunsTheClock : Prop :=
  ∀ s : State, s.pending = [] → s.time.count < 4294967295 →
    ∃ t, step s = .next t ∧ t.now = s.now + 1
      ∧ (s.time.elapsed + 1 < s.params.timeRes → t.time = { s.time with elapsed := s.time.elapsed + 1 })
      ∧ (s.params.timeRes ≤ s.time.elapsed + 1 → t.time = { s.time with count := s.time.count + 1, elapsed := 0 })
      ∧ (s.pass.budget.state ≠ .running → t.pass.budget = s.pass.budget)
      ∧ (s.pass.budget.state = .running → s.pass.budget.subUs < 999 →
          t.pass.budget = { s.pass.budget with subUs := s.pass.budget.subUs + 1 })
      ∧ (s.pass.budget.state = .running → s.pass.budget.subUs = 999 →
          t.pass.budget = { s.pass.budget with remaining := s.pass.budget.remaining - 1, subUs := 0 })
      ∧ (s.conv = none → { t with now := s.now, time := s.time, pass.budget := s.pass.budget } = s)
      ∧ (∀ c : Conversion, s.conv = some c →
          (∃ c' : Conversion, t.conv = some c' ∧ c.rowsDone ≤ c'.rowsDone ∧ (c.rowsDone < c.window.h → c'.rowsDone < c.window.h)
            ∧ { c' with rowsDone := c.rowsDone, figures := c.figures, lastCode := c.lastCode } = c)
          ∧ (∀ i, i ≠ c.buffer → t.buf i = s.buf i)
          ∧ { t with now := s.now, time := s.time, pass.budget := s.pass.budget, conv := s.conv, drawn := s.drawn
                     out.t1 := s.out.t1, out.t2 := s.out.t2, out.t3 := s.out.t3, out.t4 := s.out.t4 } = s)

/-- No command stops the machine: each has a next state in every state (R189 answers a request that is refused; that a command given while
its condition does not hold goes on too is the model's choice, log 2). -/
def Obligations.EveryCommandHasANextState : Prop :=
  ∀ (c : Instr) (s : State), ∃ t, exec c s = .next t

/-- Power-on values, as the chapters give them: the queue STOPPED and empty with next number 1 (R19), the pass IDLE (R20), the lamps
dark and READY (R71, R82), slots, planes and buffers FREE (R84, R95, R150), the flats INVALID (R118, R132), positioner-unsure set
(R133), the zone table empty (R146), the log empty (R156), the histogram NONE and the counters 0 (R174), no fault seen, every kind at its
default severity and the lock open (R175, R187), each of the sixteen parameters at its default (R192), the time base 0 (R194), the link
DETACHED and empty, the cause POWER_ON (R197). The bounds and exclusions that every step keeps hold there. -/
def Obligations.ResetLeavesPowerOnValues : Prop :=
  (State.reset.queue.jobs = [] ∧ State.reset.queue.run = .stopped ∧ State.reset.queue.next = 1 ∧ State.reset.queue.history = [])
    ∧ (State.reset.pass.state = .idle ∧ State.reset.pass.job = none ∧ State.reset.ladder = none)
    ∧ (∀ b, (State.reset.bank b).health = .ready ∧ (State.reset.bank b).lit = false ∧ (State.reset.bank b).failures = 0)
    ∧ State.reset.lamps.exposure = none
    ∧ (∀ i, State.reset.slot i = none) ∧ (∀ i, State.reset.plane i = none) ∧ (∀ i, State.reset.buf i = none)
    ∧ State.reset.conv = none ∧ State.reset.cal.cal = none ∧ (∀ b, (State.reset.flat b).validity = .invalid)
    ∧ (State.reset.motion.unsure = true ∧ State.reset.motion.nextNumber = 0 ∧ State.reset.motion.order = none
        ∧ State.reset.motion.stop = none ∧ State.reset.motion.position = none)
    ∧ (∀ i, State.reset.zone i = none)
    ∧ (State.reset.out.records = [] ∧ State.reset.out.newest = 0 ∧ State.reset.out.readMark = 0)
    ∧ (State.reset.stats.histState = .none ∧ ∀ c, (State.reset.counter c).value = 0)
    ∧ (∀ k, (State.reset.kind k).seen = false ∧ (State.reset.kind k).count = 0 ∧ (State.reset.kind k).masked = false)
    ∧ (∀ k, k ∈ [FaultKind.lampDrift, .frameShort, .frameTimeout, .moveRetry] → (State.reset.kind k).severity = .corrected)
    ∧ (∀ k, k ∈ [FaultKind.bankFault, .rungLost, .staleFlat, .budgetExpired, .slotEmpty, .guardTile, .tableOccupied] →
        (State.reset.kind k).severity = .degraded)
    ∧ (∀ k, k ∈ [FaultKind.noLight, .moveTimeout, .positionerHalt, .handlerTimeout, .plateSense] →
        (State.reset.kind k).severity = .fatal)
    ∧ (State.reset.faults.corrected = none ∧ State.reset.faults.serious = none ∧ State.reset.faults.locked = false
        ∧ State.reset.faults.jobMark = none)
    ∧ State.reset.params =
        { clipLevel := 3968, signalFloor := 24, driftTol := 20, frameGrace := 250, moveLimit := 5, handlerLimit := 45
          flatAgeLimit := 50, lampLevelA := 512, lampLevelB := 512, calX := 200000, calY := 200000, timeRes := 16
          notifyCorrected := false, notifyDegraded := true, notifyFatal := true, counterNotify := 0xffff#16 }
    ∧ (State.reset.time.count = 0 ∧ State.reset.time.wraps = 0)
    ∧ (State.reset.link.state = .detached ∧ State.reset.link.intake = [] ∧ State.reset.link.replies = []
        ∧ State.reset.link.notices = [] ∧ State.reset.link.dropped = false ∧ State.reset.link.cause = .powerOn)
    ∧ LinkOk State.reset ∧ LampsOk State.reset ∧ StoresOk State.reset ∧ CountsOk State.reset ∧ JobsOk State.reset

/-- The request intake never holds more than 4 transfers, the reply queue never more than 4 replies (R190), the notice queue never
more than 32 notices (R162), whatever step is taken. -/
def Obligations.LinkCapacitiesKeptByEveryStep : Prop :=
  ∀ s t : State, LinkOk s → step s = .next t → LinkOk t

/-- At most one bank is lit at a time, and only under an exposure record that names it (R72), whatever step is taken. -/
def Obligations.OneLitBankKeptByEveryStep : Prop :=
  ∀ s t : State, LampsOk s → step s = .next t → LampsOk t

/-- No store of the part outgrows its capacity, no table changes its size, and every count stays inside its width, whatever step is
taken (00, "Capacities"). The counts that saturate are the station counters and the histogram's (R165), the kinds' (R175), a bank's
failures (R71), discarded frames and lines received (R84), discarded reports (R133), the flats' ages (R119), the zones' hits (R146) and
the wraps (R194). A conversion's last code lies in 0..4095 (R101). The numbers that wrap are the order number (R133), the sequences and
the read mark (R156), the stamps of planes (R96)
and of buffers (R150), and the time base's count (R194). -/
def Obligations.CapacitiesAndWidthsKeptByEveryStep : Prop :=
  ∀ s t : State, StoresOk s → CountsOk s → step s = .next t → StoresOk t ∧ CountsOk t

/-- Job numbers stay between 1 and 65,535, and no two jobs of the queue share a number (R8) or claim one magazine slot (R9), whatever
step is taken. -/
def Obligations.JobNumbersAndSlotsStayDistinct : Prop :=
  ∀ s t : State, JobsOk s → step s = .next t → JobsOk t

/-! ### Chapter 12: the request link -/

/-- Every request row takes the request of its own kind code from the head of the intake, whatever its body holds, and appends one
reply, which carries the kind code plus 32,768 and the request's tag (R190, R191). The link state, the frame on the answer pipe and
the reset cause stay as they are. -/
def Obligations.EveryRequestIsAnsweredOnce : Prop :=
  ∀ (c : Instr) (code : Nat) (tag flags : Byte) (body : List Byte) (rest : List (List Byte)) (s : State),
    requestCode c = some code → AtHead code tag flags body rest s →
    ∃ (t : State) (reply : ReplyBody), exec c s = .next t ∧ t.link.intake = rest
      ∧ t.link.replies = s.link.replies ++ [⟨code + 32768, tag, reply⟩]
      ∧ t.link.state = s.link.state ∧ t.link.pipe = s.link.pipe ∧ t.link.cause = s.link.cause

/-- A refused request changes no state outside the request link: the next state is the state before it with the request gone from
the intake and the refusal queued (R189). -/
def Obligations.RefusedRequestChangesNothingElse : Prop :=
  ∀ (c : Instr) (code : Nat) (tag flags : Byte) (body : List Byte) (rest : List (List Byte)) (s t : State) (reason : Reason)
    (index : Nat) (content : Content),
    requestCode c = some code → AtHead code tag flags body rest s → exec c s = .next t →
    t.link.replies = s.link.replies ++ [⟨code + 32768, tag, .refused reason index content⟩] →
    t = s.answer rest code tag (.refused reason index content)

/-- While the intake holds fewer than 4 transfers and the link is CONFIGURED, a transfer joins it whole, whatever it holds, unless
it is a RESET, which is taken as it arrives; otherwise it is held off and nothing changes (R188, R189, R190, R198). A transfer taken from the intake that fails the format check is answered BAD_FORMAT, echoing its tag when it has at least 3 bytes
and its kind code when it has at least 2; a well-formed frame with a kind code of no request is answered UNKNOWN_KIND (R189). -/
def Obligations.TransfersJoinTheIntakeAndUnknownOnesAreRefused : Prop :=
  ((∀ (transfer : List Byte) (s : State), s.link.state = .configured → s.link.intake.length < 4 →
      (∀ tag flags, transfer ≠ requestFrame 36 tag flags []) →
      exec (.requestTransferArrives transfer) s = .next { s with link.intake := s.link.intake ++ [transfer] })
    ∧ (∀ (tag flags : Byte) (s : State), s.link.state = .configured → s.link.intake.length < 4 →
      exec (.requestTransferArrives (requestFrame 36 tag flags [])) s = exec (.reset tag flags) s)
    ∧ (∀ (transfer : List Byte) (s : State), s.link.state ≠ .configured ∨ 4 ≤ s.link.intake.length →
      exec (.requestTransferArrives transfer) s = .next s))
    ∧ ((∀ (t : List Byte) (rest : List (List Byte)) (s : State), s.link.intake = t :: rest → s.link.replies.length < 4 →
      (t.length < 6 ∨ 1024 < t.length ∨ t.length ≠ 6 + ((t.getD 4 0#8).toNat + 256 * (t.getD 5 0#8).toNat)) →
      exec .unrecognisedRequest s = .next (s.answer rest
        (if 2 ≤ t.length then (t.getD 0 0#8).toNat + 256 * (t.getD 1 0#8).toNat else 0)
        (if 3 ≤ t.length then t.getD 2 0#8 else 0#8) (.refused .badFormat 0 .empty)))
    ∧ (∀ (code : Nat) (tag flags : Byte) (body : List Byte) (rest : List (List Byte)) (s : State),
      AtHead code tag flags body rest s → code < 65536 → code = 0 ∨ 36 < code →
      exec .unrecognisedRequest s = .next (s.answer rest code tag (.refused .unknownKind 0 .empty))))

/-- The answer-pipe sender takes the oldest reply before the oldest notice, and the frame it has begun leaves its queue when the host
has taken it; a frame of a queue that a RESET has emptied leaves only the pipe (R163, R198). What notices wait there (R162): any notice
posted with fewer than 32 queued joins the tail, carrying the dropped-notice mark as its flag, and clears the mark; one posted with 32
queued is dropped, the queue standing as it was and the mark set, to be carried by the next notice that joins; a mark already set stays set. Posting touches
nothing else. -/
def Obligations.AnswerPipeSendsRepliesFirst : Prop :=
  (∀ (s : State) (r : Reply) (rs : List Reply), s.link.state = .configured → s.link.pipe = none → s.link.replies = r :: rs →
      exec .answerSenderChoose s = .next { s with link.pipe := some (.reply, replyFrame r) })
    ∧ (∀ (s : State) (n : QueuedNotice) (ns : List QueuedNotice), s.link.state = .configured → s.link.pipe = none →
      s.link.replies = [] → s.link.notices = n :: ns →
      exec .answerSenderChoose s = .next { s with link.pipe := some (.notice, noticeFrame n) })
    ∧ (∀ (s : State) (f : List Byte) (r : Reply) (rs : List Reply), s.link.state = .configured →
      s.link.pipe = some (.reply, f) → s.link.replies = r :: rs →
      exec .answerFrameTaken s = .next { s with link.pipe := none, link.replies := rs })
    ∧ (∀ (s : State) (f : List Byte) (n : QueuedNotice) (ns : List QueuedNotice), s.link.state = .configured →
      s.link.pipe = some (.notice, f) → s.link.notices = n :: ns →
      exec .answerFrameTaken s = .next { s with link.pipe := none, link.notices := ns })
    ∧ (∀ (s : State) (n : Notice), s.link.notices.length < 32 →
      postNotice n s = { s with link.notices := s.link.notices ++ [⟨s.link.dropped, n⟩], link.dropped := false })
    ∧ (∀ (s : State) (n : Notice), 32 ≤ s.link.notices.length → postNotice n s = { s with link.dropped := true })
    ∧ (∀ (s : State) (lost next : Notice) (sent : QueuedNotice) (queued : List QueuedNotice), s.link.notices = sent :: queued →
      queued.length = 31 →
      postNotice next { postNotice lost s with link.notices := queued }
        = { s with link.notices := queued ++ [⟨true, next⟩], link.dropped := false })
    ∧ (∀ (s : State) (f : List Byte), s.link.state = .configured → s.link.pipe = some (.orphan, f) →
      exec .answerFrameTaken s = .next { s with link.pipe := none })

/-- Power-on: every block takes its power-on values, those of State.reset. The plate-present line is an input and stays, and so do the
model's own fields (log 5). A fault input found asserted, of bank A, of bank B or of both, leaves its bank FAILED with one failure, dark,
and BANK_FAULT raised after these values are set (R82, R197); with both asserted A's is raised first (the model's choice, log 6). -/
def Obligations.PowerOnSetsEveryBlock : Prop :=
  ∀ (s : State) (bank : Bool → Bank) (fault : BankId → Raised),
    (∀ asserted, bank asserted =
      if asserted then { health := .failed, lit := false, faultInput := true, failures := 1, lastFailure := some ⟨0, false⟩,
                         lastReading := none }
      else { health := .ready, lit := false, faultInput := false, failures := 0, lastFailure := none, lastReading := none }) →
    (∀ b, fault b = ⟨.bankFault, ⟨none, none, none, some b⟩⟩) →
    exec .powerOn s = .next
      { State.reset with
        lamps.a := bank s.lamps.a.faultInput, lamps.b := bank s.lamps.b.faultInput
        faults.raised := (if s.lamps.a.faultInput then [fault .a] else []) ++ (if s.lamps.b.faultInput then [fault .b] else [])
        platePresent := s.platePresent, drawn := s.drawn, pending := s.pending }

/-- A RESET, taken as it arrives (R198): intake and queues are emptied and its reply is the only one queued; every block takes its
soft-reset values (R19, R20, R82, R84, R95, R132, R133, R174, R187, R192, R194), while the flats, the injection lock, the link state, the
input levels and the exposure line's fall stand. Of the motion port the next number is kept and every other field takes its value: no
order, positioner-unsure set, position unknown, expectation NONE, no discarded report, no last report, no HOME request, no order waiting,
no record being assembled. STOP is sent and outstanding, or one outstanding serves. Stated with both fault inputs clear; the frame begun
on the answer pipe is sent to its end. The model's readings here: the STOP latches MOVE_LIMIT as it stood before the reset (log 31),
the internal time stands (log 38), what the pixel link still sends of a frame in reception is discarded uncounted, and a fault raised and
not yet taken stands, to be recorded into the cleared state, while an escalation made is dropped (log 8). -/
def Obligations.SoftResetKeepsOnlyWhatItNames : Prop :=
  ∀ (tag flags : Byte) (s : State), s.link.state = .configured → s.link.intake.length < 4 →
    s.lamps.a.faultInput = false → s.lamps.b.faultInput = false →
    ∃ t, exec (.reset tag flags) s = .next t
      ∧ t.link = { state := .configured, intake := [], replies := [⟨32804, tag, .ok (.reset .soft)⟩], notices := [],
                   dropped := false, pipe := s.link.pipe.map fun f => (.orphan, f.2), cause := .soft }
      ∧ t.motion =
          { nextNumber := if s.motion.stop.isSome then s.motion.nextNumber else (s.motion.nextNumber + 1) % 256
            order := none
            stop := some (match s.motion.stop with
              | some st => { st with reissue := false }
              | none => ⟨s.motion.nextNumber, s.params.moveLimit, s.now, false⟩)
            unsure := true, position := none, expect := .none, discarded := 0, last := none, homeRequest := false
            waiting := none, rxBytes := [], rxError := false
            sent := if s.motion.stop.isSome then s.motion.sent else s.motion.sent ++ [motionRecord 5 s.motion.nextNumber 0 0] }
      ∧ t.intake.rx = (if s.intake.rx = .idle then .idle else .discarding) ∧ t.faults.raised = s.faults.raised
      ∧ t.lamps.line = s.lamps.line ∧ t.cal.flatA = s.cal.flatA ∧ t.cal.flatB = s.cal.flatB
      ∧ t.faults.locked = s.faults.locked ∧ t.platePresent = s.platePresent ∧ t.now = s.now ∧ t.pending = s.pending
      ∧ { t with link := State.reset.link, motion := State.reset.motion, lamps.line := none,
                 intake.rx := .idle, cal.flatA := State.reset.cal.flatA, cal.flatB := State.reset.cal.flatB, faults.locked := false,
                 faults.raised := [],
                 platePresent := false, now := 0, drawn := 0, pending := [] } = State.reset

/-- ATTACH takes a DETACHED link to ATTACHED and CONFIGURE an ATTACHED one to CONFIGURED, and neither does anything else (R188). A link
reset, in any link state, empties intake and queues, loses the frame being sent, sets the dropped-notice mark, leaves the link ATTACHED
after a bus reset or a withdrawn configuration and DETACHED after a detach, returns a SENDING buffer to READY to be sent whole, and leaves
every other block as it is (R153, R188, R199). -/
def Obligations.LinkStateEventsReachTheLinkAlone : Prop :=
  (∀ s : State, s.link.state = .detached → exec .attach s = .next { s with link.state := .attached })
    ∧ (∀ s : State, s.link.state = .attached → exec .configure s = .next { s with link.state := .configured })
    ∧ (∀ (cause : LinkLoss) (s : State),
      ∃ t, exec (.linkReset cause) s = .next t
        ∧ t.link = { state := (match cause with | .detach => .detached | .busReset => .attached | .deconfigured => .attached),
                     intake := [], replies := [], notices := [], dropped := true, pipe := none, cause := s.link.cause }
        ∧ (∀ i, t.buf i = (s.buf i).map fun b =>
            if b.state = .sending then { b with state := .ready, headerTaken := false, rowsTaken := 0 } else b)
        ∧ { t with link := s.link, out.t1 := s.out.t1, out.t2 := s.out.t2, out.t3 := s.out.t3, out.t4 := s.out.t4 } = s)

/-- SET-PARAM (R79, R128, R192). A number outside its range is taken at the nearer end, and the reply is ADJUSTED with the value taken when
it differs from the one given; no other parameter changes; the lamp levels are refused BUSY while a job or a calibration is active. A
lamp level that changes makes its bank's flat INVALID, unless the level taken is the drive level of the flat's record; one that is taken
at the present level changes nothing, and neither touches the other bank's flat. (TIME_RES has its own values: TimeBaseCommands holds
it.) An on/off parameter and COUNTER_NOTIFY are set as given. A value of another form is refused BAD_FIELD with index 2: a number for an
on/off parameter or COUNTER_NOTIFY, an on/off value or a flag set for a number, and for COUNTER_NOTIFY an on/off value or a flag set of
other than 16 flags; a name that is not one of the table's is refused with index 1. That a lamp level's wrong form is refused so even where
the level is BUSY, and that no refusal carries the parameter's value, are the model's choices (logs 53, 70). -/
def Obligations.SetParamTakesValuesByTheParametersForm : Prop :=
  (∀ (code lo hi v : Nat) (p : ParamId) (tag flags : Byte) (rest : List (List Byte)) (s : State),
    (code, p, lo, hi) ∈
      [(0, ParamId.clipLevel, 1024, 4095), (1, .signalFloor, 1, 255), (2, .driftTol, 1, 200), (3, .frameGrace, 10, 2000),
       (4, .moveLimit, 1, 30), (5, .handlerLimit, 5, 120), (6, .flatAgeLimit, 0, 1000), (7, .lampLevelA, 0, 1023),
       (8, .lampLevelB, 0, 1023), (9, .calX, 0, 400000), (10, .calY, 0, 400000)] →
    v < 4294967296 → AtHead 31 tag flags ([BitVec.ofNat 8 code, 0#8] ++ leBytes 4 v) rest s →
    (((p = .lampLevelA ∨ p = .lampLevelB) → s.pass.job = none ∧ s.cal.cal = none) →
      ∃ t : State, exec .setParam s = .next (t.answer rest 31 tag
            (if lo ≤ v ∧ v ≤ hi then .ok (.param p (.number v)) else .adjusted (.param p (.number (max lo (min hi v))))))
        ∧ t.params.get p = .number (max lo (min hi v)) ∧ (∀ q, q ≠ p → t.params.get q = s.params.get q)
        ∧ (p ≠ .lampLevelA → p ≠ .lampLevelB → t.cal = s.cal)
        ∧ (∀ b : BankId, (p = .lampLevelA ∧ b = .a ∨ p = .lampLevelB ∧ b = .b) →
            t.flat (BankId.other b) = s.flat (BankId.other b)
            ∧ (s.level b = max lo (min hi v) ∨ (s.flatRecord b).map (fun r => r.driveLevel) = some (max lo (min hi v)) → t.cal = s.cal)
            ∧ (s.level b ≠ max lo (min hi v) → (s.flatRecord b).map (fun r => r.driveLevel) ≠ some (max lo (min hi v)) →
                t.flat b = ⟨.invalid, (s.flat b).data⟩))
        ∧ { t with params := s.params, cal.flatA := s.cal.flatA, cal.flatB := s.cal.flatB } = s)
    ∧ ((p = .lampLevelA ∨ p = .lampLevelB) → s.pass.job ≠ none ∨ s.cal.cal ≠ none →
      exec .setParam s = .next (s.answer rest 31 tag (.refused .busy 0 .empty))))
    ∧ (∀ (tag flags : Byte) (rest : List (List Byte)) (s : State),
    (∀ on : Bool, AtHead 31 tag flags [12#8, 1#8, if on then 1#8 else 0#8] rest s →
      exec .setParam s = .next ({ s with params.notifyCorrected := on }.answer rest 31 tag (.ok (.param .notifyCorrected (.onOff on)))))
    ∧ (∀ on : Bool, AtHead 31 tag flags [13#8, 1#8, if on then 1#8 else 0#8] rest s →
      exec .setParam s = .next ({ s with params.notifyDegraded := on }.answer rest 31 tag (.ok (.param .notifyDegraded (.onOff on)))))
    ∧ (∀ on : Bool, AtHead 31 tag flags [14#8, 1#8, if on then 1#8 else 0#8] rest s →
      exec .setParam s = .next ({ s with params.notifyFatal := on }.answer rest 31 tag (.ok (.param .notifyFatal (.onOff on)))))
    ∧ (∀ mask : BitVec 16, AtHead 31 tag flags ([15#8, 2#8, 16#8] ++ leBytes 2 mask.toNat) rest s →
      exec .setParam s = .next ({ s with params.counterNotify := mask }.answer rest 31 tag (.ok (.param .counterNotify (.flags mask)))))
    ∧ (∀ code v, 12 ≤ code → code ≤ 15 → v < 4294967296 → AtHead 31 tag flags ([BitVec.ofNat 8 code, 0#8] ++ leBytes 4 v) rest s →
      exec .setParam s = .next (s.answer rest 31 tag (.refused .badField 2 .empty)))
    ∧ (∀ (code : Nat) (v : Byte), code ≤ 11 ∨ code = 15 → AtHead 31 tag flags [BitVec.ofNat 8 code, 1#8, v] rest s →
      exec .setParam s = .next (s.answer rest 31 tag (.refused .badField 2 .empty)))
    ∧ (∀ (code count : Nat) (mask : List Byte), code ≤ 14 ∨ code = 15 ∧ count ≠ 16 → count ≤ 255 → mask.length = (count + 7) / 8 →
      AtHead 31 tag flags (BitVec.ofNat 8 code :: 2#8 :: BitVec.ofNat 8 count :: mask) rest s →
      exec .setParam s = .next (s.answer rest 31 tag (.refused .badField 2 .empty)))
    ∧ (∀ code v, 16 ≤ code → code ≤ 255 → v < 4294967296 → AtHead 31 tag flags ([BitVec.ofNat 8 code, 0#8] ++ leBytes 4 v) rest s →
      exec .setParam s = .next (s.answer rest 31 tag (.refused .badField 1 .empty))))

/-- The time base's commands (R192, R194, R195). SET-TIME loads the count as given and changes neither the wrap count nor anything else,
but that a whole interval found elapsed, whose wrap it forestalls, is gone with the old count (the model's choice, log 39); a
resolution, given with it or by SET-PARAM of TIME_RES, is taken as the largest of 1, 2, 4, 8, 16, 32, 64 not above it, 0 as 1, with an
ADJUSTED reply when it was rounded, and a change of resolution discards the part of a count interval already elapsed. When the count
stands at 4,294,967,295 and its TIME_RES µs have elapsed it passes to 0: the wrap count rises by 1, to 65,535 at the most, and TIME-WRAP
is posted with the wrap count after the rise and the resolution, or dropped with 32 notices queued (R162); before that TIME_WRAP changes
nothing. That the wrap is made by the command TIME_WRAP or by the next tick, and that SET-TIME keeps the part of a count interval already
elapsed when the resolution does not change, are the model's choices (logs 39, 71). -/
def Obligations.TimeBaseCommands : Prop :=
  (∀ (count : Nat) (tag flags : Byte) (rest : List (List Byte)) (s : State), count < 4294967296 →
    AtHead 33 tag flags (leBytes 4 count ++ [0#8]) rest s →
      exec .setTime s = .next
        ({ s with time := { s.time with count := count,
                                        elapsed := if s.params.timeRes ≤ s.time.elapsed then 0 else s.time.elapsed } }.answer rest 33 tag
          (.ok (.time count s.params.timeRes s.time.wraps))))
    ∧ (∀ (count : Nat) (given tag flags : Byte) (rest : List (List Byte)) (s : State), count < 4294967296 →
      AtHead 33 tag flags (leBytes 4 count ++ [1#8, given]) rest s →
      ∃ res, res ∈ [1, 2, 4, 8, 16, 32, 64] ∧ (res ≤ given.toNat ∨ given = 0#8 ∧ res = 1)
        ∧ (∀ r ∈ [1, 2, 4, 8, 16, 32, 64], r ≤ given.toNat → r ≤ res)
        ∧ exec .setTime s = .next
            ({ s with params.timeRes := res,
                      time := { s.time with
                        count := count
                        elapsed := if res ≠ s.params.timeRes ∨ s.params.timeRes ≤ s.time.elapsed then 0 else s.time.elapsed } }.answer
              rest 33 tag
              (if res = given.toNat then .ok (.time count res s.time.wraps) else .adjusted (.time count res s.time.wraps))))
    ∧ (∀ (given : Nat) (tag flags : Byte) (rest : List (List Byte)) (s : State), given < 4294967296 →
      AtHead 31 tag flags ([11#8, 0#8] ++ leBytes 4 given) rest s →
      ∃ res, res ∈ [1, 2, 4, 8, 16, 32, 64] ∧ (res ≤ given ∨ given = 0 ∧ res = 1)
        ∧ (∀ r ∈ [1, 2, 4, 8, 16, 32, 64], r ≤ given → r ≤ res)
        ∧ exec .setParam s = .next
            ({ s with params.timeRes := res,
                      time := { s.time with elapsed := if res = s.params.timeRes then s.time.elapsed else 0 } }.answer rest 31 tag
              (if res = given then .ok (.param .timeRes (.number res)) else .adjusted (.param .timeRes (.number res)))))
    ∧ (∀ s : State, s.time.count < 4294967295 ∨ s.time.elapsed < s.params.timeRes → exec .timeWrap s = .next s)
    ∧ (∀ s : State, s.time.count = 4294967295 → s.params.timeRes ≤ s.time.elapsed →
      exec .timeWrap s = .next
        { s with time := ⟨0, min 65535 (s.time.wraps + 1), 0⟩
                 link := s.link.posted (.timeWrap (min 65535 (s.time.wraps + 1)) s.params.timeRes) })


/-! ### Chapter 1: plate jobs and the plate queue -/

/-- Field `i` of a request's job record lies in the range of R1's table, a window in the conditions of R4. Indices 15 to 18 are clamped, and
22 takes every value (R2): they are never out of range. last_rung, index 14, is also out of range below first_rung (R6). -/
def Sys2Proof.Machine.RawJob.FieldOk (r : RawJob) (i : Nat) : Prop :=
  (i = 1 → 1 ≤ r.plateId.length ∧ r.plateId.length ≤ 24 ∧ ∀ c ∈ r.plateId, 32 ≤ c.toNat ∧ c.toNat ≤ 126)
    ∧ (i = 2 → 1 ≤ r.num 2 ∧ r.num 2 ≤ 24)
    ∧ (i = 3 ∨ i = 13 → r.num i ≤ 7)
    ∧ (i = 4 ∨ i = 5 → 1 ≤ r.num i ∧ r.num i ≤ 16)
    ∧ (i = 6 ∨ i = 7 → r.num i ≤ 400000)
    ∧ (i = 8 ∨ i = 9 ∨ i = 10 ∨ i = 11 → 1 ≤ r.num i ∧ r.num i ≤ 400000)
    ∧ (i = 12 ∨ i = 19 ∨ i = 20 → r.num i ≤ 1)
    ∧ (i = 14 → r.num 14 ≤ 7 ∧ r.num 13 ≤ r.num 14)
    ∧ (i = 21 → r.num 21 ≤ 3)
    ∧ (i = 23 → ∀ m, r.mask = some m → m ≤ 63)
    ∧ (i = 24 → r.stopOnAttention ≤ 1)
    ∧ (i = 25 → r.notifyQuiet ≤ 1)
    ∧ (i = 26 → ∀ w, r.window = some w → ∃ x0 y0 ww h, w = [x0, y0, ww, h] ∧ 64 ∣ x0 ∧ 64 ∣ ww ∧ 64 ≤ ww ∧ ww ≤ 4096
        ∧ 16 ∣ y0 ∧ 16 ∣ h ∧ 64 ≤ h ∧ h ≤ 3072 ∧ x0 + ww ≤ 4096 ∧ y0 + h ≤ 3072)
    ∧ (i = 27 → r.useZones ≤ 1)

/-- The refusal of a job record's fields (R1, R4, R6). No field is out of range by a "refused" rule exactly when every field lies in the range
of the table; and the field named is the first that does not, by its index: field i is named exactly when it is out of range and every
field of lower index is in range. So with both rungs in range a first_rung above last_rung is named by index 14, and a window that breaks
R4, with all before it in range, by index 26. -/
def Obligations.JobRecordRangesAreTheTables : Prop :=
  ∀ r : RawJob,
    (r.firstBad = none ↔ ∀ i, r.FieldOk i)
      ∧ (∀ i, r.firstBad = some i ↔ ¬ r.FieldOk i ∧ ∀ k < i, r.FieldOk k)
      ∧ (r.num 14 < r.num 13 → (∀ k < 14, r.FieldOk k) → r.firstBad = some 14)
      ∧ (∀ x0 y0 ww h, r.window = some [x0, y0, ww, h] → (∀ k < 26, r.FieldOk k) →
          (x0 % 64 ≠ 0 ∨ ww % 64 ≠ 0 ∨ ww < 64 ∨ 4096 < ww ∨ y0 % 16 ≠ 0 ∨ h % 16 ≠ 0 ∨ h < 64 ∨ 3072 < h ∨ 4096 < x0 + ww
            ∨ 3072 < y0 + h) → r.firstBad = some 26)

/-- The travel check (R5): a job passes it exactly when every target point of the job lies in 0..400,000 µm on both axes; a job that
fails it is named by the x axis first, with the offending coordinate of the last tile. -/
def Obligations.TravelCheckCoversEveryTarget : Prop :=
  ∀ r : JobRecord, 1 ≤ r.rows → 1 ≤ r.cols →
    (r.outOfTravel = none ↔
        ∀ i j, i < r.rows → j < r.cols →
          r.originX + j * r.stepX + r.fieldX / 2 ≤ 400000 ∧ r.originY + i * r.stepY + r.fieldY / 2 ≤ 400000)
      ∧ (∀ x, x = r.originX + (r.cols - 1) * r.stepX + r.fieldX / 2 → 400000 < x → r.outOfTravel = some (6, x))
      ∧ (∀ x y, x = r.originX + (r.cols - 1) * r.stepX + r.fieldX / 2 → y = r.originY + (r.rows - 1) * r.stepY + r.fieldY / 2 →
          x ≤ 400000 → 400000 < y → r.outOfTravel = some (7, y))

/-- The record that an ENQUEUE-PLATE of the fields `r` gives, once it passes the checks (R1, R2, R7): each field as the request gave it, named
values by their codes, the four clamped fields at the nearest end of their ranges, and the optional fields completed. -/
def Sys2Proof.Machine.RawJob.taken (r : RawJob) : JobRecord :=
  { plateId := r.plateId, slot := r.num 2, formatClass := r.num 3, rows := r.num 4, cols := r.num 5
    originX := r.num 6, originY := r.num 7, stepX := r.num 8, stepY := r.num 9, fieldX := r.num 10, fieldY := r.num 11
    walk := if r.num 12 = 0 then .raster else .serpentine
    firstRung := r.num 13, lastRung := r.num 14
    maxExtensions := if r.num 15 ≤ 3 then r.num 15 else 3
    underLimit := if r.num 16 ≤ 1000 then r.num 16 else 1000
    overLimit := if r.num 17 ≤ 1000 then r.num 17 else 1000
    retryCount := if r.num 18 ≤ 2 then r.num 18 else 2
    retryBank1 := if r.num 19 = 0 then .same else .alternate
    retryBank2 := if r.num 20 = 0 then .same else .alternate
    bankPref := if r.num 21 = 0 then .aOnly else if r.num 21 = 1 then .bOnly else if r.num 21 = 2 then .aFirst else .bFirst
    budgetS := if r.budget = some 0 then none else r.budget
    attention := (match r.mask with | none => 63#6 | some m => BitVec.ofNat 6 m)
    attentionDefaulted := decide (r.mask = none)
    stopOnAttention := decide (r.stopOnAttention = 1), notifyQuiet := decide (r.notifyQuiet = 1)
    window := (match r.window with | some [x0, y0, w, h] => ⟨x0, y0, w, h⟩ | _ => ⟨0, 0, 4096, 3072⟩)
    windowDefaulted := decide (r.window = none), useZones := decide (r.useZones = 1) }

/-- An ENQUEUE-PLATE that passes the checks of R6 is taken: the job takes the first number, counting upward from the next job number and
passing from 65,535 to 1, that no job of the queue holds; it joins the tail of the queue as QUEUED with its record and the time tag; the
reply carries the number, the position and the tiles, and is ADJUSTED with the list of clamps when a field was clamped (R7, R8, R9). The
record as taken is stated whole (R1, R2, R7): each field as the request gave it, named values by their codes; the four clamped fields at
the nearest end of their ranges; and the optional fields completed: a budget_s absent or 0 as absent, an attention_mask absent as the mask
of all six conditions and a window absent as the full sensor, each of these two marked as defaulted exactly when it was absent. -/
def Obligations.EnqueueTakesAValidJob : Prop :=
  ∀ (tag flags : Byte) (body : List Byte) (rest : List (List Byte)) (s : State) (r : RawJob),
    AtHead 1 tag flags body rest s → jobLayout body = some r → r.firstBad = none → r.taken.outOfTravel = none →
    s.queue.jobs.length < 16 → (∀ j ∈ s.queue.jobs, j.record.slot ≠ r.num 2) →
    1 ≤ s.queue.next → s.queue.next ≤ 65535 →
    ∃ k n, k ≤ 15 ∧ n = (s.queue.next - 1 + k) % 65535 + 1 ∧ (∀ j ∈ s.queue.jobs, j.number ≠ n)
      ∧ (∀ i < k, ∃ j ∈ s.queue.jobs, j.number = (s.queue.next - 1 + i) % 65535 + 1)
      ∧ exec .enqueuePlate s = .next
          ({ s with queue.jobs := s.queue.jobs ++ [(⟨n, r.taken, false, s.time.count, none⟩ : QueueJob)]
                    queue.next := if n = 65535 then 1 else n + 1 }.answer rest 1 tag
            (if r.num 15 ≤ 3 ∧ r.num 16 ≤ 1000 ∧ r.num 17 ≤ 1000 ∧ r.num 18 ≤ 2 then
              .ok (.enqueued n (s.queue.jobs.length + 1) (r.num 4 * r.num 5) [])
            else
              .adjusted (.enqueued n (s.queue.jobs.length + 1) (r.num 4 * r.num 5)
                ((if r.num 15 ≤ 3 then [] else [(15, 3)]) ++ (if r.num 16 ≤ 1000 then [] else [(16, 1000)])
                  ++ (if r.num 17 ≤ 1000 then [] else [(17, 1000)]) ++ (if r.num 18 ≤ 2 then [] else [(18, 2)])))))

/-- The checks of ENQUEUE-PLATE in their fixed order, each refusal leaving everything but the link as it was (R6): layout, fields, travel,
a queue of 16 jobs, a slot already claimed. -/
def Obligations.EnqueueRefusesInFixedOrder : Prop :=
  ∀ (tag flags : Byte) (body : List Byte) (rest : List (List Byte)) (s : State), AtHead 1 tag flags body rest s →
    (jobLayout body = none → exec .enqueuePlate s = .next (s.answer rest 1 tag (.refused .badField 0 .empty)))
    ∧ ∀ r : RawJob, jobLayout body = some r →
      (∀ i, r.firstBad = some i → exec .enqueuePlate s = .next (s.answer rest 1 tag (.refused .badField i .empty)))
      ∧ (∀ i x, r.firstBad = none → r.record.outOfTravel = some (i, x) →
          exec .enqueuePlate s = .next (s.answer rest 1 tag (.refused (.outOfTravel x) i .empty)))
      ∧ (r.firstBad = none → r.record.outOfTravel = none → 16 ≤ s.queue.jobs.length →
          exec .enqueuePlate s = .next (s.answer rest 1 tag (.refused .queueFull 0 .empty)))
      ∧ (∀ (pre post : List QueueJob) (j : QueueJob), r.firstBad = none → r.record.outOfTravel = none → s.queue.jobs.length < 16 →
          s.queue.jobs = pre ++ j :: post → (∀ q ∈ pre, q.record.slot ≠ r.num 2) → j.record.slot = r.num 2 →
          exec .enqueuePlate s = .next (s.answer rest 1 tag (.refused (.slotTaken j.number) 2 .empty)))

/-- START-QUEUE and STOP-QUEUE: START-QUEUE sets RUNNING from every run state, and is refused HALTED with the run state unchanged while
the pass is HALTED, out of which CLEAR-HALT leads with the run state STOPPED; STOP-QUEUE takes RUNNING to STOPPING when a job is ACTIVE
and to STOPPED when none is, in every pass state, and changes nothing otherwise. Each reply carries the run state (R10, R11). CANCEL-PLATE of a QUEUED job removes it in every run state and pass state: the jobs behind it move up, a CANCELLED history entry with
every count 0 and no start time tag is filed, the oldest of 8 giving way, and PLATE-DONE with the same fields is posted; a number that no
job of the queue holds is refused NOT_FOUND (R13, R16, R47). That the HALTED refusal carries the run state is the model's reading
(log 35). With 32 notices queued the PLATE-DONE is dropped, and the rest stands (R162). -/
def Obligations.StartStopAndCancelOfQueuedJobs : Prop :=
  (∀ (tag flags : Byte) (rest : List (List Byte)) (s : State),
    (AtHead 5 tag flags [] rest s → s.pass.state ≠ .halted →
      exec .startQueue s = .next ({ s with queue.run := .running }.answer rest 5 tag (.ok (.runState .running))))
    ∧ (AtHead 5 tag flags [] rest s → s.pass.state = .halted →
      exec .startQueue s = .next (s.answer rest 5 tag (.refused .halted 0 (.runState s.queue.run))))
    ∧ (AtHead 6 tag flags [] rest s → s.queue.run = .running → s.pass.job ≠ none →
      exec .stopQueue s = .next ({ s with queue.run := .stopping }.answer rest 6 tag (.ok (.runState .stopping))))
    ∧ (AtHead 6 tag flags [] rest s → s.queue.run = .running → s.pass.job = none →
      exec .stopQueue s = .next ({ s with queue.run := .stopped }.answer rest 6 tag (.ok (.runState .stopped))))
    ∧ (AtHead 6 tag flags [] rest s → s.queue.run ≠ .running →
      exec .stopQueue s = .next (s.answer rest 6 tag (.ok (.runState s.queue.run))))
    ∧ (∀ (choice : Byte) (t : State), AtHead 9 tag flags [choice] rest s → choice.toNat ≤ 1 → s.pass.state = .halted →
      exec .clearHalt s = .next t → t.queue.run = .stopped))
    ∧ (∀ (n : Nat) (tag flags : Byte) (rest : List (List Byte)) (s : State), n < 65536 → AtHead 2 tag flags (leBytes 2 n) rest s →
    ((∀ j ∈ s.queue.jobs, j.number ≠ n) → exec .cancelPlate s = .next (s.answer rest 2 tag (.refused .notFound 0 .empty)))
    ∧ (∀ (pre post : List QueueJob) (j : QueueJob), s.queue.jobs = pre ++ j :: post → j.number = n → j.active = false →
        (∀ q ∈ pre ++ post, q.number ≠ n) →
        let entry : HistoryEntry :=
          ⟨n, j.record.plateId, j.record.slot, .cancelled, ⟨0, 0, 0, 0, 0⟩, ⟨false, false⟩, false, none, s.time.count, none⟩
        exec .cancelPlate s = .next
          ({ s with queue.jobs := pre ++ post
                    queue.history := (if s.queue.history.length < 8 then s.queue.history else s.queue.history.drop 1) ++ [entry]
                    link := s.link.posted (.plateDone entry) }.answer rest 2 tag (.ok .empty))))

/-! ### Chapter 2: the capture pass -/

/-- The first fault of a job that ends with the job mark `mark` and the faults `raised` not yet taken, those `left` staying so (R177,
R182). A mark present is the first fault. With the mark absent, whether one of the faults raised is recorded before the end, and
which, is left free (log 7): one recorded there is taken, and its kind is the first fault. That at most one is recorded there, the others
staying raised, is the model's choice (log 7). -/
def Sys2Proof.Machine.EndsWithFirstFault (mark : Option FaultKind) (raised : List Raised) (first : Option FaultKind)
    (left : List Raised) : Prop :=
  match mark with
  | some k => first = some k ∧ left = raised
  | none => first = none ∧ left = raised ∨ ∃ n r, raised[n]? = some r ∧ first = some r.kind ∧ left = raised.eraseIdx n

/-- The sender has let the next fault that the pass controller acts on, one of kind `k`, be recorded and its escalation taken before that
action (log 68), the kind being FATAL and not masked and no other escalation waiting: R177's other order of the two. -/
def Sys2Proof.Machine.EscalatesFirst (s : State) (k : FaultKind) : Prop :=
  s.faults.ahead.head? = some .halted ∧ s.faults.escalations = [] ∧ (s.kind k).masked = false ∧ (s.kind k).severity = .fatal

/-- What the halt of such an escalation leaves when the action that follows has ended (R45, R46): HALTED, no order outstanding but a STOP, the
escalation taken, what is let come before the actions for later faults as it was; and the HALTED notice carries the state, the job and the tile as they stood
before the action (dropped with 32 queued, R162: at most two notices are queued between `s` and it). -/
def Sys2Proof.Machine.HaltedFirst (s t : State) (k : FaultKind) (entered : PassState) (job : Option Nat) (tile : Option (Nat × Nat)) :
    Prop :=
  t.pass.state = .halted ∧ t.motion.order = none ∧ t.motion.stop ≠ none ∧ t.faults.escalations = [] ∧ t.faults.ahead = s.faults.ahead.tail
    ∧ (s.link.notices.length ≤ 30 →
        Notice.halted k false entered job tile s.time.count ∈ t.link.notices.map fun n => n.notice)

/-- The outcome of an ACTIVE job that ends (R35): the outcome mark, or, with none, DONE or DONE_DEGRADED by its tile records. -/
def Sys2Proof.Machine.EndsAs (mark : Option Mark) (counts : RecordCounts) (outcome : JobOutcome) : Prop :=
  outcome = match mark with
    | some .cancelled => .cancelled
    | some .overtime => .overtime
    | some .failed => .failed
    | some .slotEmpty => .slotEmpty
    | some .noBank => .noBank
    | none => if counts.attention = 0 ∧ counts.guarded = 0 ∧ counts.notCaptured = 0 then .done else .doneDegraded

/-- The pass as a started job finds it (R22): pause pending stays as it is. The remaining time of a WAITING budget, which R26 sets
at the LOAD, is shown from here on (the model's reading, log 28). -/
def Sys2Proof.Machine.State.preparingPass (s : State) (q : QueueJob) : Pass :=
  { state := .preparing, job := some ⟨q.number, q.record, s.time.count⟩, plate := .notLoaded, loadIssued := false, bank := none,
    banksUsed := ⟨false, false⟩, walkPos := 0, tile := none, handedOver := 0,
    budget := (match q.record.budgetS with | none => ⟨.absent, 0, 0⟩ | some b => ⟨.waiting, b * 1000, 0⟩),
    pausePending := s.pass.pausePending, cancelPending := false, resumePoint := none, mark := none, stale := false,
    counts := ⟨0, 0, 0, 0, 0⟩, step := .none, settle := none }

/-- The start condition of R12 for the head job `q`, with no order and no STOP outstanding. -/
def Sys2Proof.Machine.StartsNow (s : State) (q : QueueJob) (rest : List QueueJob) : Prop :=
  s.queue.jobs = q :: rest ∧ q.active = false ∧ s.queue.run = .running ∧ s.pass.state = .idle ∧ s.cal.cal = none
    ∧ s.motion.homeRequest = false ∧ s.motion.order = none ∧ s.motion.stop = none

/-- JOB_START with positioner-unsure clear, ending at once without a bank taken. With the plate-present line true TABLE_OCCUPIED is raised and
the job ends FAILED, the run state STOPPED; with the carrier empty and no tried bank usable it ends NO_BANK, no fault raised and the run
state unchanged. Every count is 0, no order is issued, the history entry is filed, the job leaves the queue and the pass is IDLE (R14,
R16, R23, R24, R35, R44). At most one of the faults on their way is recorded before the job ends, the model's choice; which, if any, is a
free value, and first_fault is the kind of that one (EndsWithFirstFault, log 7). Where the sender has let TABLE_OCCUPIED be recorded before
the pass acts on it, first_fault is TABLE_OCCUPIED; and where a FATAL one's escalation comes first too, the pass is HALTED from PREPARING and
the job ends all the same, with the same outcome and run state (R45, R46, R177; that the sender says so is the model's, log 68). -/
def Obligations.JobStartEndsTheJobWithoutABank : Prop :=
  ∀ (s : State) (q : QueueJob) (rest : List QueueJob), StartsNow s q rest → s.motion.unsure = false →
    (∀ p ∈ rest, p.number ≠ q.number) →
    (s.platePresent = true → s.faults.ahead = [] →
      ∃ (t : State) (first : Option FaultKind), exec .jobStart s = .next t
        ∧ t.queue = { s.queue with
            jobs := rest, run := .stopped
            history := (if s.queue.history.length < 8 then s.queue.history else s.queue.history.drop 1)
              ++ [⟨q.number, q.record.plateId, q.record.slot, .failed, ⟨0, 0, 0, 0, 0⟩, ⟨false, false⟩, false, some s.time.count,
                   s.time.count, first⟩] }
        ∧ t.pass.state = .idle ∧ t.pass.job = none ∧ t.pass.plate = .notLoaded ∧ t.pass.mark = none
        ∧ EndsWithFirstFault none
            (s.faults.raised ++ [⟨.tableOccupied, ⟨some (q.number, q.record.plateId), none, none, none⟩⟩]) first t.faults.raised
        ∧ t.faults.jobMark = none ∧ t.motion.order = none ∧ t.motion.stop = none ∧ t.motion.sent = s.motion.sent ∧ t.out = s.out ∧ t.lamps = s.lamps)
    ∧ (∀ (a : Ahead) (more : List Ahead), s.platePresent = true → s.faults.ahead = a :: more → a ≠ .no →
      ∃ t, exec .jobStart s = .next t
        ∧ t.queue = { s.queue with
            jobs := rest, run := .stopped
            history := (if s.queue.history.length < 8 then s.queue.history else s.queue.history.drop 1)
              ++ [⟨q.number, q.record.plateId, q.record.slot, .failed, ⟨0, 0, 0, 0, 0⟩, ⟨false, false⟩, false, some s.time.count,
                   s.time.count, some .tableOccupied⟩] }
        ∧ t.pass.job = none ∧ t.pass.plate = .notLoaded ∧ t.pass.mark = none ∧ t.faults.raised = s.faults.raised
        ∧ t.faults.jobMark = none ∧ t.motion.order = none ∧ t.out = s.out
        ∧ (a = .recorded →
            t.pass.state = .idle ∧ t.motion.stop = none ∧ t.motion.sent = s.motion.sent ∧ t.lamps = s.lamps ∧ t.faults.ahead = more)
        ∧ (EscalatesFirst s .tableOccupied → HaltedFirst s t .tableOccupied .preparing (some q.number) none))
    ∧ (s.platePresent = false → s.faults.raised = [] →
      (∀ b, (q.record.bankPref = .aOnly → b = .a) → (q.record.bankPref = .bOnly → b = .b) →
        (s.bank b).health = .failed ∨ (s.flat b).validity = .invalid) →
      ∃ t, exec .jobStart s = .next t
        ∧ t.queue = { s.queue with
            jobs := rest
            history := (if s.queue.history.length < 8 then s.queue.history else s.queue.history.drop 1)
              ++ [⟨q.number, q.record.plateId, q.record.slot, .noBank, ⟨0, 0, 0, 0, 0⟩, ⟨false, false⟩, false, some s.time.count,
                   s.time.count, none⟩] }
        ∧ t.pass.state = .idle ∧ t.pass.job = none ∧ t.faults.raised = [] ∧ t.motion.order = none ∧ t.motion.stop = none
        ∧ t.motion.sent = s.motion.sent ∧ t.out = s.out ∧ t.lamps = s.lamps)

/-- The stale check of a bank taken into use (R130), `stale` saying whether its flat is stale: what it leaves of the plate's two sets of
banks and of the job's stale flag. A stale bank joins the stale set and the raised set, and the job's flag becomes yes; one that is not
leaves the stale set, the raised set and the flag staying. -/
def Sys2Proof.Machine.StaleChecked (s t : State) (bank : BankId) (stale : Bool) : Prop :=
  (∀ b, t.cal.staleSet.has b = if b = bank then stale else s.cal.staleSet.has b)
    ∧ (∀ b, t.cal.raisedSet.has b = (s.cal.raisedSet.has b || decide (b = bank) && stale))
    ∧ t.pass.stale = (s.pass.stale || stale)
    ∧ { t.cal with staleSet := s.cal.staleSet, raisedSet := s.cal.raisedSet } = s.cal

/-- The STALE_FLAT that the check raises (R130): one for a stale flat of a bank not yet in the raised set, with the job, the tile in hand
and the bank as context and the rung absent; else none. -/
def Sys2Proof.Machine.staleRaised (s : State) (j : JobInHand) (tile : Option (Nat × Nat)) (bank : BankId) (stale : Bool) : List Raised :=
  if stale = true ∧ s.cal.raisedSet.has bank = false then
    [⟨.staleFlat, ⟨some (j.number, j.record.plateId), tile, none, some bank⟩⟩]
  else []

/-- JOB_START with positioner-unsure set: the head job becomes ACTIVE with the time tag of its start, the pass enters PREPARING with
its fields as R22 gives them, and HOME is issued: it takes the next order number, latches MOVE_LIMIT, makes the position unknown and is
sent (R12, R22, R134). JOB_START with positioner-unsure clear, the carrier empty, and the first tried bank usable: the bank is taken into use with the job's rungs
clamped to its top rung, PLATE-START is posted, and the MOVE to the load point (0, 0) is issued (R24, R25, R50, R51). A flat whose age is
at or above a FLAT_AGE_LIMIT that is not 0 is stale (R130): STALE_FLAT is raised with the job and the bank as context, the bank alone is
in the stale set and the raised set, the job's stale flag is yes, and PLATE-START says so; with one that is not stale both sets are empty.
The remaining time of a WAITING budget is the model's reading (log 28). -/
def Obligations.JobStartHomesOrTakesABank : Prop :=
  (∀ (s : State) (q : QueueJob) (rest : List QueueJob), StartsNow s q rest → s.motion.unsure = true →
    ∃ t, exec .jobStart s = .next t
      ∧ t.queue = { s.queue with jobs := { q with active := true, started := some s.time.count } :: rest }
      ∧ t.pass = { s.preparingPass q with step := .homing }
      ∧ t.motion = { s.motion with
          nextNumber := (s.motion.nextNumber + 1) % 256
          order := some ⟨.home, s.motion.nextNumber, 0, 0, .pass, s.params.moveLimit, s.now, false, false, s.motion.position⟩
          position := none, sent := s.motion.sent ++ [motionRecord 2 s.motion.nextNumber 0 0] }
      ∧ t.faults.jobMark = none ∧ t.cal.staleSet = ⟨false, false⟩ ∧ t.cal.raisedSet = ⟨false, false⟩
      ∧ { t with queue := s.queue, pass := s.pass, motion := s.motion, faults.jobMark := s.faults.jobMark,
                 cal.staleSet := s.cal.staleSet, cal.raisedSet := s.cal.raisedSet } = s)
    ∧ (∀ (s : State) (q : QueueJob) (rest : List QueueJob) (b : BankId) (f : FlatData), StartsNow s q rest → s.motion.unsure = false →
    s.platePresent = false →
    (b = .a ↔ q.record.bankPref = .aOnly ∨ q.record.bankPref = .aFirst) →
    (s.bank b).health = .ready → s.flat b = ⟨.valid, some f⟩ →
    ∃ (t : State) (top : Nat) (stale : Bool), exec .jobStart s = .next t
      ∧ (stale = true ↔ s.params.flatAgeLimit ≠ 0 ∧ s.params.flatAgeLimit ≤ f.record.age)
      ∧ top ≤ 7 ∧ (top = 0 ∨ f.record.eFlat * 2 ^ top ≤ 8000000) ∧ (top = 7 ∨ 8000000 < f.record.eFlat * 2 ^ (top + 1))
      ∧ t.queue.jobs = { q with active := true, started := some s.time.count } :: rest
      ∧ t.pass = { s.preparingPass q with
          bank := some ⟨b, top, min q.record.firstRung (min q.record.lastRung top), min q.record.lastRung top⟩
          banksUsed := ⟨decide (b = .a), decide (b = .b)⟩, step := .moving, stale := stale }
      ∧ t.cal = { s.cal with
          staleSet := ⟨stale && decide (b = .a), stale && decide (b = .b)⟩
          raisedSet := ⟨stale && decide (b = .a), stale && decide (b = .b)⟩ }
      ∧ t.faults = { s.faults with
          jobMark := none
          raised := s.faults.raised
            ++ (if stale = true then [⟨.staleFlat, ⟨some (q.number, q.record.plateId), none, none, some b⟩⟩] else []) }
      ∧ t.link = s.link.posted
          (.plateStart q.number q.record.plateId q.record.slot (q.record.rows * q.record.cols) q.record.walk b top
            (min q.record.firstRung (min q.record.lastRung top)) (min q.record.lastRung top) stale q.record.budgetS s.time.count)
      ∧ t.motion.order = some ⟨.move, s.motion.nextNumber, 0, 0, .pass, s.params.moveLimit, s.now, false, false, s.motion.position⟩
      ∧ t.motion.sent = s.motion.sent ++ [motionRecord 1 s.motion.nextNumber 0 0]
      ∧ t.out = s.out ∧ t.lamps = s.lamps ∧ t.stats = s.stats)

/-- The walk order (R27): each ordinal below rows × cols names one tile, RASTER taking every row from column 0 upward and SERPENTINE every
odd row from the last column down, and no two ordinals name the same tile, so that every tile has its place in the order. -/
def Obligations.WalkOrderNamesEveryTileOnce : Prop :=
  ∀ r : JobRecord, 1 ≤ r.cols →
    (∀ o, o < r.rows * r.cols → (r.cell o).1 < r.rows ∧ (r.cell o).2 < r.cols)
      ∧ (∀ o p, r.cell o = r.cell p → o = p)
      ∧ (∀ i j, i < r.rows → j < r.cols → ∃ o, o < r.rows * r.cols ∧ r.cell o = (i, j))
      ∧ (∀ i k, k < r.cols → (r.walk = .raster ∨ i % 2 = 0) → r.cell (i * r.cols + k) = (i, k))
      ∧ (∀ i k, k < r.cols → r.walk = .serpentine → i % 2 = 1 → r.cell (i * r.cols + k) = (i, r.cols - 1 - k))

/-- RESUME in PAUSED at resume point NEXT_TILE, with no outcome mark and an undecided tile (R3, R27, R28, R29, R36, R40, R148): the tile at
the walk position is decided by the zone table's answer, and a SUSPENDED budget runs again. With the answer none, with or without
use_zones, the tile is taken into hand, the walk position rises by 1, and the MOVE to its target point is issued. With SKIP or GUARD no
MOVE is issued for it: it gets its SKIPPED or GUARDED record, with equal time tags and no ladder fields, the entry that answered gains 1
in hits, GUARD raises GUARD_TILE with the job and the tile as context, and the boundary is reached again: after the last tile of the walk
the pass enters RETURNING, and a next tile that no zone answers for is taken into hand with its MOVE. Where the sender has let a FATAL
GUARD_TILE be recorded and its escalation be taken before the pass acts on it, the pass is HALTED from WALKING with that tile in hand, which
gets its GUARDED record all the same, and no boundary is acted on (R45, R46, R177; that the sender says so is the model's, log 68). -/
def Obligations.ResumeTakesTheNextTileIntoHand : Prop :=
  ∀ (tag flags : Byte) (rest : List (List Byte)) (s : State) (j : JobInHand) (row col : Nat), AtHead 8 tag flags [] rest s →
    s.pass.state = .paused → s.pass.job = some j → s.pass.resumePoint = some .nextTile → s.pass.mark = none → s.pass.tile = none →
    s.pass.walkPos < j.record.rows * j.record.cols → s.motion.order = none → s.motion.stop = none →
    (row, col) = j.record.cell s.pass.walkPos →
    (zoneAnswer s.zones j.record row col = .none →
    ∃ t : State, exec .resume s = .next (t.answer rest 8 tag (.ok (.passState .walking)))
      ∧ t.pass = { s.pass with
          state := .walking, pausePending := false, resumePoint := none, walkPos := s.pass.walkPos + 1
          budget := (if s.pass.budget.state = .suspended then { s.pass.budget with state := .running } else s.pass.budget)
          tile := some ⟨row, col, s.pass.walkPos, .moving, s.time.count, false, none⟩ }
      ∧ t.motion = { s.motion with
          nextNumber := (s.motion.nextNumber + 1) % 256
          order := some ⟨.move, s.motion.nextNumber, j.record.originX + col * j.record.stepX + j.record.fieldX / 2,
            j.record.originY + row * j.record.stepY + j.record.fieldY / 2, .pass, s.params.moveLimit, s.now, false, false,
            s.motion.position⟩
          position := none
          sent := s.motion.sent ++ [motionRecord 1 s.motion.nextNumber
            (j.record.originX + col * j.record.stepX + j.record.fieldX / 2)
            (j.record.originY + row * j.record.stepY + j.record.fieldY / 2)] }
      ∧ { t with pass := s.pass, motion := s.motion } = s)
    ∧ (∀ (e : Nat) (z : Zone) (status : TileStatus) (next : Nat × Nat) (r : TileRecord),
      (zoneAnswer s.zones j.record row col = .skip e ∧ status = .skipped
        ∨ zoneAnswer s.zones j.record row col = .guard e ∧ status = .guarded ∧ s.faults.ahead = []) →
      s.zones[e]? = some (some z) → next = j.record.cell (s.pass.walkPos + 1) →
      (s.pass.walkPos + 1 < j.record.rows * j.record.cols → zoneAnswer s.zones j.record next.1 next.2 = .none) →
      r = { sequence := (s.out.newest + 1) % 4294967296, number := j.number, plateId := j.record.plateId, row := row, col := col
            ordinal := s.pass.walkPos, status := status, attention := false, conds := none, ladder := none, conv := none
            started := s.time.count, ended := s.time.count } →
      ∃ t : State, exec .resume s = .next t ∧ t.link.intake = rest ∧ t.out.newest = r.sequence ∧ t.out.records.getLast? = some r
        ∧ t.zones = s.zones.set e (some { z with hits := min 65535 (z.hits + 1) })
        ∧ t.pass.budget = (if s.pass.budget.state = .suspended then { s.pass.budget with state := .running } else s.pass.budget)
        ∧ t.pass.counts = (if status = .skipped then { s.pass.counts with skipped := s.pass.counts.skipped + 1 }
            else { s.pass.counts with guarded := s.pass.counts.guarded + 1 })
        ∧ t.faults.raised = s.faults.raised ++ (if status = .guarded then
            [⟨.guardTile, ⟨some (j.number, j.record.plateId), some (row, col), none, none⟩⟩] else [])
        ∧ t.lamps = s.lamps ∧ t.merge = s.merge ∧ t.queue = s.queue
        ∧ (s.pass.walkPos + 1 = j.record.rows * j.record.cols →
            t.link.replies = s.link.replies ++ [⟨32776, tag, .ok (.passState .returning)⟩]
            ∧ t.pass.state = .returning ∧ t.pass.tile = none ∧ t.pass.walkPos = s.pass.walkPos + 1
            ∧ (t.motion.order.map fun o => (o.kind, o.arg1, o.arg2)) = some (if s.motion.unsure then .home else .move, 0, 0))
        ∧ (s.pass.walkPos + 1 < j.record.rows * j.record.cols →
            t.link.replies = s.link.replies ++ [⟨32776, tag, .ok (.passState .walking)⟩]
            ∧ t.pass.state = .walking ∧ t.pass.walkPos = s.pass.walkPos + 2
            ∧ t.pass.tile = some ⟨next.1, next.2, s.pass.walkPos + 1, .moving, s.time.count, false, none⟩
            ∧ (t.motion.order.map fun o => (o.kind, o.arg1, o.arg2)) = some (.move,
                j.record.originX + next.2 * j.record.stepX + j.record.fieldX / 2,
                j.record.originY + next.1 * j.record.stepY + j.record.fieldY / 2)))
    ∧ (∀ (e : Nat) (z : Zone), zoneAnswer s.zones j.record row col = .guard e → s.zones[e]? = some (some z) →
      EscalatesFirst s .guardTile → s.ladder = none → s.pass.settle = none →
      ∃ t : State, exec .resume s = .next t ∧ HaltedFirst s t .guardTile .walking (some j.number) (some (row, col))
        ∧ t.link.intake = rest ∧ t.link.replies = s.link.replies ++ [⟨32776, tag, .ok (.passState .halted)⟩]
        ∧ t.out.newest = (s.out.newest + 1) % 4294967296
        ∧ t.out.records.getLast? = some
            { sequence := (s.out.newest + 1) % 4294967296, number := j.number, plateId := j.record.plateId, row := row, col := col
              ordinal := s.pass.walkPos, status := .guarded, attention := false, conds := none, ladder := none, conv := none
              started := s.time.count, ended := s.time.count }
        ∧ t.zones = s.zones.set e (some { z with hits := min 65535 (z.hits + 1) })
        ∧ t.pass.counts = { s.pass.counts with guarded := s.pass.counts.guarded + 1 }
        ∧ t.pass.job = some j ∧ t.pass.tile = none ∧ t.pass.walkPos = s.pass.walkPos + 1 ∧ t.pass.mark = none
        ∧ t.pass.budget.state ∉ [BudgetState.running, .suspended]
        ∧ t.faults.raised = s.faults.raised ∧ t.queue = s.queue)

/-- PAUSE and RESUME by the pass state, their replies carrying the state after the request (R38, R40): NOT_ACTIVE without a job, HALTED,
LATE for a PAUSE in RETURNING and FINISHING; a PAUSE in PREPARING, LOADING and WALKING sets pause pending and a RESUME there, and in
RETURNING and FINISHING, clears it; a PAUSE in PAUSED changes nothing; a RESUME in PAUSED at resume point RETURN enters RETURNING. The
contents of refusals are the model's reading (log 35). -/
def Obligations.PauseAndResumeByThePassState : Prop :=
  ∀ (tag flags : Byte) (rest : List (List Byte)) (s : State),
    (AtHead 7 tag flags [] rest s →
      (s.pass.job = none →
        exec .pause s = .next (s.answer rest 7 tag (.refused .notActive 0 (.pause s.pass.state s.pass.pausePending))))
      ∧ (s.pass.job ≠ none → s.pass.state = .halted →
        exec .pause s = .next (s.answer rest 7 tag (.refused .halted 0 (.pause .halted s.pass.pausePending))))
      ∧ (s.pass.job ≠ none → s.pass.state ∈ [PassState.returning, .finishing] →
        exec .pause s = .next (s.answer rest 7 tag (.refused .late 0 (.pause s.pass.state s.pass.pausePending))))
      ∧ (s.pass.job ≠ none → s.pass.state = .paused →
        exec .pause s = .next (s.answer rest 7 tag (.ok (.pause .paused s.pass.pausePending))))
      ∧ (s.pass.job ≠ none → s.pass.state ∈ [PassState.preparing, .loading, .walking] →
        exec .pause s = .next ({ s with pass.pausePending := true }.answer rest 7 tag (.ok (.pause s.pass.state true)))))
    ∧ (AtHead 8 tag flags [] rest s →
      (s.pass.job = none → exec .resume s = .next (s.answer rest 8 tag (.refused .notActive 0 (.passState s.pass.state))))
      ∧ (s.pass.job ≠ none → s.pass.state = .halted →
        exec .resume s = .next (s.answer rest 8 tag (.refused .halted 0 (.passState .halted))))
      ∧ (s.pass.job ≠ none → s.pass.state ∈ [PassState.preparing, .loading, .walking, .returning, .finishing] →
        exec .resume s = .next ({ s with pass.pausePending := false }.answer rest 8 tag (.ok (.passState s.pass.state))))
      ∧ (s.pass.job ≠ none → s.pass.state = .paused → s.pass.resumePoint = some .return → s.motion.order = none →
          s.motion.stop = none →
          ∃ t : State, exec .resume s = .next (t.answer rest 8 tag (.ok (.passState .returning)))
            ∧ t.pass.state = .returning ∧ t.pass.resumePoint = none ∧ t.pass.pausePending = false
            ∧ t.pass.budget = (if s.pass.budget.state = .suspended then { s.pass.budget with state := .running } else s.pass.budget)
            ∧ (t.motion.order.map fun o => (o.kind, o.arg1, o.arg2, o.requester))
                = some (if s.motion.unsure then .home else .move, 0, 0, .pass)
            ∧ { t with pass := s.pass, motion := s.motion } = s))

/-- CANCEL-PLATE of the ACTIVE job by the pass state (R42). RETURNING and FINISHING refuse it LATE, HALTED refuses it. In LOADING the load
runs to its report, and in PREPARING an order outstanding runs to its end; with none outstanding there the job ends at once, CANCELLED.
In PAUSED and in WALKING the walk is closed: each undecided tile gets a NOT_CAPTURED record. PAUSED then enters RETURNING. In WALKING the
tile in hand is settled: in WAIT_PLANE it gets its NOT_CAPTURED record at once and the pass enters RETURNING; in MOVING its MOVE, still
outstanding, runs to its end; in LADDER the ladder is stopped, its exposure runs out with its frame marked for discarding, its waiting
frames are discarded, and with no merge in progress the tile's plane is freed. A mark already set stands, and a RUNNING or SUSPENDED
budget becomes STOPPED. -/
def Obligations.CancelOfTheActiveJobByThePassState : Prop :=
  ∀ (n : Nat) (tag flags : Byte) (rest : List (List Byte)) (s : State) (q : QueueJob) (more : List QueueJob) (j : JobInHand),
    n < 65536 → AtHead 2 tag flags (leBytes 2 n) rest s → s.queue.jobs = q :: more → q.number = n → q.active = true →
    s.pass.job = some j →
    (s.pass.state ∈ [PassState.returning, .finishing] →
        exec .cancelPlate s = .next (s.answer rest 2 tag (.refused .late 0 .empty)))
    ∧ (s.pass.state = .halted → exec .cancelPlate s = .next (s.answer rest 2 tag (.refused .halted 0 .empty)))
    ∧ (s.pass.state = .loading ∨ s.pass.state = .preparing ∧ (∃ o, s.motion.order = some o ∧ o.requester = .pass) →
        exec .cancelPlate s = .next
          ({ s with pass := { s.pass with
              pausePending := false, cancelPending := true, mark := some (s.pass.mark.getD .cancelled)
              budget := (if s.pass.budget.state ∈ [BudgetState.running, .suspended] then { s.pass.budget with state := .stopped }
                else s.pass.budget) } }.answer rest 2 tag (.ok (.passState s.pass.state))))
    ∧ (s.pass.state = .preparing → (∀ o, s.motion.order = some o → o.requester ≠ .pass) → s.pass.tile = none → s.pass.handedOver = 0 →
        s.pass.plate = .notLoaded → s.pass.mark = none →
        ∃ t : State, exec .cancelPlate s = .next (t.answer rest 2 tag (.ok (.passState .preparing)))
          ∧ t.pass.state = .idle ∧ t.pass.job = none ∧ t.motion.order = s.motion.order ∧ t.out = s.out
          ∧ t.queue.jobs = (q :: more).filter (fun x => decide (x.number ≠ j.number))
          ∧ (t.queue.history.getLast?.map fun e => (e.number, e.outcome)) = some (j.number, .cancelled))
    ∧ (s.pass.state = .paused → s.pass.tile = none → s.pass.plate = .onTable → s.pass.walkPos ≤ j.record.rows * j.record.cols →
        s.motion.order = none → s.motion.stop = none →
        ∃ t : State, exec .cancelPlate s = .next (t.answer rest 2 tag (.ok (.passState .paused)))
          ∧ t.pass.state = .returning ∧ t.pass.mark = some (s.pass.mark.getD .cancelled) ∧ t.pass.pausePending = false
          ∧ t.pass.walkPos = j.record.rows * j.record.cols
          ∧ t.pass.counts = { s.pass.counts with
              notCaptured := s.pass.counts.notCaptured + (j.record.rows * j.record.cols - s.pass.walkPos) }
          ∧ (s.pass.budget.state ∈ [BudgetState.running, .suspended] → t.pass.budget.state = .stopped)
          ∧ (t.motion.order.map fun o => (o.kind, o.arg1, o.arg2)) = some (if s.motion.unsure then .home else .move, 0, 0)
          ∧ t.queue = s.queue ∧ t.faults = s.faults ∧ t.lamps = s.lamps)
    ∧ (∀ tile : Tile, s.pass.state = .walking → s.pass.tile = some tile → s.pass.settle = none → s.pass.plate = .onTable →
        s.pass.walkPos ≤ j.record.rows * j.record.cols →
        ∃ t : State, exec .cancelPlate s = .next (t.answer rest 2 tag (.ok (.passState .walking)))
          ∧ t.pass.mark = some (s.pass.mark.getD .cancelled) ∧ t.pass.pausePending = false
          ∧ t.pass.walkPos = j.record.rows * j.record.cols ∧ t.queue = s.queue ∧ t.faults = s.faults ∧ t.lamps = s.lamps
          ∧ (s.pass.budget.state ∈ [BudgetState.running, .suspended] → t.pass.budget.state = .stopped)
          ∧ (tile.phase = .waitPlane → s.ladder = none → tile.plane = none → s.motion.order = none → s.motion.stop = none →
              t.pass.state = .returning ∧ t.pass.tile = none ∧ t.merge = s.merge
              ∧ t.pass.counts = { s.pass.counts with
                  notCaptured := s.pass.counts.notCaptured + (j.record.rows * j.record.cols - s.pass.walkPos) + 1 }
              ∧ (t.motion.order.map fun o => (o.kind, o.arg1, o.arg2)) = some (if s.motion.unsure then .home else .move, 0, 0))
          ∧ (tile.phase = .moving → tile.moveDone = false → s.ladder = none →
              t.pass.state = .walking ∧ t.pass.tile = some tile ∧ t.motion = s.motion ∧ t.merge = s.merge
              ∧ t.pass.counts = { s.pass.counts with
                  notCaptured := s.pass.counts.notCaptured + (j.record.rows * j.record.cols - s.pass.walkPos) })
          ∧ (∀ (l : Ladder) (i : SlotId) (d : Slot) (g : Flight) (p : PlaneId), tile.phase = .ladder → tile.plane = some p →
              s.ladder = some l → l.stopping = .no → s.fillingSlot = some i → s.slot i = some d → d.taker = .ladder →
              g ∈ l.inFlight → g.slot = i → g.state = .awaited → (∀ f ∈ l.inFlight, f.state = .valid ∨ f.slot = i ∧ f.state = .awaited) →
              t.pass.state = .walking ∧ t.pass.tile = some { tile with plane := none } ∧ t.plane p = none ∧ t.motion = s.motion
              ∧ t.slot i = some { d with discard := true }
              ∧ (∀ k x, s.slot k = some x → x.state = .valid → x.taker = .ladder → t.slot k = none)
              ∧ ∃ m, t.ladder = some m ∧ m.stopping = .cancelled ∧ m.due = none ∧ m.rungList = l.rungList))

/-- HALT_ESCALATION takes the oldest escalation (that they are taken first in, first out is the model's choice, log 8). With none waiting it
says that the escalation of the last fault which a FAULT_TAKEN has let be recorded before its action comes before that action too, and says
nothing else (the model's choice, log 68). With the pass
already HALTED it changes nothing more. Otherwise the pass is HALTED, both banks are dark, no order is outstanding but a STOP is, a
RUNNING or SUSPENDED budget is STOPPED, and pause pending, cancel pending and the resume point are cleared, whatever the pass, a
calibration or a HOME request were doing; and the other escalations stand, unless the job ends at the halt and a fault on its way is
recorded there (log 7). Met with no tile in hand, no calibration, no HOME request, no STOP, the lamp dark and a job that does not end, it
posts the HALTED notice (dropped with 32 queued, R162), sends STOP, and changes nothing but the pass, the motion port and the link (R45, R76, R136, R181); an order that
waits is abandoned with the one outstanding (the model's reading, log 33). A job with no tile in hand and none handed over, its plate
RETURNED, or its mark FAILED and its plate not ON_TABLE, ends at the halt, the end of the order that the halt abandons, and the pass stays
HALTED with no job (R35, R46; the model's reading of which ends do so, log 17). -/
def Obligations.HaltEscalationHaltsThePass : Prop :=
  (∀ s : State, s.faults.escalations = [] →
    (s.faults.ahead = [] → exec .haltEscalation s = .next s)
    ∧ ∀ (before : List Ahead) (a : Ahead), s.faults.ahead = before ++ [a] →
        exec .haltEscalation s = .next { s with faults.ahead := before ++ [if a = .no then .no else .halted] })
  ∧ ∀ (s : State) (k : FaultKind) (injected : Bool) (more : List (FaultKind × Bool)), s.faults.escalations = (k, injected) :: more →
    (s.pass.state = .halted → exec .haltEscalation s = .next { s with faults.escalations := more })
    ∧ (s.pass.state ≠ .halted →
        ∃ t, exec .haltEscalation s = .next t ∧ t.pass.state = .halted ∧ t.lamps.a.lit = false ∧ t.lamps.b.lit = false
          ∧ t.lamps.exposure = none ∧ t.motion.order = none ∧ t.motion.stop ≠ none ∧ t.motion.homeRequest = false
          ∧ t.pass.budget.state ∉ [BudgetState.running, .suspended] ∧ t.pass.pausePending = false
          ∧ t.pass.cancelPending = false ∧ t.pass.resumePoint = none
          ∧ (s.faults.raised = [] ∨ s.faults.jobMark ≠ none ∨ s.pass.plate = .onTable ∨ s.pass.tile ≠ none ∧ s.pass.settle = none →
              t.faults.escalations = more)
          ∧ t.params = s.params ∧ t.zones = s.zones ∧ t.conv = s.conv)
    ∧ (s.pass.state ≠ .halted → s.pass.tile = none → s.ladder = none → s.cal.cal = none → s.motion.homeRequest = false →
        (s.pass.job = none ∨ s.pass.handedOver ≠ 0 ∨ s.pass.plate = .onTable
          ∨ s.pass.plate ≠ .returned ∧ s.pass.mark ≠ some .failed) →
        s.motion.stop = none → s.lamps.exposure = none → s.lamps.a.lit = false → s.lamps.b.lit = false →
        ∃ t, exec .haltEscalation s = .next t
          ∧ t.link = s.link.posted (.halted k injected s.pass.state (s.pass.job.map (·.number)) none s.time.count)
          ∧ t.motion = { s.motion with
              nextNumber := (s.motion.nextNumber + 1) % 256, order := none, waiting := none
              stop := some ⟨s.motion.nextNumber, s.params.moveLimit, s.now, false⟩
              sent := s.motion.sent ++ [motionRecord 5 s.motion.nextNumber 0 0] }
          ∧ { t with pass := s.pass, motion := s.motion, link := s.link, faults.escalations := (k, injected) :: more } = s)
    ∧ (∀ j : JobInHand, s.pass.state ≠ .halted → s.pass.job = some j → s.pass.tile = none → s.pass.handedOver = 0 →
        (s.pass.plate = .returned ∨ s.pass.mark = some .failed ∧ s.pass.plate ≠ .onTable) →
        ∃ (t : State) (e : HistoryEntry), exec .haltEscalation s = .next t ∧ t.pass.state = .halted ∧ t.pass.job = none
          ∧ t.pass.mark = none ∧ t.pass.plate = .notLoaded ∧ t.motion.order = none ∧ t.faults.jobMark = none
          ∧ t.queue.history.getLast? = some e ∧ e.number = j.number ∧ e.counts = s.pass.counts
          ∧ EndsAs s.pass.mark s.pass.counts e.outcome
          ∧ EndsWithFirstFault s.faults.jobMark s.faults.raised e.firstFault t.faults.raised
          ∧ t.queue.jobs = s.queue.jobs.filter (fun q => decide (q.number ≠ j.number)))

/-- What CLEAR-HALT with a job ACTIVE leaves: every block but the pass, the queue and the motion port when no tile is in hand and none
undecided; else those that write no record, the plane of a tile in hand being freed. -/
def Sys2Proof.Machine.HaltReleaseFrame (s t : State) : Prop :=
  t.lamps = s.lamps ∧ t.intake = s.intake ∧ t.conv = s.conv ∧ t.cal = s.cal ∧ t.faults = s.faults ∧ t.zones = s.zones
    ∧ t.params = s.params
    ∧ (∀ k, t.plane k = if (s.pass.tile.bind fun tile => tile.plane) = some k then none else s.plane k)
    ∧ ((s.pass.tile = none ∧ s.ladder = none ∧ ∀ j, s.pass.job = some j → s.pass.walkPos = j.record.rows * j.record.cols) →
        { t with pass := s.pass, motion := s.motion, queue := s.queue } = s)

/-- CLEAR-HALT: refused NOT_HALTED when the pass is not HALTED; with no job ACTIVE it makes the pass IDLE and the run state STOPPED. With a
job ACTIVE whose plate is ON_TABLE the job is FAILED, every undecided tile gets its NOT_CAPTURED record, and so does a tile in hand of
which nothing is in flight, its plane freed; then RETURN with the line true enters RETURNING, and LEAVE leaves the plate, the job ending
FAILED at once when no tile of it is handed over. A tile with a frame in flight stays in hand, to be recorded once nothing of it is: at the
end of its last discarded frame. Another choice is refused BAD_FIELD with index 1 (R32, R42, R47, R90, R189). The choice's codes, 0 LEAVE
and 1 RETURN, the content of the NOT_HALTED refusal, and that the walk may be closed before such a tile is recorded are the model's
(logs 24, 35, 14), and so is the place of the top rung that R51 gives its record (log 63). With a job ACTIVE only the forms whose plate is
ON_TABLE are stated. -/
def Obligations.ClearHaltReleasesThePass : Prop :=
  (∀ (choice : Byte) (tag flags : Byte) (rest : List (List Byte)) (s : State), AtHead 9 tag flags [choice] rest s →
    (2 ≤ choice.toNat → exec .clearHalt s = .next (s.answer rest 9 tag (.refused .badField 1 .empty)))
    ∧ (choice.toNat ≤ 1 → s.pass.state ≠ .halted →
        exec .clearHalt s = .next (s.answer rest 9 tag (.refused .notHalted 0 (.cleared s.pass.state none))))
    ∧ (choice.toNat ≤ 1 → s.pass.state = .halted → s.pass.job = none →
        exec .clearHalt s = .next ({ s with pass.state := .idle, queue.run := .stopped }.answer rest 9 tag (.ok (.cleared .idle none))))
    ∧ (∀ (j : JobInHand) (total : Nat) (counts : RecordCounts), choice.toNat ≤ 1 → s.pass.state = .halted → s.pass.job = some j →
        s.pass.plate = .onTable → total = j.record.rows * j.record.cols → s.pass.walkPos ≤ total →
        counts = { s.pass.counts with notCaptured := s.pass.counts.notCaptured + (total - s.pass.walkPos) } →
        (∀ tile l, s.pass.tile = some tile → s.ladder = some l → l.inFlight ≠ [] →
          ∃ (t : State) (p : PassState), exec .clearHalt s = .next (t.answer rest 9 tag (.ok (.cleared p none)))
            ∧ p = (if choice = 1#8 ∧ s.platePresent = true then .returning else .finishing) ∧ t.pass.state = p
            ∧ t.pass.mark = some .failed ∧ t.pass.job = some j ∧ t.pass.tile = some tile ∧ t.pass.settle = some .inPlace
            ∧ t.pass.walkPos = total ∧ t.pass.counts = counts ∧ t.queue = { s.queue with run := .stopped } ∧ t.ladder = some l
            ∧ t.intake = s.intake ∧ t.merge = s.merge ∧ t.lamps = s.lamps ∧ t.conv = s.conv ∧ t.faults = s.faults)
        ∧ (∀ all : RecordCounts, (s.pass.tile = none → s.ladder = none) → (∀ l, s.ladder = some l → l.inFlight = []) →
          all = (if s.pass.tile = none then counts else { counts with notCaptured := counts.notCaptured + 1 }) →
          (choice = 1#8 → s.platePresent = true → s.motion.order = none → s.motion.stop = none →
            ∃ t : State, exec .clearHalt s = .next (t.answer rest 9 tag (.ok (.cleared .returning none)))
              ∧ t.pass.state = .returning ∧ t.pass.mark = some .failed ∧ t.pass.job = some j ∧ t.pass.plate = .onTable
              ∧ t.pass.tile = none ∧ t.pass.walkPos = total ∧ t.pass.counts = all ∧ t.ladder = none
              ∧ t.queue = { s.queue with run := .stopped }
              ∧ (t.motion.order.map fun o => (o.kind, o.arg1, o.arg2)) = some (if s.motion.unsure then .home else .move, 0, 0)
              ∧ HaltReleaseFrame s t)
          ∧ (choice = 0#8 ∨ s.platePresent = false → s.pass.handedOver ≠ 0 →
            ∃ t : State, exec .clearHalt s = .next (t.answer rest 9 tag (.ok (.cleared .finishing none)))
              ∧ t.pass = { s.pass with
                  state := .finishing, plate := .left, mark := some .failed, tile := none, walkPos := total, counts := all
                  settle := if s.pass.tile = none then s.pass.settle else none }
              ∧ t.queue = { s.queue with run := .stopped } ∧ t.motion = { s.motion with expect := .none } ∧ t.ladder = none
              ∧ HaltReleaseFrame s t)
          ∧ (choice = 0#8 ∨ s.platePresent = false → s.pass.handedOver = 0 → s.motion.order = none →
            ∃ t : State, exec .clearHalt s = .next (t.answer rest 9 tag (.ok (.cleared .idle (some j.number))))
              ∧ t.pass.state = .idle ∧ t.pass.job = none ∧ t.pass.tile = none ∧ t.queue.run = .stopped ∧ t.ladder = none
              ∧ (t.queue.history.getLast?.map fun e => (e.number, e.outcome, e.counts)) = some (j.number, .failed, all)))))
  ∧ (∀ (s : State) (i : SlotId) (d : Slot) (tile : Tile) (l : Ladder) (g : Flight) (j : JobInHand), s.intake.rx = .receiving i →
      s.slot i = some d → d.taker = .ladder → d.discard = true → s.pass.job = some j → s.pass.tile = some tile → s.ladder = some l →
      l.inFlight = [g] → g.slot = i → s.pass.settle = some .inPlace → s.pass.handedOver ≠ 0 →
      ∃ t, exec .frameEnd s = .next t ∧ t.slot i = none ∧ t.ladder = none ∧ (∀ k, tile.plane = some k → t.plane k = none)
        ∧ t.pass = { s.pass with
            tile := none, settle := none, counts := { s.pass.counts with notCaptured := s.pass.counts.notCaptured + 1 } }
        ∧ t.out.records.getLast? = some
            { sequence := (s.out.newest + 1) % 4294967296, number := j.number, plateId := j.record.plateId, row := tile.row
              col := tile.col, ordinal := tile.ordinal, status := .notCaptured, attention := false, conds := none
              ladder := some { bank := l.bank, effFirst := l.effFirst, effLast := l.effLast, top := l.top, rungList := l.rungList
                               restarts := l.restarts, extensions := l.extensions, cut := l.cut }
              conv := none, started := tile.started, ended := s.time.count }
        ∧ t.queue = s.queue ∧ t.motion = s.motion ∧ t.lamps = s.lamps ∧ t.faults = s.faults)

/-- Where the boundary after a wind-up leads (R28, R37): RETURNING, or with a pause pending PAUSED, at resume point RETURN. -/
def Sys2Proof.Machine.WindsUpTo (pausePending : Bool) (t : State) : Prop :=
  if pausePending then t.pass.state = .paused ∧ t.pass.resumePoint = some .return ∧ t.pass.pausePending = false
  else t.pass.state = .returning

/-- BUDGET_EXPIRY: a RUNNING budget with nothing remaining becomes EXPIRED, BUDGET_EXPIRED is raised, and the mark becomes OVERTIME unless
one is set (R36, R37). In LOADING, and in RETURNING before RETURN is issued, that is all. With a tile of the walk in hand the walk is
closed, every undecided tile NOT_CAPTURED. A tile in WAIT_PLANE, and one that has moved and not yet claimed (log 12), gets its NOT_CAPTURED
record at once and claims no plane. A tile in MOVING keeps its MOVE, to be recorded at its end. A tile in LADDER has its ladder stopped
EXPIRED and TRUNCATED (R68), with nothing due: its frames in flight stand, to be merged, and with none in flight it ends, its plane FULL when
a rung is MERGED, with the ladder fields and, by R51, the bank's top rung (log 63), else freed and the tile NOT_CAPTURED. A restart that
waits for the merge in progress is dropped with what is due, the model's choice (log 19). The boundary then leads to RETURNING, or with a pause
pending to PAUSED at resume point RETURN. Where the sender has let a FATAL BUDGET_EXPIRED be recorded and its escalation be taken before the
wind-up, the pass is HALTED from WALKING, the mark and the budget become the same, the walk is closed, and the tile in hand is settled: it gets its NOT_CAPTURED record, one in
LADDER, its ladder stopped HALTED and its waiting frames discarded, when nothing else of it is in flight any more (R45, R46, R68, R177; that the
sender says so is the model's, log 68). -/
def Obligations.BudgetExpiryWindsThePlateUp : Prop :=
  ∀ (s : State) (j : JobInHand), s.pass.job = some j → s.pass.budget.state = .running → s.pass.budget.remaining = 0 →
    (s.pass.state ∈ [PassState.loading, .returning] → s.faults.ahead = [] →
        exec .budgetExpiry s = .next { s with
          pass := { s.pass with budget := { s.pass.budget with state := .expired }, mark := some (s.pass.mark.getD .overtime) }
          faults.raised := s.faults.raised ++
            [⟨.budgetExpired, ⟨some (j.number, j.record.plateId), s.pass.tile.map fun t => (t.row, t.col), none,
              s.pass.bank.map (·.bank)⟩⟩] })
    ∧ (∀ (tile : Tile) (total undecided : Nat) (counts : RecordCounts), EscalatesFirst s .budgetExpired → s.pass.state = .walking →
        s.pass.tile = some tile → s.pass.settle = none → s.pass.plate = .onTable → total = j.record.rows * j.record.cols →
        s.pass.walkPos ≤ total → undecided = total - s.pass.walkPos → counts = s.pass.counts →
        ∃ t, exec .budgetExpiry s = .next t
          ∧ HaltedFirst s t .budgetExpired .walking (some j.number) (some (tile.row, tile.col))
          ∧ t.pass.budget = { s.pass.budget with state := .expired } ∧ t.pass.mark = some (s.pass.mark.getD .overtime)
          ∧ t.pass.walkPos = total ∧ t.pass.job = some j ∧ t.pass.handedOver = s.pass.handedOver ∧ t.queue = s.queue
          ∧ t.faults.raised = s.faults.raised
          ∧ (tile.phase ≠ .ladder →
              t.pass.tile = none ∧ t.pass.counts = { counts with notCaptured := counts.notCaptured + undecided + 1 })
          ∧ (∀ l, tile.phase = .ladder → s.ladder = some l → l.stopping = .no → (∀ f ∈ l.inFlight, f.state = .valid) →
              t.pass.tile = none ∧ t.ladder = none ∧ (∀ k, tile.plane = some k → t.plane k = none)
              ∧ t.pass.counts = { counts with notCaptured := counts.notCaptured + undecided + 1 })
          ∧ (tile.phase = .ladder → (∀ l, s.ladder = some l → ∃ f ∈ l.inFlight, f.state ≠ .valid) →
              t.pass.counts = { counts with notCaptured := counts.notCaptured + undecided }
              ∧ (t.pass.tile.map fun x => (x.row, x.col, x.ordinal, x.phase)) = some (tile.row, tile.col, tile.ordinal, .ladder)
              ∧ t.pass.settle = some .inPlace
              ∧ ∀ l, s.ladder = some l → l.stopping = .no →
                  ∃ m, t.ladder = some m ∧ m.stopping = .halted ∧ m.due = none ∧ m.rungList = l.rungList))
    ∧ (∀ (tile : Tile) (total undecided : Nat) (counts : RecordCounts) (held : Pass), s.faults.ahead = [] → s.pass.state = .walking →
        s.pass.tile = some tile → s.pass.settle = none → s.pass.plate = .onTable → total = j.record.rows * j.record.cols →
        s.pass.walkPos ≤ total → undecided = total - s.pass.walkPos → counts = s.pass.counts →
        held = { s.pass with
          budget := { s.pass.budget with state := .expired }, mark := some (s.pass.mark.getD .overtime), walkPos := total
          counts := { counts with notCaptured := counts.notCaptured + undecided } } →
        ∃ t, exec .budgetExpiry s = .next t ∧ t.pass.budget = held.budget ∧ t.pass.mark = held.mark ∧ t.pass.walkPos = total
          ∧ t.queue = s.queue ∧ t.lamps = s.lamps ∧ t.intake = s.intake ∧ t.conv = s.conv
          ∧ t.faults = { s.faults with
              raised := s.faults.raised ++
                [⟨.budgetExpired, ⟨some (j.number, j.record.plateId), some (tile.row, tile.col), none, s.pass.bank.map (·.bank)⟩⟩] }
          ∧ (tile.phase = .waitPlane ∨ tile.phase = .moving ∧ tile.moveDone = true → tile.plane = none →
              t.pass.tile = none ∧ t.pass.counts = { counts with notCaptured := counts.notCaptured + undecided + 1 }
              ∧ t.merge = s.merge ∧ WindsUpTo s.pass.pausePending t)
          ∧ (tile.phase = .moving → tile.moveDone = false →
              t.pass = { held with settle := some .boundary } ∧ t.motion = s.motion ∧ t.ladder = s.ladder ∧ t.merge = s.merge)
          ∧ (∀ (l : Ladder) (i : PlaneId) (p : Plane), tile.phase = .ladder → tile.plane = some i → s.plane i = some p →
              s.ladder = some l → l.stopping = .no →
              (l.inFlight ≠ [] →
                t.pass = held ∧ t.motion = s.motion ∧ t.merge = s.merge
                ∧ t.ladder = some { l with stopping := .expired, due := none, restartPending := none, conds := l.conds ||| 32#6 })
              ∧ (l.inFlight = [] → (∃ e ∈ l.rungList, e.outcome = .merged) →
                t.pass.tile = none ∧ t.ladder = none ∧ t.pass.handedOver = s.pass.handedOver + 1 ∧ t.pass.counts = held.counts
                ∧ t.plane i = some { p with
                    state := .full, stamp := some ((s.merge.lastStamp + 1) % 4294967296)
                    ladder := some { bank := l.bank, effFirst := l.effFirst, effLast := l.effLast, top := l.top, rungList := l.rungList
                                     restarts := l.restarts, extensions := l.extensions, cut := l.cut, conds := l.conds ||| 32#6 } }
                ∧ WindsUpTo s.pass.pausePending t)
              ∧ (l.inFlight = [] → (∀ e ∈ l.rungList, e.outcome = .lost) →
                t.pass.tile = none ∧ t.ladder = none ∧ t.pass.handedOver = s.pass.handedOver ∧ t.plane i = none
                ∧ t.pass.counts = { counts with notCaptured := counts.notCaptured + undecided + 1 }
                ∧ WindsUpTo s.pass.pausePending t)))


/-! ### Chapter 3: exposure ladders -/

/-- The top rung of a bank is the largest r in 0..7 for which E_flat × 2^r does not exceed 8,000,000 µs, by spans of E_flat as R50's table
gives them; taken into use, the bank's effective last rung is min(last_rung, t) and its effective first rung min(first_rung, effective
last), and never above the top rung (R49, R50, R51). -/
def Obligations.TopRungAndLadderClamp : Prop :=
  ∀ e : Nat, 20 ≤ e → e ≤ 500000 →
    (topRung e = if e ≤ 62500 then 7 else if e ≤ 125000 then 6 else if e ≤ 250000 then 5 else 4)
      ∧ (∀ r, r ≤ 7 → (e * 2 ^ r ≤ 8000000 ↔ r ≤ topRung e))
      ∧ ∀ (j : JobRecord) (b : BankId), clampLadder j b e
          = ⟨b, topRung e, min j.firstRung (min j.lastRung (topRung e)), min j.lastRung (topRung e)⟩
        ∧ rungExposure e (clampLadder j b e).last ≤ 8000000

/-- ATTEMPT_START. With an attempt due, stopping no, no frame of the ladder awaited, the bank READY, the lamp dark and a slot FREE, the
attempt starts: the slot is claimed with its deadline at the exposure's end plus FRAME_GRACE, the frame joins those in flight as AWAITED,
the bank is lit for E_flat × 2^r µs with DRIFT_TOL latched and the first monitor sample taken, and a retry adds to RUNG_RETRIES alone
(R54, R55, R70, R72, R74, R86); of two FREE slots S1 is taken (the model's choice, log 13). With the bank FAILED in WALKING and no switch possible, no exposure is started: NO_LIGHT is raised with
the rung's context, the outcome mark becomes FAILED, and stopping FATAL (R44, R59, R62, R64). Where the sender has let it be recorded and
its escalation be taken before the pass acts on it, the pass is HALTED from WALKING; with none of the tile's frames in flight the tile, its
plane freed, and every undecided one are recorded NOT_CAPTURED all the same, and the job waits FAILED for CLEAR-HALT (R45 to R47, R177; that
the sender says so is the model's, log 68). -/
def Obligations.AttemptStartLightsTheBankOrRaisesNoLight : Prop :=
  ∀ (s : State) (l : Ladder) (j : JobInHand) (r a : Nat) (reading : Sample), s.ladder = some l → s.pass.job = some j →
    l.due = some (r, a) → l.stopping = .no →
    (∀ (i other : SlotId) (f : FlatData), (s.bank l.bank).health = .ready → (∀ x ∈ l.inFlight, x.state ≠ .awaited) →
      s.lamps.a.lit = false → s.lamps.b.lit = false → (s.flat l.bank).data = some f →
      (i = .s1 ∧ other = .s2 ∧ s.slot .s1 = none ∨ i = .s2 ∧ other = .s1 ∧ s.slot .s1 ≠ none ∧ s.slot .s2 = none) →
      ∃ t, exec (.attemptStart reading) s = .next t
        ∧ t.slot i = some
            { state := .filling, taker := .ladder, rung := r, attempt := a, discard := false,
              exposureEnd := s.now + f.record.eFlat * 2 ^ r,
              deadline := s.now + f.record.eFlat * 2 ^ r + s.params.frameGrace * 1000, reception := .notStarted, lines := 0,
              shortSeen := false, refSum := 0, clipped := 0, b := 0, window := j.record.window, c := l.c, pixels := [], m := 0 }
        ∧ t.slot other = s.slot other
        ∧ t.ladder = some { l with
            due := none, current := some (r, a), begun := true, inFlight := l.inFlight ++ [⟨i, r, a, .awaited, s.time.count⟩] }
        ∧ t.lamps.exposure = some
            ⟨l.bank, .rung, f.record.eFlat * 2 ^ r, s.time.count, s.now, s.params.driftTol, reading.toNat, 1⟩
        ∧ t.lamps.line = some (s.now + f.record.eFlat * 2 ^ r)
        ∧ t.bank l.bank = { s.bank l.bank with lit := true } ∧ t.bank (BankId.other l.bank) = s.bank (BankId.other l.bank)
        ∧ (a ≤ 1 → t.stats = s.stats ∧ t.link = s.link)
        ∧ (1 < a → s.stats.counters.length = 16 →
            (t.counter .rungRetries).value = min 4294967295 ((s.counter .rungRetries).value + 1)
              ∧ ∀ c, c ≠ .rungRetries → t.counter c = s.counter c)
        ∧ { t with intake.s1 := s.intake.s1, intake.s2 := s.intake.s2, ladder := s.ladder, lamps := s.lamps, stats := s.stats,
                   link := s.link } = s)
    ∧ ((s.bank l.bank).health = .failed → s.pass.state = .walking → s.faults.ahead = [] →
        (j.record.bankPref = .aOnly ∨ j.record.bankPref = .bOnly ∨ 2 ≤ l.restarts
          ∨ (s.bank (BankId.other l.bank)).health = .failed ∨ (s.flat (BankId.other l.bank)).validity = .invalid) →
        ∃ t, exec (.attemptStart reading) s = .next t
          ∧ t.faults.raised = s.faults.raised
              ++ [⟨.noLight, ⟨some (j.number, j.record.plateId), s.pass.tile.map fun t => (t.row, t.col), some (r, a), some l.bank⟩⟩]
          ∧ t.pass.mark = some .failed ∧ t.lamps = s.lamps ∧ (∀ m, t.ladder = some m → m.stopping = .fatal ∧ m.due = none)
          ∧ (s.pass.budget.state ∈ [BudgetState.running, .suspended] → t.pass.budget.state = .stopped))
    ∧ (∀ (tile : Tile) (total : Nat), (s.bank l.bank).health = .failed → s.pass.state = .walking → EscalatesFirst s .noLight →
        (j.record.bankPref = .aOnly ∨ j.record.bankPref = .bOnly ∨ 2 ≤ l.restarts
          ∨ (s.bank (BankId.other l.bank)).health = .failed ∨ (s.flat (BankId.other l.bank)).validity = .invalid) →
        s.pass.tile = some tile → tile.phase = .ladder → s.pass.settle = none → l.inFlight = [] → s.pass.plate = .onTable →
        total = j.record.rows * j.record.cols → s.pass.walkPos ≤ total →
        ∃ t, exec (.attemptStart reading) s = .next t
          ∧ HaltedFirst s t .noLight .walking (some j.number) (some (tile.row, tile.col))
          ∧ t.pass.mark = some .failed ∧ t.pass.plate = .onTable ∧ t.pass.job = some j ∧ t.pass.tile = none ∧ t.ladder = none
          ∧ (∀ k, tile.plane = some k → t.plane k = none) ∧ t.pass.walkPos = total
          ∧ t.pass.counts = { s.pass.counts with notCaptured := s.pass.counts.notCaptured + (total - s.pass.walkPos) + 1 }
          ∧ t.pass.budget.state ∉ [BudgetState.running, .suspended] ∧ t.faults.raised = s.faults.raised)

/-! ### Chapter 4: lamp banks and light monitoring -/

/-- An exposure from its samples to its end (R73, R74, R75). The sample due at k × 100 µs joins the sum while k × 100 is below E and the time
has come, and no further sample is taken. When the exposure line falls with all 1 + floor((E - 1) / 100) samples taken, the bank is dark,
the record is absent, and the last reading holds M = floor(sum / count) with its verdict: NOT_JUDGED for CALIBRATION, whose M becomes the
pending M (R123), whether or not the bank has a flat; for RUNG, DRIFT exactly when |M - Mref| × 1000 > DRIFT_TOL × Mref with the latched DRIFT_TOL, else HELD, with nothing
else changed. A DRIFT with attempts left raises LAMP_DRIFT, marks the attempt's slot for discarding, and under retry_bank SAME makes the
next attempt due (R58, R63, R90). Where the sender has let a FATAL LAMP_DRIFT be recorded and its escalation be taken before the sequencer
acts on it, the pass is HALTED first, and the attempt fails all the same, with no retry, no restart and no lost rung (R45, R63, R68, R177; that
the sender says so is the model's, log 68). -/
def Obligations.ExposureIsSampledAndJudged : Prop :=
  ∀ (s : State) (x : Exposure), s.lamps.exposure = some x →
    (∀ reading : Sample, 100 * x.count < x.exposure → x.startAt + 100 * x.count ≤ s.now →
      exec (.monitorSample reading) s
        = .next { s with lamps.exposure := some { x with sum := x.sum + reading.toNat, count := x.count + 1 } })
    ∧ (∀ reading : Sample, x.exposure ≤ 100 * x.count ∨ s.now < x.startAt + 100 * x.count →
      exec (.monitorSample reading) s = .next s)
    ∧ (∀ fall m : Nat, s.lamps.line = some fall → fall ≤ s.now → x.count = 1 + (x.exposure - 1) / 100 → m = x.sum / x.count →
      (x.purpose = .calibration → ∀ c, s.cal.cal = some c →
        ∃ t, exec .exposureTimerEnd s = .next t
          ∧ t.bank x.bank = { s.bank x.bank with lit := false, lastReading := some ⟨x.exposure, .calibration, x.count, m, none, .notJudged⟩ }
          ∧ t.bank (BankId.other x.bank) = s.bank (BankId.other x.bank)
          ∧ t.lamps.exposure = none ∧ t.lamps.line = none ∧ t.cal.cal = some { c with pendingM := some m }
          ∧ { t with lamps := s.lamps, cal.cal := s.cal.cal } = s)
      ∧ (∀ (f : FlatData) (mref : Nat), (s.flat x.bank).data = some f → mref = f.record.mref → x.purpose = .rung →
        ((m : Int) - mref).natAbs * 1000 ≤ x.driftTol * mref →
        ∃ t, exec .exposureTimerEnd s = .next t
          ∧ t.bank x.bank = { s.bank x.bank with lit := false, lastReading := some ⟨x.exposure, .rung, x.count, m, some mref, .held⟩ }
          ∧ t.bank (BankId.other x.bank) = s.bank (BankId.other x.bank)
          ∧ t.lamps.exposure = none ∧ t.lamps.line = none ∧ { t with lamps := s.lamps } = s)
      ∧ (∀ (f : FlatData) (mref : Nat) (l : Ladder) (j : JobInHand) (i : SlotId) (d : Slot) (g : Flight),
        (s.flat x.bank).data = some f → mref = f.record.mref → x.purpose = .rung → x.driftTol * mref < ((m : Int) - mref).natAbs * 1000 → s.ladder = some l → s.pass.job = some j → l.stopping = .no →
        s.fillingSlot = some i → s.slot i = some d → d.taker = .ladder → s.flightAt i = some g → g.rung = d.rung →
        (s.faults.ahead = [] → g.attempt < l.allowed → j.record.retryBank g.attempt = .same →
        ∃ t, exec .exposureTimerEnd s = .next t
          ∧ t.bank x.bank = { s.bank x.bank with lit := false, lastReading := some ⟨x.exposure, .rung, x.count, m, some mref, .drift⟩ }
          ∧ t.lamps.exposure = none ∧ t.lamps.line = none ∧ t.slot i = some { d with discard := true }
          ∧ t.ladder = some { l with due := some (g.rung, g.attempt + 1) }
          ∧ t.faults.raised = s.faults.raised
              ++ [⟨.lampDrift, ⟨some (j.number, j.record.plateId), s.pass.tile.map fun t => (t.row, t.col), some (d.rung, d.attempt),
                some x.bank⟩⟩]
          ∧ t.pass = s.pass ∧ t.motion = s.motion ∧ t.stats = s.stats ∧ t.link = s.link)
        ∧ (∀ tile : Tile, EscalatesFirst s .lampDrift → s.pass.state ≠ .halted → s.pass.tile = some tile → s.pass.settle = none →
        ∃ t h, exec .exposureTimerEnd s = .next t
          ∧ HaltedFirst s t .lampDrift s.pass.state (some j.number) (some (tile.row, tile.col))
          ∧ t.bank x.bank = { s.bank x.bank with lit := false, lastReading := some ⟨x.exposure, .rung, x.count, m, some mref, .drift⟩ }
          ∧ t.slot i = some { d with discard := true } ∧ t.faults.raised = s.faults.raised
          ∧ t.ladder = some h ∧ h.stopping = .halted ∧ h.due = none ∧ h.bank = l.bank ∧ h.restarts = l.restarts
          ∧ h.rungList = l.rungList ∧ h.inFlight = l.inFlight.filter (fun y => decide (y.state ≠ .valid)) ∧ t.stats = s.stats)))

/-- A driver fault is the change of a bank's fault input from clear to asserted: while it stays asserted nothing is taken, and its clearing
does nothing but be recorded. A fault makes the bank FAILED, its failures rise by 1 to 255 at the most, its last failure takes the time tag
and the lit state, and BANK_FAULT is raised: for a dark bank with the bank and the ACTIVE job as context and nothing else changed, for the
lit bank after both banks went dark and the exposure record became absent, the exposure line running on: with the rung's context for a rung's
exposure, and with the bank alone for a calibration's, which is given the failure BANK_FAULT and winds down in CLOSING, its awaited frame
marked and a VALID slot of it freed; it ends when the marked frame is settled (R71, R76, R77, R78, R90, R91, R126; the end is a clause of
CalibrationFramesAreKeptOrRetaken). Where the sender has let a FATAL BANK_FAULT of a rung's exposure be recorded and its escalation be taken
before the sequencer acts on it, the pass is HALTED first and the attempt fails with no forced restart: the bank in use stays (R45, R63, R68,
R177; that the sender says so is the model's, log 68). LAMP-RESET makes the bank READY unless its input is asserted, and is refused FAULT_ASSERTED then (R80; the content of the refusal is the
model's reading, log 35). -/
def Obligations.DriverFaultsFailABankAndLampResetRevivesIt : Prop :=
  ∀ (s : State) (b : BankId),
    ((s.bank b).faultInput = true → exec (.faultInputAssert b) s = .next s)
    ∧ exec (.faultInputClear b) s = .next (s.setBank b { s.bank b with faultInput := false })
    ∧ ((s.bank b).faultInput = false → (∀ x, s.lamps.exposure = some x → x.bank ≠ b) →
      exec (.faultInputAssert b) s = .next
        { s.setBank b { s.bank b with
            health := .failed, faultInput := true, failures := min 255 ((s.bank b).failures + 1)
            lastFailure := some ⟨s.time.count, false⟩ } with
          faults.raised := s.faults.raised
            ++ [⟨.bankFault, ⟨s.pass.job.map fun j => (j.number, j.record.plateId), none, none, some b⟩⟩] })
    ∧ (∀ (x : Exposure) (i : SlotId) (d : Slot), (s.bank b).faultInput = false → s.lamps.exposure = some x → x.bank = b →
      x.purpose = .rung → s.fillingSlot = some i → s.slot i = some d → s.faults.ahead = [] →
      ∃ t more, exec (.faultInputAssert b) s = .next t
        ∧ t.bank b = { s.bank b with
            health := .failed, lit := false, faultInput := true, failures := min 255 ((s.bank b).failures + 1)
            lastFailure := some ⟨s.time.count, true⟩ }
        ∧ t.bank (BankId.other b) = { s.bank (BankId.other b) with lit := false }
        ∧ t.lamps.exposure = none ∧ t.lamps.line = s.lamps.line
        ∧ t.faults.raised = s.faults.raised
            ++ ⟨.bankFault, ⟨s.pass.job.map fun j => (j.number, j.record.plateId), s.pass.tile.map fun t => (t.row, t.col),
                some (d.rung, d.attempt), some b⟩⟩ :: more)
    ∧ (∀ (x : Exposure) (i : SlotId) (d : Slot) (g : Flight) (l : Ladder) (j : JobInHand) (tile : Tile), (s.bank b).faultInput = false →
      s.lamps.exposure = some x → x.bank = b → x.purpose = .rung → s.fillingSlot = some i → s.slot i = some d → d.taker = .ladder →
      s.flightAt i = some g → s.ladder = some l → l.stopping = .no → s.pass.job = some j → s.pass.tile = some tile →
      s.pass.settle = none → s.pass.state ≠ .halted → EscalatesFirst s .bankFault →
      ∃ t m, exec (.faultInputAssert b) s = .next t
        ∧ HaltedFirst s t .bankFault s.pass.state (some j.number) (some (tile.row, tile.col))
        ∧ t.bank b = { s.bank b with
            health := .failed, lit := false, faultInput := true, failures := min 255 ((s.bank b).failures + 1)
            lastFailure := some ⟨s.time.count, true⟩ }
        ∧ t.bank (BankId.other b) = { s.bank (BankId.other b) with lit := false }
        ∧ t.lamps.exposure = none ∧ t.lamps.line = s.lamps.line ∧ t.slot i = some { d with discard := true }
        ∧ t.ladder = some m ∧ m.stopping = .halted ∧ m.due = none ∧ m.bank = l.bank ∧ m.restarts = l.restarts
        ∧ m.rungList = l.rungList ∧ t.pass.bank = s.pass.bank ∧ t.pass.banksUsed = s.pass.banksUsed
        ∧ t.faults.raised = s.faults.raised ∧ t.stats = s.stats)
    ∧ (∀ (x : Exposure) (c : Calibration) (i : SlotId) (d : Slot), (s.bank b).faultInput = false → s.lamps.exposure = some x → x.bank = b →
      x.purpose = .calibration → s.cal.cal = some c → c.failure = none → s.fillingSlot = some i → s.slot i = some d →
      d.taker = .calibration →
      ∃ t, exec (.faultInputAssert b) s = .next t
        ∧ t.bank b = { s.bank b with
            health := .failed, lit := false, faultInput := true, failures := min 255 ((s.bank b).failures + 1)
            lastFailure := some ⟨s.time.count, true⟩ }
        ∧ t.bank (BankId.other b) = { s.bank (BankId.other b) with lit := false }
        ∧ t.lamps.exposure = none ∧ t.lamps.line = s.lamps.line
        ∧ t.cal = { s.cal with cal := some { c with failure := some .bankFault, phase := .closing, due := false } }
        ∧ t.slot i = some { d with discard := true }
        ∧ (∀ (k : SlotId) (e : Slot), k ≠ i → s.slot k = some e → e.taker = .calibration →
            t.slot k = if e.state = .valid then none else some e)
        ∧ t.faults = { s.faults with raised := s.faults.raised ++ [⟨.bankFault, ⟨none, none, none, some b⟩⟩] }
        ∧ t.link = s.link ∧ t.pass = s.pass ∧ t.motion = s.motion ∧ t.stats = s.stats)
    ∧ (∀ (code tag flags : Byte) (rest : List (List Byte)), AtHead 11 tag flags [code] rest s →
      (code = 0#8 ∧ b = .a ∨ code = 1#8 ∧ b = .b) →
      ((s.bank b).faultInput = false →
        exec .lampReset s = .next ((s.setBank b { s.bank b with health := .ready }).answer rest 11 tag (.ok (.lamp .ready false))))
      ∧ ((s.bank b).faultInput = true →
        exec .lampReset s = .next (s.answer rest 11 tag (.refused .faultAsserted 0 (.lamp (s.bank b).health true)))))

/-! ### Chapter 5: the frame intake and the merge engine -/

/-- FRAME_START and FRAME_LINE (R83, R86, R87, R88, R90, R93). The first frame start after the exposure line has fallen and before the deadline is the
awaited frame's; one that starts while no slot is FILLING, or while the line is high, is a stray: it adds 1 to the discarded count, to
65,535 at the most, and changes no slot. One that starts while a frame is in reception ends that frame short, whatever it holds, or DISCARDED
when its slot is marked, frees the slot and is a stray itself; what the taker does then, and the fault, are clauses of
FrameVerdictsDecideTheRung and CalibrationFramesAreKeptOrRetaken. A whole line of the frame in reception adds 1 to the lines received, its 16 reference samples to
the reference sum, and, for a LADDER slot whose window holds the line, 1 to the clipped count for each window column whose sample is at or
above C; a line that does not carry 4112 samples sets short seen. A line beyond the 3072nd, whatever it carries, adds 1 to the lines received,
to 65,535 at the most, and nothing else. A line of any other frame is discarded. A frame whose marked slot was
released at its deadline goes on being discarded and adds 1 to the discarded count when it ends, by its frame end or by the next frame's
start; the end of another discarded frame adds nothing. -/
def Obligations.FramesAreReceivedLineByLine : Prop :=
  (∀ (s : State) (i : SlotId) (d : Slot) (ended : Nat),
      s.intake.rx ∈ [LinkRx.idle, .discarding] ∧ ended = s.intake.discarded
        ∨ s.intake.rx = .released ∧ ended = min 65535 (s.intake.discarded + 1) → s.fillingSlot = some i →
      s.slot i = some d → d.reception = .notStarted → s.lamps.line = none → s.now < d.deadline →
      exec .frameStart s = .next
        { s.setSlot i (some { d with reception := .receiving }) with
          intake := { (s.setSlot i (some { d with reception := .receiving })).intake with rx := .receiving i, discarded := ended } })
    ∧ (∀ (s : State) (ended : Nat),
      s.intake.rx ∈ [LinkRx.idle, .discarding] ∧ ended = 0 ∨ s.intake.rx = .released ∧ ended = 1 →
      s.fillingSlot = none ∨ s.lamps.line ≠ none →
      exec .frameStart s = .next
        { s with intake.discarded := min 65535 (s.intake.discarded + ended + 1), intake.rx := .discarding })
    ∧ (∀ (s : State) (i : SlotId) (d : Slot), s.intake.rx = .receiving i → s.slot i = some d →
      ∃ t, exec .frameStart s = .next t ∧ t.slot i = none ∧ t.intake.rx = .discarding
        ∧ t.intake.discarded = min 65535 (s.intake.discarded + 1)
        ∧ t.intake.last = some
            ⟨d.taker, if d.taker = .ladder then some (d.rung, d.attempt) else none, d.lines, none,
              if d.discard then .discarded else .frameShort, s.time.count⟩)
    ∧ (∀ s : State,
      (s.intake.rx = .released → exec .frameEnd s = .next
        { s with intake.discarded := min 65535 (s.intake.discarded + 1), intake.rx := .idle })
      ∧ (s.intake.rx = .discarding → exec .frameEnd s = .next { s with intake.rx := .idle })
      ∧ (s.intake.rx = .idle → exec .frameEnd s = .next s))
    ∧ (∀ (s : State) (i : SlotId) (d : Slot) (samples : List Sample), s.intake.rx = .receiving i → s.slot i = some d →
      samples.length = 4112 → d.lines < 3072 → d.window.x0 + d.window.w ≤ 4096 →
      exec (.frameLine samples) s = .next (s.setSlot i (some { d with
        lines := d.lines + 1
        refSum := d.refSum + ((samples.take 16).map BitVec.toNat).sum
        clipped := (if d.taker = .ladder then
            d.clipped + (if d.window.y0 ≤ d.lines ∧ d.lines < d.window.y0 + d.window.h then
                ((List.range d.window.w).filter fun k => decide (d.c ≤ (samples.getD (16 + d.window.x0 + k) 0#12).toNat)).length
              else 0)
          else 0)
        pixels := d.pixels ++ [samples.drop 16] })))
    ∧ (∀ (s t : State) (i : SlotId) (d : Slot) (samples : List Sample), s.intake.rx = .receiving i → s.slot i = some d →
      samples.length ≠ 4112 → d.lines < 3072 → exec (.frameLine samples) s = .next t →
      ∃ e, t.slot i = some e ∧ e.shortSeen = true ∧ e.lines = d.lines + 1)
    ∧ (∀ (s : State) (i : SlotId) (d : Slot) (samples : List Sample), s.intake.rx = .receiving i → s.slot i = some d → 3072 ≤ d.lines →
      exec (.frameLine samples) s = .next (s.setSlot i (some { d with lines := min 65535 (d.lines + 1) })))
    ∧ (∀ (s : State) (samples : List Sample), s.intake.rx ∈ [LinkRx.idle, .discarding, .released] →
      exec (.frameLine samples) s = .next s)

/-- The entry `e` is placed in a rung list by its rung (R69): the list `before` gains it and nothing else, and an ascending list that holds
no entry of its rung stays ascending, which fixes the entry's place. -/
def Sys2Proof.Machine.RungEntered (e : RungEntry) (before after : List RungEntry) : Prop :=
  (∀ x, x ∈ after ↔ x = e ∨ x ∈ before) ∧ after.length = before.length + 1
    ∧ (before.Pairwise (fun a b => a.rung < b.rung) → (∀ x ∈ before, x.rung ≠ e.rung) → after.Pairwise fun a b => a.rung < b.rung)

/-- FRAME_END, FRAME_DEADLINE and a FRAME_START that breaks a rung's frame (R56, R61, R63, R65, R88, R89, R90, R92). A whole frame is valid: its slot is VALID with
B the rounded reference mean, at most 1023, and the next rung up becomes due, or, fully clipped, the ladder is cut. A short frame, one that a
new frame start breaks, whatever it holds (R83, the starting frame being counted as a stray), or one whose deadline has passed, frees its slot and raises FRAME_SHORT or FRAME_TIMEOUT with the rung's context, and the attempt has failed: with
attempts left and retry_bank SAME the next attempt becomes due, with none left the rung is LOST, entered so by its rung (R69), RUNG_LOST is
raised and the next rung is due. A discard-marked frame is settled without being judged. A frame in reception at its slot's deadline goes on arriving and is
discarded, uncounted after FRAME_TIMEOUT and as a stray, counted when it ends, when its slot was marked. Where the sender has let a FATAL FRAME_SHORT or
FRAME_TIMEOUT be recorded and its escalation be taken before the sequencer acts on it, the pass is HALTED first, and the attempt fails with no
retry, no restart and no lost rung; a FATAL RUNG_LOST so taken first finds its rung entered LOST, and the ladder, stopped HALTED, does not go on
(R45, R61, R63, R68, R177; that the sender says so is the model's, log 68). -/
def Obligations.FrameVerdictsDecideTheRung : Prop :=
  ∀ (s : State) (i : SlotId) (d : Slot) (l : Ladder) (j : JobInHand) (g : Flight), s.fillingSlot = some i → s.slot i = some d →
    d.taker = .ladder → s.ladder = some l → s.pass.job = some j → s.pass.settle = none → l.stopping = .no →
    s.flightAt i = some g → g.rung = d.rung → g.attempt = d.attempt →
    (s.intake.rx = .receiving i → d.discard = false → d.lines = 3072 → d.shortSeen = false →
      ∃ t b, exec .frameEnd s = .next t ∧ b ≤ 1023
        ∧ (b < 1023 → 49152 * b ≤ d.refSum + 24576 ∧ d.refSum + 24576 < 49152 * (b + 1)) ∧ (b = 1023 → 49152 * 1023 ≤ d.refSum + 24576)
        ∧ t.slot i = some { d with state := .valid, reception := .ended, b := b, m := 0 }
        ∧ t.intake.last = some ⟨.ladder, some (d.rung, d.attempt), 3072, some (b, d.clipped), .valid, s.time.count⟩
        ∧ t.intake.validOrder = s.intake.validOrder ++ [i] ∧ t.faults = s.faults ∧ t.pass = s.pass ∧ t.merge = s.merge
        ∧ (d.clipped = d.window.w * d.window.h → (t.ladder.map fun m => m.cut) = some true)
        ∧ (d.clipped ≠ d.window.w * d.window.h → d.rung < l.currentLast →
            (t.ladder.map fun m => (m.due, m.cut)) = some (some (d.rung + 1, 1), l.cut) ∧ t.stats = s.stats ∧ t.link = s.link))
    ∧ (∀ (kind : FaultKind) (verdict : FrameVerdict) (c : Instr),
      (c = .frameEnd ∧ kind = .frameShort ∧ verdict = .frameShort ∧ s.intake.rx = .receiving i ∧ (d.lines ≠ 3072 ∨ d.shortSeen = true)
        ∨ c = .frameStart ∧ kind = .frameShort ∧ verdict = .frameShort ∧ s.intake.rx = .receiving i
        ∨ c = .frameDeadline ∧ kind = .frameTimeout ∧ verdict = .frameTimeout ∧ d.deadline ≤ s.now) →
      d.discard = false →
      (s.faults.ahead = [] → g.attempt < l.allowed → j.record.retryBank g.attempt = .same →
        ∃ t, exec c s = .next t ∧ t.slot i = none
          ∧ t.intake.last = some ⟨.ladder, some (d.rung, d.attempt), d.lines, none, verdict, s.time.count⟩
          ∧ t.faults.raised = s.faults.raised
              ++ [⟨kind, ⟨some (j.number, j.record.plateId), s.pass.tile.map fun t => (t.row, t.col), some (d.rung, d.attempt),
                some l.bank⟩⟩]
          ∧ (c = .frameDeadline → s.intake.rx = .receiving i → t.intake.rx = .discarding ∧ t.intake.discarded = s.intake.discarded)
          ∧ (t.ladder.map fun m => (m.due, m.rungList, m.inFlight))
              = some (some (d.rung, d.attempt + 1), l.rungList, l.inFlight.filter fun f => decide (f.slot ≠ i))
          ∧ t.pass = s.pass ∧ t.lamps = s.lamps ∧ t.merge = s.merge ∧ t.stats = s.stats)
      ∧ (s.faults.ahead = [] → l.allowed ≤ g.attempt → d.rung < l.currentLast →
        ∃ t, exec c s = .next t ∧ t.slot i = none
          ∧ (t.faults.raised.map fun r => r.kind) = (s.faults.raised.map fun r => r.kind) ++ [kind, .rungLost]
          ∧ (∃ m, t.ladder = some m ∧ m.due = some (d.rung + 1, 1) ∧ m.conds &&& 4#6 = 4#6
              ∧ RungEntered ⟨d.rung, .lost, l.allowed, g.started⟩ l.rungList m.rungList)
          ∧ t.pass = s.pass ∧ t.lamps = s.lamps ∧ t.merge = s.merge)
      ∧ (∀ tile : Tile, s.pass.tile = some tile → s.pass.state ≠ .halted →
        (EscalatesFirst s kind →
          ∃ t m, exec c s = .next t ∧ HaltedFirst s t kind s.pass.state (some j.number) (some (tile.row, tile.col))
            ∧ t.slot i = none ∧ t.intake.last = some ⟨.ladder, some (d.rung, d.attempt), d.lines, none, verdict, s.time.count⟩
            ∧ t.faults.raised = s.faults.raised
            ∧ t.ladder = some m ∧ m.stopping = .halted ∧ m.due = none ∧ m.bank = l.bank ∧ m.restarts = l.restarts
            ∧ m.rungList = l.rungList ∧ m.inFlight = l.inFlight.filter (fun y => decide (y.slot ≠ i ∧ y.state ≠ .valid))
            ∧ t.pass.counts = s.pass.counts ∧ t.stats = s.stats)
        ∧ (s.faults.ahead.head? = some .no → EscalatesFirst { s with faults.ahead := s.faults.ahead.tail } .rungLost →
          l.allowed ≤ g.attempt → s.stats.counters.length = 16 →
          ∃ t m, exec c s = .next t
            ∧ HaltedFirst { s with faults.ahead := s.faults.ahead.tail } t .rungLost s.pass.state (some j.number)
                (some (tile.row, tile.col))
            ∧ t.slot i = none ∧ (t.faults.raised.map fun r => r.kind) = (s.faults.raised.map fun r => r.kind) ++ [kind]
            ∧ t.ladder = some m ∧ m.stopping = .halted ∧ m.due = none ∧ m.conds &&& 4#6 = 4#6
            ∧ RungEntered ⟨d.rung, .lost, l.allowed, g.started⟩ l.rungList m.rungList
            ∧ (t.counter .rungsLost).value = min 4294967295 ((s.counter .rungsLost).value + 1)
            ∧ (t.pass.tile.map fun x => (x.row, x.col, x.phase)) = some (tile.row, tile.col, tile.phase)
            ∧ t.pass.counts = s.pass.counts)))
    ∧ (∀ c : Instr, (c ∈ [.frameEnd, .frameStart] ∧ s.intake.rx = .receiving i ∨ c = .frameDeadline ∧ d.deadline ≤ s.now) →
      d.discard = true → l.due ≠ none →
      ∃ t, exec c s = .next t ∧ t.slot i = none
        ∧ t.intake.last = some ⟨.ladder, some (d.rung, d.attempt), d.lines, none, .discarded, s.time.count⟩
        ∧ (c ≠ .frameStart → s.intake.rx = .receiving i →
            t.intake.rx = (if c = .frameDeadline then .released else .idle) ∧ t.intake.discarded = s.intake.discarded)
        ∧ (c = .frameStart → t.intake.rx = .discarding ∧ t.intake.discarded = min 65535 (s.intake.discarded + 1))
        ∧ t.faults = s.faults ∧ t.pass = s.pass ∧ t.lamps = s.lamps ∧ t.stats = s.stats
        ∧ (t.ladder.map fun m => (m.due, m.rungList)) = some (l.due, l.rungList))

/-- PLANE_CLAIM: with the tile's MOVE done and a plane FREE, the plane becomes FILLING for the tile and is cleared to NONE over the job's
window, and the tile's ladder is started on the bank in use, with C and L latched and the first attempt of the effective first rung due
(R30, R53, R96, R97). P1 before P2 is the model's choice (log 13). With both planes busy nothing is claimed. -/
def Obligations.PlaneClaimStartsTheLadder : Prop :=
  ∀ (s : State) (j : JobInHand) (tile : Tile) (b : BankInUse), s.pass.job = some j → s.pass.tile = some tile →
    s.pass.bank = some b → s.pass.settle = none → s.pass.state ≠ .halted →
    (tile.phase = .waitPlane ∨ tile.phase = .moving ∧ tile.moveDone = true) →
    (s.plane .p1 ≠ none → s.plane .p2 ≠ none → exec .planeClaim s = .next s)
    ∧ (∀ i other : PlaneId, (i, other) = (.p1, .p2) ∨ (i, other) = (.p2, .p1) ∧ s.plane .p1 ≠ none → s.plane i = none →
    ∃ t p, exec .planeClaim s = .next t ∧ t.plane i = some p ∧ t.plane other = s.plane other
      ∧ p.state = .filling ∧ p.owner = ⟨j.number, j.record, tile.row, tile.col, tile.ordinal, tile.started⟩
      ∧ p.window = j.record.window ∧ p.c = s.params.clipLevel ∧ p.l = s.params.signalFloor ∧ p.merges = 0
      ∧ p.counts = ⟨j.record.window.w * j.record.window.h, 0, 0, 0⟩ ∧ p.stamp = none ∧ p.ladder = none
      ∧ p.recs.length = j.record.window.h ∧ (∀ row ∈ p.recs, row.length = j.record.window.w ∧ ∀ r ∈ row, r = .none)
      ∧ t.pass = { s.pass with tile := some { tile with phase := .ladder, moveDone := true, plane := some i } }
      ∧ (∃ l, t.ladder = some l ∧ l.bank = b.bank ∧ l.effFirst = b.first ∧ l.effLast = b.last ∧ l.top = b.top
          ∧ l.currentLast = b.last ∧ l.allowed = 1 + j.record.retryCount ∧ l.due = some (b.first, 1) ∧ l.inFlight = []
          ∧ l.rungList = [] ∧ l.restarts = 0 ∧ l.extensions = 0 ∧ l.cut = false ∧ l.stopping = .no
          ∧ l.conds = (if s.cal.staleSet.has b.bank then 16#6 else 0#6) ∧ l.c = s.params.clipLevel ∧ l.l = s.params.signalFloor)
      ∧ { t with pass := s.pass, ladder := s.ladder, merge := s.merge } = s)

/-- The outcome of a pixel at a rung: S is P - B when P ≥ B and 0 otherwise; clipped when P ≥ C, else under when S < L, else valid, and
then, with L at least 1 and C at most 4095, S lies in L..C - 1 - B and in 1..4094 (R94). -/
def Obligations.PixelOutcomeIsTheFirstThatHolds : Prop :=
  ∀ p b c l : Nat,
    signal p b = (if b ≤ p then p - b else 0)
      ∧ (c ≤ p → pixelOutcome p b c l = .clipped)
      ∧ (p < c → signal p b < l → pixelOutcome p b c l = .under)
      ∧ (p < c → l ≤ signal p b → pixelOutcome p b c l = .valid (signal p b))
      ∧ (∀ sg, 1 ≤ l → c ≤ 4095 → pixelOutcome p b c l = .valid sg → l ≤ sg ∧ sg ≤ c - 1 - b ∧ 1 ≤ sg ∧ sg ≤ 4094)
      ∧ (1 ≤ l → p ≤ b → p < c → pixelOutcome p b c l = .under)

/-- MERGE_BEGIN and MERGE_END (R57, R94, R95, R98). With no merge in progress the slot validated first becomes MERGING. At the merge's end
each record (i, j) of the plane is moved by the merge table with the outcome of the sample at line y0 + i, column x0 + j; the class counts
are those of the records; merges rises by 1; the slot is FREE; and the rung is entered MERGED, in ascending rung order (R69), with its
attempt and the time tag of its exposure's start, and reported toward RUNGS_MERGED. -/
def Obligations.MergeFoldsAFrameIntoThePlane : Prop :=
  (∀ (s : State) (i : SlotId) (rest : List SlotId) (d : Slot), s.mergingSlot .ladder = none → s.intake.validOrder = i :: rest →
      s.slot i = some d → d.state = .valid → d.taker = .ladder →
      ∃ t, exec .mergeBegin s = .next t ∧ t.slot i = some { d with state := .merging }
        ∧ t.intake.validOrder = rest.filter (fun k => decide (k ≠ i))
        ∧ (t.ladder.map fun l => l.inFlight) = (s.ladder.map fun l =>
            l.inFlight.map fun f => if f.slot = i then { f with state := FlightState.merging } else f)
        ∧ t.merge = s.merge ∧ t.pass = s.pass ∧ t.faults = s.faults)
    ∧ (∀ (s : State) (i : SlotId) (d : Slot) (pi : PlaneId) (p : Plane) (tile : Tile) (l : Ladder) (g : Flight),
      s.mergingSlot .ladder = some i → s.slot i = some d → s.pass.tile = some tile → tile.plane = some pi → s.plane pi = some p →
      s.ladder = some l → s.flightAt i = some g → l.restartPending = none → l.due ≠ none → s.pass.settle = none →
      s.stats.counters.length = 16 → p.recs.length = p.window.h → (∀ row ∈ p.recs, row.length = p.window.w) →
      p.window.y0 + p.window.h ≤ d.pixels.length → (∀ line ∈ d.pixels, p.window.x0 + p.window.w ≤ line.length) →
      ∃ t q, exec .mergeEnd s = .next t ∧ t.plane pi = some q
        ∧ q.merges = p.merges + 1 ∧ q.owner = p.owner ∧ q.window = p.window ∧ q.c = p.c ∧ q.l = p.l ∧ q.state = p.state
        ∧ q.recs.length = p.window.h ∧ (∀ row ∈ q.recs, row.length = p.window.w)
        ∧ (∀ y x, y < p.window.h → x < p.window.w →
            ∀ old outcome, old = (p.recs.getD y []).getD x .none →
              outcome = pixelOutcome ((d.pixels.getD (p.window.y0 + y) []).getD (p.window.x0 + x) 0#12).toNat d.b d.c p.l →
              (q.recs.getD y []).getD x .none = (match outcome, old with
                | .valid sg, _ => .valid d.rung sg
                | .clipped, .none => .clipped
                | .clipped, .clipped => .clipped
                | .clipped, .under => .under
                | .clipped, .valid r sg => .valid r sg
                | .under, .none => .under
                | .under, .clipped => .under
                | .under, .under => .under
                | .under, .valid r sg => .valid r sg))
        ∧ q.counts.nNone + q.counts.nClipped + q.counts.nUnder + q.counts.nValid = p.window.w * p.window.h
        ∧ q.counts.nNone = (q.recs.map fun row => row.countP fun r => decide (r = .none)).sum
        ∧ q.counts.nClipped = (q.recs.map fun row => row.countP fun r => decide (r = .clipped)).sum
        ∧ q.counts.nUnder = (q.recs.map fun row => row.countP fun r => decide (r = .under)).sum
        ∧ q.counts.nValid = (q.recs.map fun row => row.countP fun r => match r with
            | .valid _ _ => true
            | _ => false).sum
        ∧ t.slot i = none
        ∧ (∃ m, t.ladder = some m ∧ RungEntered ⟨g.rung, .merged, g.attempt, g.started⟩ l.rungList m.rungList
            ∧ m.inFlight = l.inFlight.filter (fun f => decide (f.slot ≠ i)) ∧ m.due = l.due)
        ∧ (t.counter .rungsMerged).value = min 4294967295 ((s.counter .rungsMerged).value + 1)
        ∧ t.pass = s.pass ∧ t.faults = s.faults ∧ t.lamps = s.lamps)

/-- A ladder's end and its extension (R31, R61, R66, R67, R96), met with nothing due and the last frame of the tile in flight. When that
frame's merge ends (the merged plane is that of MergeFoldsAFrameIntoThePlane) and the ladder is not cut, UNDER × 1000 exceeds
under_limit × w × h, extensions are below max_extensions, current last below the top rung and stopping is no, the ladder is extended:
extensions and current last rise by 1, LADDER_EXTENSIONS gains 1 and the first attempt of the new last rung is due. Otherwise it ends: the
plane is FULL with the next stamp and the ladder fields, the handed-over count rises by 1, the tile is in hand no more, and the boundary
is reached: PAUSED with a pause pending, at resume point NEXT_TILE or, with the walk complete, RETURN; RETURNING with the walk complete;
else the next tile, when no zone answers for it, is taken into hand. The lamp is as it was, unless a halt has been let come before the action
for a GUARD_TILE of the tiles that follow (log 68). When the frame of the last rung's last attempt times out and no rung
is MERGED, the rung is LOST, the plane is freed, and the tile gets its NOT_CAPTURED record with the ladder fields, among them the bank's top
rung, which R51 has the record carry and R67's list does not name (log 63). Each rung's entry is placed in ascending rung order (R69). -/
def Obligations.LadderExtendsOrEnds : Prop :=
  ∀ (s : State) (i : SlotId) (d : Slot) (pi : PlaneId) (p : Plane) (tile : Tile) (l : Ladder) (j : JobInHand) (g : Flight),
    s.slot i = some d → s.pass.job = some j → s.pass.state = .walking → s.pass.settle = none → s.pass.tile = some tile →
    tile.plane = some pi → s.plane pi = some p → s.ladder = some l → l.inFlight = [g] → g.slot = i → s.stats.counters.length = 16 →
    (∀ q : Plane, s.mergingSlot .ladder = some i → q = mergedPlane d p → l.due = none → l.restartPending = none →
      (l.cut = false → j.record.underLimit * (p.window.w * p.window.h) < q.counts.nUnder * 1000 →
        l.extensions < j.record.maxExtensions → l.currentLast < l.top → l.stopping = .no →
        ∃ t m, exec .mergeEnd s = .next t ∧ t.plane pi = some q ∧ t.slot i = none ∧ t.ladder = some m ∧ m.inFlight = []
          ∧ m.due = some (l.currentLast + 1, 1) ∧ m.currentLast = l.currentLast + 1 ∧ m.extensions = l.extensions + 1
          ∧ RungEntered ⟨g.rung, .merged, g.attempt, g.started⟩ l.rungList m.rungList
          ∧ (t.counter .rungsMerged).value = min 4294967295 ((s.counter .rungsMerged).value + 1)
          ∧ (t.counter .ladderExtensions).value = min 4294967295 ((s.counter .ladderExtensions).value + 1)
          ∧ t.pass = s.pass ∧ t.faults = s.faults ∧ t.lamps = s.lamps ∧ t.motion = s.motion)
      ∧ ((l.cut = true ∨ q.counts.nUnder * 1000 ≤ j.record.underLimit * (p.window.w * p.window.h)
            ∨ j.record.maxExtensions ≤ l.extensions ∨ l.top ≤ l.currentLast ∨ l.stopping ≠ .no) →
        ∃ (t : State) (rungs : List RungEntry), exec .mergeEnd s = .next t
          ∧ RungEntered ⟨g.rung, .merged, g.attempt, g.started⟩ l.rungList rungs
          ∧ t.plane pi = some { q with
              state := .full, stamp := some ((s.merge.lastStamp + 1) % 4294967296)
              ladder := some { bank := l.bank, effFirst := l.effFirst, effLast := l.effLast, top := l.top, rungList := rungs
                               restarts := l.restarts, extensions := l.extensions, cut := l.cut, conds := l.conds } }
          ∧ t.merge.lastStamp = (s.merge.lastStamp + 1) % 4294967296 ∧ (∀ k, k ≠ pi → t.plane k = s.plane k)
          ∧ t.slot i = none ∧ t.ladder = none ∧ t.pass.handedOver = s.pass.handedOver + 1 ∧ t.queue = s.queue
          ∧ (s.faults.ahead = [] → t.lamps = s.lamps)
          ∧ (s.pass.pausePending = true →
              (s.pass.walkPos < j.record.rows * j.record.cols ∧ s.pass.mark = none ∨ s.pass.walkPos = j.record.rows * j.record.cols) →
              t.pass.state = .paused ∧ t.pass.tile = none ∧ t.pass.pausePending = false ∧ t.pass.walkPos = s.pass.walkPos
              ∧ t.pass.resumePoint = some (if s.pass.walkPos < j.record.rows * j.record.cols then .nextTile else .return)
              ∧ (s.pass.budget.state = .running → t.pass.budget.state = .suspended))
          ∧ (s.pass.pausePending = false → s.pass.walkPos = j.record.rows * j.record.cols →
              t.pass.state = .returning ∧ t.pass.tile = none)
          ∧ (∀ next, s.pass.pausePending = false → s.pass.mark = none → s.pass.walkPos < j.record.rows * j.record.cols →
              next = j.record.cell s.pass.walkPos → zoneAnswer s.zones j.record next.1 next.2 = .none →
              t.pass.state = .walking ∧ t.pass.walkPos = s.pass.walkPos + 1
              ∧ t.pass.tile = some ⟨next.1, next.2, s.pass.walkPos, .moving, s.time.count, false, none⟩)))
    ∧ (s.faults.ahead = [] → s.fillingSlot = some i → d.taker = .ladder → d.discard = false → d.deadline ≤ s.now → l.allowed ≤ d.attempt →
      d.rung = l.currentLast → l.stopping = .no → (∀ e ∈ l.rungList, e.outcome = .lost) →
      p.counts.nUnder * 1000 ≤ j.record.underLimit * (p.window.w * p.window.h) → s.pass.pausePending = false →
      s.pass.walkPos = j.record.rows * j.record.cols →
      ∃ (t : State) (rungs : List RungEntry), exec .frameDeadline s = .next t
        ∧ RungEntered ⟨d.rung, .lost, l.allowed, g.started⟩ l.rungList rungs
        ∧ t.plane pi = none ∧ t.slot i = none ∧ t.ladder = none ∧ t.pass.tile = none ∧ t.pass.state = .returning
        ∧ t.pass.handedOver = s.pass.handedOver
        ∧ t.pass.counts = { s.pass.counts with notCaptured := s.pass.counts.notCaptured + 1 }
        ∧ (t.faults.raised.map fun r => r.kind) = (s.faults.raised.map fun r => r.kind) ++ [.frameTimeout, .rungLost]
        ∧ t.out.newest = (s.out.newest + 1) % 4294967296
        ∧ t.out.records.getLast? = some
            { sequence := (s.out.newest + 1) % 4294967296, number := j.number, plateId := j.record.plateId, row := tile.row
              col := tile.col, ordinal := tile.ordinal, status := .notCaptured, attention := false, conds := none
              ladder := some { bank := l.bank, effFirst := l.effFirst, effLast := l.effLast, top := l.top, rungList := rungs
                               restarts := l.restarts, extensions := l.extensions, cut := l.cut }
              conv := none, started := tile.started, ended := s.time.count }
        ∧ t.lamps = s.lamps ∧ t.queue = s.queue)

/-- What a restart of the ladder `l` of the tile in hand leaves (R60, steps 3 to 6, and R51), the other bank's flat having the record `f`
and being stale or not: the plane cleared to NONE, the rung list empty, restarts one more, extensions 0, BANK_SWITCH in the conditions,
RUNG_LOST not, and STALE_FLAT by the stale check (R130), the other bank in use, its clamped rungs the ladder's, and the first attempt of
its first rung due. -/
def Sys2Proof.Machine.Restarted (policy stale : Bool) (s : State) (l : Ladder) (r : JobRecord) (pi : PlaneId) (p : Plane) (f : FlatRecord)
    (t : State) : Prop :=
  ∃ (m : Ladder) (top last first : Nat), top = topRung f.eFlat ∧ last = min r.lastRung top ∧ first = min r.firstRung last
    ∧ t.ladder = some m ∧ m.bank = BankId.other l.bank ∧ m.top = top ∧ m.effLast = last ∧ m.currentLast = last ∧ m.effFirst = first
    ∧ m.due = some (first, 1) ∧ m.rungList = [] ∧ m.restarts = l.restarts + 1 ∧ m.extensions = 0 ∧ m.restartPending = none
    ∧ m.policyUsed = (l.policyUsed || policy)
    ∧ m.conds = (l.conds &&& 43#6) ||| 8#6 ||| (if stale = true then 16#6 else 0#6) ∧ StaleChecked s t (BankId.other l.bank) stale
    ∧ m.c = l.c ∧ m.l = l.l ∧ m.stopping = l.stopping
    ∧ t.plane pi = some { p with
        recs := List.replicate p.window.h (List.replicate p.window.w .none), counts := ⟨p.window.w * p.window.h, 0, 0, 0⟩, merges := 0 }
    ∧ t.pass.bank = some ⟨BankId.other l.bank, top, first, last⟩
    ∧ t.pass.banksUsed = s.pass.banksUsed.add (BankId.other l.bank) ∧ t.pass.tile = s.pass.tile ∧ t.pass.state = s.pass.state
    ∧ (t.counter .ladderRestarts).value = min 4294967295 ((s.counter .ladderRestarts).value + 1)

/-- The switch to the other bank and the restart of the ladder (R59, R60, R63, R64), under A_FIRST or B_FIRST with the other bank READY, its
flat valid, and fewer than 2 restarts. A driver fault of the lit bank forces it: BANK_FAULT is raised and the frame of the
failed attempt is marked for discarding. An attempt due on a FAILED bank forces it as well, but a ladder of which no attempt has been
made only moves to the other bank, with no restart counted and the plane as it stands. A frame that times out with an attempt left under
retry_bank ALTERNATE asks it by policy, once a tile. In each case the tile's waiting frames are discarded. A merge in progress ends
first: until then nothing is due and the rung list and the plane stand, and at its end the restart is made, its rung not entered. A flat
of the other bank whose age is at or above a FLAT_AGE_LIMIT that is not 0 is stale (R130): the bank joins the stale set, the job's stale
flag is yes, the ladder carries STALE_FLAT, and STALE_FLAT is raised with the job, the tile and the bank as context unless the bank was in
the raised set before; with one that is not stale the bank leaves the stale set, the ladder does not carry it, and none is raised. -/
def Obligations.LadderRestartsOnTheOtherBank : Prop :=
  ∀ (s : State) (l : Ladder) (j : JobInHand) (tile : Tile) (pi : PlaneId) (p : Plane) (f : FlatData) (stale : Bool)
      (more : List Raised), s.ladder = some l →
    s.pass.job = some j → s.pass.tile = some tile → tile.plane = some pi → s.plane pi = some p → s.pass.settle = none →
    (stale = true ↔ s.params.flatAgeLimit ≠ 0 ∧ s.params.flatAgeLimit ≤ f.record.age) →
    more = staleRaised s j (some (tile.row, tile.col)) (BankId.other l.bank) stale →
    (j.record.bankPref = .aFirst ∨ j.record.bankPref = .bFirst) → (s.bank (BankId.other l.bank)).health = .ready →
    s.flat (BankId.other l.bank) = ⟨.valid, some f⟩ →
    l.restarts < 2 → l.stopping = .no → s.stats.counters.length = 16 →
    (∀ (x : Exposure) (i : SlotId) (d : Slot) (g : Flight), (s.bank l.bank).faultInput = false → s.lamps.exposure = some x →
      x.bank = l.bank → x.purpose = .rung → s.fillingSlot = some i → s.slot i = some d → d.taker = .ladder → s.flightAt i = some g →
      s.mergingSlot .ladder = none → s.faults.ahead = [] →
      ∃ t, exec (.faultInputAssert l.bank) s = .next t ∧ Restarted false stale s l j.record pi p f.record t
        ∧ t.slot i = some { d with discard := true } ∧ (t.bank l.bank).health = .failed ∧ t.lamps.exposure = none
        ∧ (∀ k y, s.slot k = some y → y.state = .valid → y.taker = .ladder → t.slot k = none)
        ∧ t.faults.raised = s.faults.raised ++ [⟨.bankFault, ⟨some (j.number, j.record.plateId), some (tile.row, tile.col),
            some (d.rung, d.attempt), some l.bank⟩⟩] ++ more)
    ∧ (∀ (r a : Nat) (reading : Sample), l.due = some (r, a) → (s.bank l.bank).health = .failed →
      (l.begun = true → s.mergingSlot .ladder = none →
        ∃ t, exec (.attemptStart reading) s = .next t ∧ Restarted false stale s l j.record pi p f.record t
          ∧ t.lamps = s.lamps ∧ t.faults = { s.faults with raised := s.faults.raised ++ more }
          ∧ (∀ k y, s.slot k = some y → y.state = .valid → y.taker = .ladder → t.slot k = none))
      ∧ (l.begun = false → l.rungList = [] → l.inFlight = [] →
        ∃ t m, exec (.attemptStart reading) s = .next t ∧ t.ladder = some m ∧ m.bank = BankId.other l.bank
          ∧ m.due = some (m.effFirst, 1) ∧ m.effLast = min j.record.lastRung (topRung f.record.eFlat)
          ∧ m.effFirst = min j.record.firstRung m.effLast ∧ m.restarts = l.restarts
          ∧ m.conds = (l.conds &&& 47#6) ||| (if stale = true then 16#6 else 0#6)
          ∧ StaleChecked s t (BankId.other l.bank) stale
          ∧ t.merge = s.merge ∧ t.stats = s.stats ∧ t.lamps = s.lamps
          ∧ t.faults = { s.faults with raised := s.faults.raised ++ more }))
    ∧ (∀ (i : SlotId) (d : Slot), s.fillingSlot = some i → s.slot i = some d → d.taker = .ladder → d.discard = false → d.deadline ≤ s.now →
      d.attempt < l.allowed → j.record.retryBank d.attempt = .alternate → l.policyUsed = false → s.faults.ahead = [] →
      (s.mergingSlot .ladder = none →
        ∃ t, exec .frameDeadline s = .next t ∧ Restarted true stale s l j.record pi p f.record t ∧ t.slot i = none ∧ t.lamps = s.lamps
          ∧ (∀ k y, s.slot k = some y → y.state = .valid → y.taker = .ladder → t.slot k = none)
          ∧ (∃ timeout : Raised, timeout.kind = .frameTimeout ∧ t.faults.raised = s.faults.raised ++ timeout :: more))
      ∧ (∀ (k : SlotId) (h : Flight), s.mergingSlot .ladder = some k → h ∈ l.inFlight → h.slot = k → h.state = .merging →
        ∃ t m, exec .frameDeadline s = .next t ∧ t.ladder = some m ∧ m.restartPending = some true ∧ m.due = none
          ∧ m.rungList = l.rungList ∧ m.restarts = l.restarts ∧ m.bank = l.bank ∧ t.slot i = none ∧ t.slot k = s.slot k
          ∧ t.merge = s.merge ∧ t.pass = s.pass ∧ t.lamps = s.lamps ∧ t.stats = s.stats))
    ∧ (∀ (policy : Bool) (k : SlotId) (d : Slot) (g : Flight), l.restartPending = some policy → s.mergingSlot .ladder = some k →
      s.slot k = some d → s.flightAt k = some g →
      ∃ t, exec .mergeEnd s = .next t ∧ Restarted policy stale s l j.record pi p f.record t ∧ t.slot k = none ∧ t.lamps = s.lamps
        ∧ t.faults = { s.faults with raised := s.faults.raised ++ more })

/-! ### Chapter 6: density conversion -/

/-- The converter's logarithm (R107): for x ≥ 1 with leading one at k and m = floor((x - 2^k) × 256 / 2^k), L(x) = 256 × k + c(m), where c(m)
is the integer nearest to 256 × log2(1 + m / 256), said here exactly by powers: 2 c(m) - 1 < 512 × log2(1 + m / 256) < 2 c(m) + 1. The
two inequalities are strict, so no m is a tie; c rises with m, by 2 at the most, from 0 to 255; L is 256 × k at a power of 2, and lies in
0..4863 for the x the converter meets, those below 2^19. -/
def Obligations.LogarithmIsTheNearestInteger : Prop :=
  (∀ x k m : Nat, 2 ^ k ≤ x → x < 2 ^ (k + 1) → m = (x - 2 ^ k) * 256 / 2 ^ k →
      m ≤ 255 ∧ ∃ c, logUnits x = 256 * k + c ∧ logTable.getD m 0 = c
        ∧ 2 ^ (2 * c) * 256 ^ 512 < 2 * (256 + m) ^ 512 ∧ (256 + m) ^ 512 < 2 ^ (2 * c + 1) * 256 ^ 512)
    ∧ (logTable.getD 0 0 = 0 ∧ logTable.getD 255 0 = 255
        ∧ ∀ m, m < 255 → logTable.getD m 0 ≤ logTable.getD (m + 1) 0 ∧ logTable.getD (m + 1) 0 ≤ logTable.getD m 0 + 2)
    ∧ (∀ k, logUnits (2 ^ k) = 256 * k)
    ∧ (∀ x, 1 ≤ x → x < 524288 → logUnits x ≤ 4863) ∧ logUnits 1 = 0 ∧ logUnits 524160 = 4863

/-- The class and code of each pixel of a row (R105, R106, R108, R109): DEFECT when clip-marked or F - Bf < L, with the code of the pixel to
its left whatever that pixel's class, and 0 in column 0; else OVER with 0, UNDER with 4095, or NORMAL with floor((Δ × 1204 + 512) / 1024), at
most 4095, where Δ = L(Fn) - L(N), a negative one taken as 0, N = S × 2^(7 - r) and Fn = (F - Bf) × 128. With L at least 1, S in L..4094, r at
most 7 and F at most 4095, N lies in 1..524,160 and Fn in L × 128..524,160. Row i of a conversion is such a row (R104): its pixel (i, j)
is the merge record (i, j) beside the flat value and the clip mark of the sensor pixel at line y0 + i and column x0 + j, with Bf the flat
record's reference mean and L the floor latched with the plane. The figures (R111, R112): a NORMAL pixel adds 1 to the normal count and to
the bin min(code div 100, 40), its code to the sum, and moves the minimum and the maximum to it where it lies beyond them; an OVER, UNDER or DEFECT
pixel adds 1 to its own count and nothing else. The pixels of a row are converted one after another: each word joins the row in the buffer and
the figures, its code becomes the last code, and with the row's last pixel the row is done and no last code stands (R101, R103; how many of them
a tick of the clock converts is left free, log 21). So over a list of words each count rises by the pixels of its class, the sum by the NORMAL
codes, each bin by the NORMAL codes it covers, and the bins together by the NORMAL pixels; and from none, the minimum and the maximum
are the least and the greatest NORMAL code. -/
def Obligations.PixelClassAndCodeFollowTheRow : Prop :=
  (∀ (bf l : Nat) (row : List (FlatPixel × MergeRec)),
    (convertRow bf l none row).length = row.length
      ∧ (∀ (x : Nat) (p : FlatPixel) (r : MergeRec), row[x]? = some (p, r) →
          ∃ out, (convertRow bf l none row)[x]? = some out
            ∧ (p.clip = true ∨ (p.f : Int) - bf < l → out.cls = .defect
                ∧ (x = 0 → out.code = 0)
                ∧ (∀ y left, x = y + 1 → (convertRow bf l none row)[y]? = some left → out.code = left.code))
            ∧ (p.clip = false → (l : Int) ≤ (p.f : Int) - bf →
                (r = .clipped → out = ⟨0, .overexp⟩)
                ∧ (r = .under → out = ⟨4095, .underexp⟩)
                ∧ (∀ rung sg, r = .valid rung sg → out.cls = .normal
                    ∧ ∀ delta : Int, delta = (logUnits ((p.f - bf) * 128) : Int) - logUnits (sg * 2 ^ (7 - rung)) →
                        (delta < 0 → out.code = 0)
                        ∧ (0 ≤ delta → (out.code : Int) = min 4095 ((delta * 1204 + 512) / 1024)))))
      ∧ (∀ out ∈ convertRow bf l none row, out.code ≤ 4095)
      ∧ (∀ f sg rung : Nat, 1 ≤ l → l ≤ sg → sg ≤ 4094 → rung ≤ 7 → f ≤ 4095 → bf + l ≤ f →
          1 ≤ scaledSignal rung sg ∧ scaledSignal rung sg ≤ 524160 ∧ l * 128 ≤ scaledFlat f bf ∧ scaledFlat f bf ≤ 524160))
    ∧ (∀ (d : FlatData) (c : Conversion) (recs : List (List MergeRec)) (i : Nat) (values : List Nat) (marks : List Bool)
        (records : List MergeRec), d.f[c.window.y0 + i]? = some values → d.clip[c.window.y0 + i]? = some marks →
      recs[i]? = some records → c.window.x0 + records.length ≤ values.length → c.window.x0 + records.length ≤ marks.length →
      ∃ row : List (FlatPixel × MergeRec), rowWords d c recs i = convertRow d.record.bf c.l none row ∧ row.length = records.length
        ∧ ∀ j < records.length, ∃ f clip r, values[c.window.x0 + j]? = some f ∧ marks[c.window.x0 + j]? = some clip
            ∧ records[j]? = some r ∧ row[j]? = some (⟨f, clip⟩, r))
    ∧ (∀ (s t : State) (c : Conversion) (p : Plane) (d : FlatData) (b : Buf) (before after : List PixOut) (word : PixOut),
      s.conv = some c → s.plane c.plane = some p → (s.flat c.bank).data = some d → s.buf c.buffer = some b →
      b.rows.getD c.rowsDone [] = before → rowWords d c p.recs c.rowsDone = before ++ word :: after →
      c.lastCode = before.getLast?.map (fun w => w.code) → t = convertNextPixel s →
      t.conv = some { c with
          figures := addPixel c.figures word
          rowsDone := if after = [] then c.rowsDone + 1 else c.rowsDone
          lastCode := if after = [] then none else some word.code }
        ∧ t.buf c.buffer = some { b with rows := b.rows.take c.rowsDone ++ [before ++ [word]] }
        ∧ (∀ k, k ≠ c.buffer → t.buf k = s.buf k)
        ∧ { t with conv := s.conv, out.t1 := s.out.t1, out.t2 := s.out.t2, out.t3 := s.out.t3, out.t4 := s.out.t4 } = s)
    ∧ (∀ (g : ConvFigures) (code : Nat),
      addPixel g ⟨code, .overexp⟩ = { g with nOver := g.nOver + 1 }
        ∧ addPixel g ⟨code, .underexp⟩ = { g with nUnder := g.nUnder + 1 }
        ∧ addPixel g ⟨code, .defect⟩ = { g with nDefect := g.nDefect + 1 }
        ∧ ∃ bins : List Nat, addPixel g ⟨code, .normal⟩ = { g with
            nNormal := g.nNormal + 1, sum := g.sum + code, bins := bins
            min := some (match g.min with | none => code | some m => if code < m then code else m)
            max := some (match g.max with | none => code | some m => if m < code then code else m) }
          ∧ bins.length = g.bins.length
          ∧ ∀ k n, g.bins[k]? = some n → bins[k]? = some (if k = min (code / 100) 40 then n + 1 else n))
    ∧ (∀ (words : List PixOut) (g t : ConvFigures) (normal : List PixOut), t = words.foldl addPixel g →
      normal = words.filter (fun p => decide (p.cls = .normal)) →
      t.nNormal = g.nNormal + normal.length
        ∧ t.nOver = g.nOver + words.countP (fun p => decide (p.cls = .overexp))
        ∧ t.nUnder = g.nUnder + words.countP (fun p => decide (p.cls = .underexp))
        ∧ t.nDefect = g.nDefect + words.countP (fun p => decide (p.cls = .defect))
        ∧ t.nNormal + t.nOver + t.nUnder + t.nDefect = g.nNormal + g.nOver + g.nUnder + g.nDefect + words.length
        ∧ t.sum = g.sum + (normal.map fun p => p.code).sum
        ∧ (∀ k n, g.bins[k]? = some n → t.bins[k]? = some (n + normal.countP fun p => decide (min (p.code / 100) 40 = k)))
        ∧ (g.bins.length = 41 → t.bins.length = 41 ∧ t.bins.sum = g.bins.sum + normal.length)
        ∧ (g.min = none → g.max = none → normal = [] → t.min = none ∧ t.max = none)
        ∧ (g.min = none → g.max = none → normal ≠ [] →
            ∃ low high, t.min = some low ∧ t.max = some high ∧ (∃ p ∈ normal, p.code = low) ∧ (∃ p ∈ normal, p.code = high)
              ∧ ∀ p ∈ normal, low ≤ p.code ∧ p.code ≤ high))

/-- The number of a tile buffer, T1 to T4 (R102). -/
def Sys2Proof.Machine.BufId.place : BufId → Nat
  | .t1 => 1
  | .t2 => 2
  | .t3 => 3
  | .t4 => 4

/-- CONVERTER_CLAIM takes, when IDLE, the FULL plane whose stamp lies farthest back and the FREE buffer with the lowest number (R96, R102).
CONVERSION_END converts what is left of the row in hand, from the last code on, and the rows still to do against the flat of the bank
recorded, so that each row of the buffer is whole (R104), and then (R111 to R115) the CAPTURED record, with its
conditions, attention and figures, is written with the next sequence; the buffer is READY with its label and the next stamp; the counters
and an OPEN histogram gain the tile; the plane is FREE; the handed-over count falls by 1; and the converter is IDLE. Under stop_on_attention a
record with attention sets pause pending in PREPARING, LOADING and WALKING, and in no other pass state (R41). In FINISHING, with the plate
RETURNED, or a mark set and the plate not ON_TABLE, the end that brings the count to 0 ends the job (R34, R35): its entry, with this record in its
counts, is filed, it leaves the queue, and the pass is IDLE. Four readings are the model's: what is still to do is converted at once, and
how far a conversion has come before its end, to the pixel, is left free (log 21); a CONVERTING buffer has no label and no stamp (log 61); the record has the bank's top rung by
R51, which R154's table does not name (log 63); and at the job's
end, with no fault of the job recorded before, at most one of the faults on their way is recorded first, which one, if any, being free
(EndsWithFirstFault, log 7). -/
def Obligations.ConversionClaimsConvertsAndRecords : Prop :=
  (∀ (s : State) (i : PlaneId) (p : Plane) (b : BufId) (st : Nat), s.conv = none → s.plane i = some p → p.state = .full →
      p.stamp = some st →
      (∀ k q, k ≠ i → s.plane k = some q → q.state = .full → ∃ st2, q.stamp = some st2
        ∧ ((s.merge.lastStamp : Int) - st2) % 4294967296 < ((s.merge.lastStamp : Int) - st) % 4294967296) →
      s.buf b = none → (∀ k, BufId.place k < BufId.place b → s.buf k ≠ none) →
      ∃ t, exec .converterClaim s = .next t
        ∧ t.plane i = some { p with state := .converting } ∧ (∀ k, k ≠ i → t.plane k = s.plane k)
        ∧ (t.buf b).map (fun x => (x.state, x.label, x.stamp, x.rows)) = some (BufState.converting, none, none, [])
        ∧ (∀ k, k ≠ b → t.buf k = s.buf k)
        ∧ (∃ c, t.conv = some c ∧ c.plane = i ∧ c.buffer = b ∧ c.owner = p.owner ∧ c.window = p.window ∧ c.l = p.l ∧ c.rowsDone = 0
            ∧ c.lastCode = none ∧ (∀ f, p.ladder = some f → c.bank = f.bank) ∧ c.figures.nNormal = 0 ∧ c.figures.nOver = 0 ∧ c.figures.nUnder = 0
            ∧ c.figures.nDefect = 0 ∧ c.figures.min = none ∧ c.figures.bins = List.replicate 41 0)
        ∧ t.pass = s.pass ∧ t.faults = s.faults ∧ t.stats = s.stats ∧ t.link = s.link)
    ∧ (∀ (s : State) (c : Conversion) (p : Plane) (fields : LadderFields) (d : FlatData) (b : Buf) (rows : List (List PixOut))
        (g : ConvFigures) (conds : Conds), s.conv = some c → s.plane c.plane = some p → p.ladder = some fields →
      (s.flat c.bank).data = some d → s.buf c.buffer = some b → c.rowsDone ≤ c.window.h → s.stats.counters.length = 16 →
      (∀ k ∈ s.stats.counters, k.value ≤ 4294967295) →
      rows = (List.range' c.rowsDone (c.window.h - c.rowsDone)).map (fun i =>
        if i = c.rowsDone then convertRow d.record.bf c.l c.lastCode ((rowPixels d c p.recs i).drop (b.rows.getD i []).length)
        else rowWords d c p.recs i) →
      g = rows.flatten.foldl addPixel c.figures →
      conds = (fields.conds ||| (if c.owner.record.overLimit * (c.window.w * c.window.h) < g.nOver * 1000 then 1#6 else 0#6)
        ||| (if c.owner.record.underLimit * (c.window.w * c.window.h) < g.nUnder * 1000 then 2#6 else 0#6)) →
      ∃ t r, exec .conversionEnd s = .next t
        ∧ t.out.newest = (s.out.newest + 1) % 4294967296 ∧ t.out.records.getLast? = some r
        ∧ r = { sequence := (s.out.newest + 1) % 4294967296, number := c.owner.number, plateId := c.owner.record.plateId
                row := c.owner.row, col := c.owner.col, ordinal := c.owner.ordinal, status := .captured
                attention := decide (conds &&& c.owner.record.attention ≠ 0#6), conds := some conds
                ladder := some { bank := fields.bank, effFirst := fields.effFirst, effLast := fields.effLast
                                 top := fields.top, rungList := fields.rungList, restarts := fields.restarts, extensions := fields.extensions
                                 cut := fields.cut }
                conv := some ⟨g.nNormal, g.nOver, g.nUnder, g.nDefect,
                  (if g.nNormal = 0 then none
                    else some (g.min.getD 0, g.max.getD 0, (g.sum + g.nNormal / 2) / g.nNormal)), c.window.w, c.window.h⟩
                started := c.owner.started, ended := s.time.count }
        ∧ t.buf c.buffer = some { b with
            state := .ready, stamp := some ((s.out.lastStamp + 1) % 4294967296)
            rows := (match rows with
              | [] => b.rows
              | first :: more => b.rows.take c.rowsDone ++ (b.rows.getD c.rowsDone [] ++ first) :: more)
            label := some ⟨c.owner.number, (s.out.newest + 1) % 4294967296, c.owner.row, c.owner.col, c.window.w, c.window.h⟩ }
        ∧ (∀ started rest : List PixOut, c.rowsDone < c.window.h → b.rows.getD c.rowsDone [] = started →
            rowWords d c p.recs c.rowsDone = started ++ rest → c.lastCode = started.getLast?.map (fun w => w.code) →
            rows = rest :: (List.range' (c.rowsDone + 1) (c.window.h - (c.rowsDone + 1))).map (rowWords d c p.recs))
        ∧ (∀ k, k ≠ c.buffer → t.buf k = s.buf k) ∧ t.plane c.plane = none ∧ (∀ k, k ≠ c.plane → t.plane k = s.plane k)
        ∧ t.conv = none
        ∧ (∀ k n, (k, n) ∈ [(CounterId.tilesCaptured, 1), (.tilesAttention, if r.attention then 1 else 0), (.pixelsOver, g.nOver),
              (.pixelsUnder, g.nUnder), (.pixelsDefect, g.nDefect)] →
            (t.counter k).value = min 4294967295 ((s.counter k).value + n))
        ∧ (s.stats.histState = .opened → t.stats.tilesAdded = s.stats.tilesAdded + 1
            ∧ t.stats.nUnder = min 4294967295 (s.stats.nUnder + g.nUnder)
            ∧ t.stats.bins = List.zipWith (fun x y => min 4294967295 (x + y)) s.stats.bins g.bins)
        ∧ (s.stats.histState ≠ .opened → t.stats.bins = s.stats.bins ∧ t.stats.tilesAdded = s.stats.tilesAdded)
        ∧ t.lamps = s.lamps ∧ t.intake = s.intake ∧ t.zones = s.zones ∧ t.ladder = s.ladder
        ∧ (∀ counts : RecordCounts,
          counts = { s.pass.counts with
            captured := s.pass.counts.captured + 1, attention := s.pass.counts.attention + (if r.attention then 1 else 0) } →
          (s.pass.tile ≠ none ∨ 2 ≤ s.pass.handedOver ∨ s.pass.plate = .onTable ∨ s.pass.state = .returning →
            t.pass = { s.pass with
              handedOver := s.pass.handedOver - 1, counts := counts
              pausePending := s.pass.pausePending || (r.attention && decide ((s.pass.job.map fun j => j.record.stopOnAttention) = some true
                ∧ s.pass.state ∈ [PassState.preparing, .loading, .walking])) }
            ∧ t.motion = s.motion ∧ t.faults = s.faults ∧ t.cal = s.cal ∧ t.queue = s.queue)
          ∧ (∀ j : JobInHand, s.pass.state = .finishing → s.pass.job = some j → s.pass.tile = none → s.pass.handedOver = 1 →
            (∀ o, s.motion.order = some o → o.requester ≠ .pass) →
            (s.pass.plate = .returned ∨ s.pass.plate ≠ .onTable ∧ s.pass.mark ≠ none) →
            ∃ e : HistoryEntry, t.queue.history.getLast? = some e ∧ e.number = j.number ∧ e.counts = counts
              ∧ EndsAs s.pass.mark counts e.outcome
              ∧ EndsWithFirstFault s.faults.jobMark s.faults.raised e.firstFault t.faults.raised
              ∧ t.queue.jobs = s.queue.jobs.filter (fun q => decide (q.number ≠ j.number))
              ∧ t.pass.state = .idle ∧ t.pass.job = none ∧ t.pass.handedOver = 0 ∧ t.faults.jobMark = none)))

/-! ### Chapter 7: calibration -/

/-- CALIBRATE by the checks of R120 in their order: BAD_FIELD 1, BUSY, HALTED, PLATE_PRESENT, BANK_FAILED; else taken, with E_flat held in
20..500,000 and the frames taken as the largest of 1, 2, 4, 8, 16 not above the value given, 0 as 1. The reply is ADJUSTED exactly when a
value was clamped. The calibration in progress latches the parameters and the bank's level (R121), and HOME, when positioner-unsure is set,
or MOVE to the latched point is issued, or waits for an order or STOP to end (R122, R134). A refusal changes nothing else. -/
def Obligations.CalibrateIsTakenOrRefusedInOrder : Prop :=
  ∀ (tag flags code frames : Byte) (e : Nat) (rest : List (List Byte)) (s : State) (b : BankId),
    AtHead 15 tag flags (code :: (leBytes 4 e ++ [frames])) rest s → e < 4294967296 →
    (2 ≤ code.toNat → exec .calibrate s = .next (s.answer rest 15 tag (.refused .badField 1 .empty)))
    ∧ ((code = 0#8 ∧ b = .a ∨ code = 1#8 ∧ b = .b) →
      ((s.pass.job ≠ none ∨ s.cal.cal ≠ none ∨ s.motion.homeRequest = true) →
        exec .calibrate s = .next (s.answer rest 15 tag (.refused .busy 0 .empty)))
      ∧ (s.pass.job = none → s.cal.cal = none → s.motion.homeRequest = false →
        (s.pass.state = .halted → exec .calibrate s = .next (s.answer rest 15 tag (.refused .halted 0 .empty)))
        ∧ (s.pass.state ≠ .halted → s.platePresent = true →
            exec .calibrate s = .next (s.answer rest 15 tag (.refused .platePresent 0 .empty)))
        ∧ (s.pass.state ≠ .halted → s.platePresent = false → (s.bank b).health = .failed →
            exec .calibrate s = .next (s.answer rest 15 tag (.refused .bankFailed 0 .empty)))
        ∧ (s.pass.state ≠ .halted → s.platePresent = false → (s.bank b).health = .ready →
          ∃ (t : State) (eFlat n : Nat) (clamps : List (Nat × Nat)) (w : Wanted), exec .calibrate s = .next t
            ∧ (20 ≤ eFlat ∧ eFlat ≤ 500000 ∧ (20 ≤ e → e ≤ 500000 → eFlat = e) ∧ (e < 20 → eFlat = 20) ∧ (500000 < e → eFlat = 500000))
            ∧ (n ∈ [1, 2, 4, 8, 16] ∧ (∀ k ∈ [1, 2, 4, 8, 16], k ≤ frames.toNat → k ≤ n) ∧ (1 ≤ frames.toNat → n ≤ frames.toNat)
                ∧ (frames = 0#8 → n = 1))
            ∧ clamps = (if eFlat = e then [] else [(2, eFlat)]) ++ (if n = frames.toNat then [] else [(3, n)])
            ∧ t.link = (s.answer rest 15 tag
                (if clamps = [] then .ok (.calibrating clamps b eFlat n (topRung eFlat) s.motion.unsure)
                  else .adjusted (.calibrating clamps b eFlat n (topRung eFlat) s.motion.unsure))).link
            ∧ t.cal.cal = some
                { phase := if s.motion.unsure then .homing else .positioning, bank := b, eFlat := eFlat, n := n
                  clipLevel := s.params.clipLevel, floor := s.params.signalFloor, calX := s.params.calX, calY := s.params.calY
                  driveLevel := s.level b, frameIndex := 1, attempt := 1, retakes := 0, takenIn := 0
                  sums := List.replicate 3072 (List.replicate 4096 0), marks := List.replicate 3072 (List.replicate 4096 false)
                  sumB := 0, sumM := 0, pendingM := none, failure := none, due := false }
            ∧ w = (if s.motion.unsure then ⟨.home, 0, 0, .calibration⟩ else ⟨.move, s.params.calX, s.params.calY, .calibration⟩)
            ∧ (s.motion.order = none → s.motion.stop = none →
                t.motion = { s.motion with
                  nextNumber := (s.motion.nextNumber + 1) % 256, position := none
                  order := some
                    { kind := w.kind, number := s.motion.nextNumber, arg1 := w.arg1, arg2 := w.arg2, requester := .calibration
                      limit := s.params.moveLimit, issuedAt := s.now, retried := false, awaitingReissue := false
                      savedPosition := s.motion.position }
                  sent := s.motion.sent ++ [motionRecord w.kind.code s.motion.nextNumber w.arg1 w.arg2] })
            ∧ (s.motion.order ≠ none ∨ s.motion.stop ≠ none → t.motion = { s.motion with waiting := some w })
            ∧ { t with link := s.link, cal.cal := s.cal.cal, motion := s.motion } = s)))

/-- CAL_ATTEMPT_START, with an attempt due, no failure, the frame before it settled and a slot FREE: with the plate-present line false and
the bank READY and dark, the slot is claimed with the whole sensor as its window and the bank lit for E_flat µs with purpose CALIBRATION; with
the line true the calibration fails PLATE_PRESENT, with the bank FAILED it fails BANK_FAULT, and, holding no slot, it ends at once with its
OPERATION-DONE (R72, R86, R123, R126, R127). Of two FREE slots S1 is taken (the model's choice, log 13). -/
def Obligations.CalibrationAttemptExposesOrFails : Prop :=
  ∀ (s : State) (c : Calibration) (reading : Sample), s.cal.cal = some c → c.due = true → c.failure = none →
    (∀ (i other : SlotId), s.platePresent = false → (s.bank c.bank).health = .ready → s.lamps.a.lit = false → s.lamps.b.lit = false →
      (i = .s1 ∧ other = .s2 ∧ s.slot .s1 = none ∨ i = .s2 ∧ other = .s1 ∧ s.slot .s1 ≠ none ∧ s.slot .s2 = none) →
      (∀ d, s.slot other = some d → d.state ≠ .filling) →
      ∃ t, exec (.calAttemptStart reading) s = .next t
        ∧ t.slot i = some
            { state := .filling, taker := .calibration, rung := 0, attempt := 0, discard := false, exposureEnd := s.now + c.eFlat
              deadline := s.now + c.eFlat + s.params.frameGrace * 1000, reception := .notStarted, lines := 0, shortSeen := false
              refSum := 0, clipped := 0, b := 0, window := ⟨0, 0, 4096, 3072⟩, c := c.clipLevel, pixels := [], m := 0 }
        ∧ t.slot other = s.slot other ∧ t.cal.cal = some { c with due := false }
        ∧ t.lamps.exposure = some ⟨c.bank, .calibration, c.eFlat, s.time.count, s.now, s.params.driftTol, reading.toNat, 1⟩
        ∧ t.lamps.line = some (s.now + c.eFlat) ∧ t.bank c.bank = { s.bank c.bank with lit := true }
        ∧ t.bank (BankId.other c.bank) = s.bank (BankId.other c.bank)
        ∧ { t with intake.s1 := s.intake.s1, intake.s2 := s.intake.s2, lamps := s.lamps, cal.cal := s.cal.cal } = s)
    ∧ (∀ why : CalFailure, s.slot .s1 = none → s.slot .s2 = none →
      (s.platePresent = true ∧ why = .platePresent
        ∨ s.platePresent = false ∧ (s.bank c.bank).health = .failed ∧ why = .bankFault) →
      exec (.calAttemptStart reading) s = .next
        { s with
          cal.cal := none
          link := s.link.posted (.calDone ⟨c.bank, c.eFlat, c.n, some why, c.takenIn, c.retakes, none, none, none, s.time.count⟩) })

/-- The fate of a calibration frame (R83, R88, R89, R90, R92, R124, R126, R127): a whole one waits VALID with its B and the pending M as its M, and below frame
n the first attempt of the next frame is due; a short one, or one that a new frame start breaks, raises FRAME_SHORT, and one whose deadline
has passed, in reception or not yet begun, FRAME_TIMEOUT, with the bank alone as context: the slot is freed, its M is discarded, and a retake is
due below attempt 3, while at attempt 3 the calibration fails FRAMES, naming the frame index, and ends once it holds no slot. A frame in
reception at its deadline goes on arriving and is discarded, uncounted. A marked frame of a calibration that has failed is settled without
being judged, and the calibration then ends, for the reason it was given, if it holds no other slot.
That pending M passes to the frame at its validation, and is absent from then on, is the model's reading (log 46). -/
def Obligations.CalibrationFramesAreKeptOrRetaken : Prop :=
  ∀ (s : State) (c : Calibration) (i other : SlotId) (d : Slot), s.cal.cal = some c → i ≠ other → s.slot i = some d →
    d.taker = .calibration →
    (c.failure = none → s.intake.rx = .receiving i → d.discard = false → d.lines = 3072 → d.shortSeen = false →
      ∃ t, exec .frameEnd s = .next t
        ∧ t.slot i = some { d with
            state := .valid, reception := .ended, b := min 1023 ((d.refSum + 24576) / 49152), m := c.pendingM.getD 0 }
        ∧ t.slot other = s.slot other ∧ t.intake.validOrder = s.intake.validOrder ++ [i]
        ∧ (c.frameIndex < c.n →
            t.cal.cal = some { c with pendingM := none, frameIndex := c.frameIndex + 1, attempt := 1, due := true })
        ∧ (c.n ≤ c.frameIndex → t.cal.cal = some { c with pendingM := none })
        ∧ t.faults = s.faults ∧ t.link = s.link ∧ t.pass = s.pass ∧ t.lamps = s.lamps)
    ∧ (∀ (cmd : Instr) (kind : FaultKind) (verdict : FrameVerdict), c.failure = none → d.discard = false → s.slot other = none →
      (cmd = .frameEnd ∧ kind = .frameShort ∧ verdict = .frameShort ∧ s.intake.rx = .receiving i ∧ (d.lines ≠ 3072 ∨ d.shortSeen = true)
        ∨ cmd = .frameStart ∧ kind = .frameShort ∧ verdict = .frameShort ∧ s.intake.rx = .receiving i
        ∨ cmd = .frameDeadline ∧ kind = .frameTimeout ∧ verdict = .frameTimeout ∧ s.fillingSlot = some i ∧ d.deadline ≤ s.now) →
      ∃ t, exec cmd s = .next t ∧ t.slot i = none ∧ t.slot other = none
        ∧ t.faults = { s.faults with raised := s.faults.raised ++ [⟨kind, ⟨none, none, none, some c.bank⟩⟩] }
        ∧ t.intake.last = some ⟨.calibration, none, d.lines, none, verdict, s.time.count⟩
        ∧ (cmd = .frameDeadline → t.intake.discarded = s.intake.discarded
            ∧ t.intake.rx = if s.intake.rx = .receiving i then .discarding else s.intake.rx)
        ∧ (c.attempt < 3 → t.link = s.link
            ∧ t.cal.cal = some { c with pendingM := none, attempt := c.attempt + 1, retakes := c.retakes + 1, due := true })
        ∧ (3 ≤ c.attempt → t.cal.cal = none ∧ t.link = s.link.posted
            (.calDone ⟨c.bank, c.eFlat, c.n, some .frames, c.takenIn, c.retakes, some c.frameIndex, none, none, s.time.count⟩))
        ∧ t.cal.flatA = s.cal.flatA ∧ t.cal.flatB = s.cal.flatB ∧ t.pass = s.pass ∧ t.lamps = s.lamps)
    ∧ (∀ (cmd : Instr) (why : CalFailure), c.failure = some why → d.discard = true → s.slot other = none →
      (cmd ∈ [.frameEnd, .frameStart] ∧ s.intake.rx = .receiving i
        ∨ cmd = .frameDeadline ∧ s.fillingSlot = some i ∧ d.deadline ≤ s.now) →
      ∃ t, exec cmd s = .next t ∧ t.slot i = none ∧ t.slot other = none
        ∧ t.intake.last = some ⟨.calibration, none, d.lines, none, .discarded, s.time.count⟩
        ∧ t.cal = { s.cal with cal := none }
        ∧ t.link = s.link.posted (.calDone ⟨c.bank, c.eFlat, c.n, some why, c.takenIn, c.retakes,
            if why = .frames then some c.frameIndex else none, none, none, s.time.count⟩)
        ∧ t.faults = s.faults ∧ t.pass = s.pass ∧ t.lamps = s.lamps)

/-- TAKE_IN_BEGIN and TAKE_IN_END (R119, R124, R125, R127). The frame validated first becomes MERGING; at the end of its taking in every sample
joins its pixel's sum and a sample at or above the latched clip level sets its mark, B and M join their sums, and the slot is FREE. After
the nth frame every sum is divided by n with halves upward: the calibration fails CLIPPED when marks × 1000 exceed 12,582,912, else DARK
when more than 6,291,456 pixels have F - Bf below the floor, both leaving the old flat, else the bank's flat is replaced whole, VALID, with
age 0. It ends with its OPERATION-DONE. -/
def Obligations.CalibrationTakesInAveragesAndJudges : Prop :=
  (∀ (s : State) (i : SlotId) (rest : List SlotId) (d : Slot), s.mergingSlot .calibration = none → s.intake.validOrder = i :: rest →
      s.slot i = some d → d.state = .valid → d.taker = .calibration →
      ∃ t, exec .takeInBegin s = .next t ∧ t.slot i = some { d with state := .merging }
        ∧ t.intake.validOrder = rest.filter (fun k => decide (k ≠ i)) ∧ t.cal = s.cal ∧ t.faults = s.faults ∧ t.pass = s.pass)
    ∧ (∀ (s : State) (c : Calibration) (i : SlotId) (d : Slot), s.cal.cal = some c → c.failure = none →
      s.mergingSlot .calibration = some i → s.slot i = some d →
      ∃ (t : State) (sums : List (List Nat)) (marks : List (List Bool)), exec .takeInEnd s = .next t ∧ t.slot i = none
        ∧ (∀ (y x v : Nat) (p : Sample), (c.sums.getD y [])[x]? = some v → (d.pixels.getD y [])[x]? = some p → (sums.getD y [])[x]? = some (v + p.toNat))
        ∧ (∀ (y x : Nat) (m : Bool) (p : Sample), (c.marks.getD y [])[x]? = some m → (d.pixels.getD y [])[x]? = some p →
            (marks.getD y [])[x]? = some (m || decide (c.clipLevel ≤ p.toNat)))
        ∧ (c.takenIn + 1 ≠ c.n → t.link = s.link ∧ t.cal = { s.cal with cal := some { c with
            sums := sums, marks := marks, sumB := c.sumB + d.b, sumM := c.sumM + d.m, takenIn := c.takenIn + 1 } })
        ∧ (c.takenIn + 1 = c.n →
          ∀ (avg : Nat → Nat) (marked bf mref dark : Nat), (∀ sum, avg sum = (sum + c.n / 2) / c.n) →
            marked = (marks.map fun row => row.countP fun m => m).sum → bf = avg (c.sumB + d.b) → mref = avg (c.sumM + d.m) →
            dark = (sums.map fun row => row.countP fun sum => decide ((avg sum : Int) - bf < c.floor)).sum →
            t.cal.cal = none
            ∧ (12582912 < marked * 1000 → t.cal = { s.cal with cal := none } ∧ t.link = s.link.posted (.calDone
                ⟨c.bank, c.eFlat, c.n, some .clipped, c.n, c.retakes, none, some (marked, dark), none, s.time.count⟩))
            ∧ (marked * 1000 ≤ 12582912 → 6291456 < dark →
                t.cal = { s.cal with cal := none } ∧ t.link = s.link.posted (.calDone
                ⟨c.bank, c.eFlat, c.n, some .dark, c.n, c.retakes, none, some (marked, dark), none, s.time.count⟩))
            ∧ (marked * 1000 ≤ 12582912 → dark ≤ 6291456 →
                t.flat c.bank = ⟨.valid, some
                  { f := sums.map fun row => row.map avg, clip := marks
                    record :=
                      { bank := c.bank, eFlat := c.eFlat, top := topRung c.eFlat, frames := c.n, retakes := c.retakes, bf := bf
                        mref := mref, driveLevel := c.driveLevel, clipLevel := c.clipLevel, floor := c.floor, clipMarked := marked
                        dark := dark, tag := s.time.count, age := 0 } }⟩
                ∧ t.flat (BankId.other c.bank) = s.flat (BankId.other c.bank)
                ∧ t.link = s.link.posted (.calDone
                  ⟨c.bank, c.eFlat, c.n, none, c.n, c.retakes, none, some (marked, dark), some (bf, mref, topRung c.eFlat),
                    s.time.count⟩)))
        ∧ t.pass = s.pass ∧ t.faults = s.faults ∧ t.lamps = s.lamps)

/-! ### Chapter 8: motion, handler and zones -/

/-- A report record of the motion line as it comes in whole, without a framing error (R201): a kind code and a number, the arguments 0. -/
def Sys2Proof.Machine.reportBytes (code number : Nat) : List RxByte := (motionRecord code number 0 0).map fun b => ⟨b, false⟩

/-- The context of a motion fault: its requester's (R122, R139). -/
def Sys2Proof.Machine.orderContext (s : State) : Requester → Ctx
  | .pass => ⟨s.pass.job.map fun j => (j.number, j.record.plateId), s.pass.tile.map fun t => (t.row, t.col), none, none⟩
  | .calibration => ⟨none, none, none, s.cal.cal.map fun c => c.bank⟩
  | .homeRequest => ⟨none, none, none, none⟩

/-- What the command `c` does at `s` when by it the outstanding order `o` fails with the kind `k`, no STOP outstanding: the motion fatal action
(R139), with what the requester makes of it (R44, R126, R141). `last` is the report kept as the last one by then. A calibration fails MOTION
and a HOME request ends MOTION. The pass's job, in PREPARING or LOADING with its plate NOT_LOADED, ends FAILED; with the plate ON_TABLE, in
WALKING or RETURNING, the plate is LEFT, the walk closed and a tile in MOVING recorded, and the pass is FINISHING, the job ending when no tile
of it is handed over. The order that waits is dropped with the one that failed, and a budget that is neither RUNNING nor SUSPENDED stays as
it is: the model's readings of R134 and R136 (log 33) and of R44 and R36 (log 36). That at most one fault on its way is recorded before the
job's end is the model's too (EndsWithFirstFault, log 7). Where the sender has let the FATAL fault of a pass's order be recorded and its
escalation be taken before the pass acts on it (log 68), the pass is HALTED from the state it was in, the one STOP serving for both, and
its action still comes: the same mark, plate, records and job end, the pass staying HALTED in place of FINISHING or IDLE (R45, R46). -/
def Sys2Proof.Machine.OrderFails (c : Instr) (s : State) (last : Option LastReport) (o : Order) (k : FaultKind) : Prop :=
  ∀ (motion : Motion), motion = { s.motion with
      nextNumber := (s.motion.nextNumber + 1) % 256, order := none, waiting := none, unsure := true, expect := .none, last := last
      stop := some ⟨s.motion.nextNumber, s.params.moveLimit, s.now, false⟩
      sent := s.motion.sent ++ [motionRecord 5 s.motion.nextNumber 0 0] } →
    (∀ cal : Calibration, o.requester = .calibration → s.cal.cal = some cal → cal.failure = none → s.slot .s1 = none → s.slot .s2 = none →
      ∃ t, exec c s = .next t ∧ t.cal.cal = none ∧ t.motion = motion
        ∧ t.faults = { s.faults with raised := s.faults.raised ++ [⟨k, orderContext s o.requester⟩] }
        ∧ t.link = s.link.posted
            (.calDone ⟨cal.bank, cal.eFlat, cal.n, some .motion, cal.takenIn, cal.retakes, none, none, none, s.time.count⟩)
        ∧ t.pass = s.pass ∧ t.lamps = s.lamps ∧ t.queue = s.queue)
    ∧ (o.requester = .homeRequest → s.motion.homeRequest = true →
      ∃ t, exec c s = .next t ∧ t.motion = { motion with homeRequest := false }
        ∧ t.faults = { s.faults with raised := s.faults.raised ++ [⟨k, ⟨none, none, none, none⟩⟩] }
        ∧ t.link = s.link.posted (.homeDone .motion (some k) true s.time.count)
        ∧ { t with motion := s.motion, faults := s.faults, link := s.link } = s)
    ∧ (∀ j : JobInHand, o.requester = .pass → s.pass.job = some j → s.faults.ahead = [] →
      (s.pass.state ∈ [PassState.preparing, .loading] → s.pass.tile = none → s.pass.handedOver = 0 → s.pass.plate = .notLoaded →
        ∃ (t : State) (e : HistoryEntry), exec c s = .next t
          ∧ t.queue.history.getLast? = some e ∧ e.number = j.number ∧ e.outcome = .failed
          ∧ EndsWithFirstFault s.faults.jobMark (s.faults.raised ++ [⟨k, orderContext s o.requester⟩]) e.firstFault t.faults.raised
          ∧ t.motion = motion ∧ t.pass.state = .idle ∧ t.pass.job = none)
      ∧ (∀ (total : Nat) (counts : RecordCounts), s.pass.state ∈ [PassState.walking, .returning] → s.pass.plate = .onTable →
        s.ladder = none → (∀ tile, s.pass.tile = some tile → tile.phase = .moving ∧ tile.plane = none) →
        total = j.record.rows * j.record.cols → s.pass.walkPos ≤ total →
        counts = { s.pass.counts with
          notCaptured := s.pass.counts.notCaptured + (total - s.pass.walkPos) + (if s.pass.tile = none then 0 else 1) } →
        (s.pass.handedOver ≠ 0 →
          ∃ t, exec c s = .next t
            ∧ t.pass = { s.pass with
                state := .finishing, plate := .left, mark := some .failed, step := .none, tile := none, walkPos := total
                settle := if s.pass.tile = none then s.pass.settle else none, counts := counts
                budget := { s.pass.budget with
                  state := if s.pass.budget.state ∈ [BudgetState.running, .suspended] then .stopped else s.pass.budget.state } }
            ∧ t.motion = motion
            ∧ t.faults = { s.faults with raised := s.faults.raised ++ [⟨k, orderContext s o.requester⟩] }
            ∧ t.lamps = { s.lamps with a.lit := false, b.lit := false, exposure := none }
            ∧ t.queue = s.queue ∧ t.merge = s.merge ∧ t.conv = s.conv ∧ t.cal = s.cal)
        ∧ (s.pass.handedOver = 0 →
          ∃ (t : State) (e : HistoryEntry), exec c s = .next t
            ∧ t.queue.history.getLast? = some e ∧ e.number = j.number ∧ e.outcome = .failed ∧ e.counts = counts
            ∧ EndsWithFirstFault s.faults.jobMark (s.faults.raised ++ [⟨k, orderContext s o.requester⟩]) e.firstFault t.faults.raised
            ∧ t.motion = motion ∧ t.pass.state = .idle ∧ t.pass.job = none ∧ t.pass.tile = none)))
    ∧ (∀ j : JobInHand, o.requester = .pass → s.pass.job = some j → EscalatesFirst s k →
      (s.pass.state ∈ [PassState.preparing, .loading] → s.pass.tile = none → s.pass.handedOver = 0 → s.pass.plate = .notLoaded →
        ∃ (t : State) (e : HistoryEntry), exec c s = .next t ∧ HaltedFirst s t k s.pass.state (some j.number) none
          ∧ t.queue.history.getLast? = some e ∧ e.number = j.number ∧ e.outcome = .failed
          ∧ e.firstFault = some (s.faults.jobMark.getD k) ∧ t.faults.raised = s.faults.raised
          ∧ t.motion = { motion with homeRequest := false } ∧ t.pass.job = none)
      ∧ (∀ (total : Nat) (counts : RecordCounts), s.pass.state ∈ [PassState.walking, .returning] → s.pass.plate = .onTable →
        s.ladder = none → (∀ tile, s.pass.tile = some tile → tile.phase = .moving ∧ tile.plane = none) →
        total = j.record.rows * j.record.cols → s.pass.walkPos ≤ total →
        counts = { s.pass.counts with
          notCaptured := s.pass.counts.notCaptured + (total - s.pass.walkPos) + (if s.pass.tile = none then 0 else 1) } →
        ∃ t, exec c s = .next t
          ∧ HaltedFirst s t k s.pass.state (some j.number) (s.pass.tile.map fun tile => (tile.row, tile.col))
          ∧ t.motion = { motion with homeRequest := false } ∧ t.faults.raised = s.faults.raised
          ∧ t.lamps = { s.lamps with a.lit := false, b.lit := false, exposure := none }
          ∧ (s.pass.handedOver ≠ 0 →
              t.pass = { s.pass with
                state := .halted, plate := .left, mark := some .failed, step := .none, tile := none, walkPos := total
                settle := if s.pass.tile = none then s.pass.settle else none, counts := counts
                pausePending := false, cancelPending := false, resumePoint := none
                budget := { s.pass.budget with
                  state := if s.pass.budget.state ∈ [BudgetState.running, .suspended] then .stopped else s.pass.budget.state } }
              ∧ t.queue = s.queue)
          ∧ (s.pass.handedOver = 0 →
              t.pass.job = none ∧ t.pass.tile = none
              ∧ ∃ e : HistoryEntry, t.queue.history.getLast? = some e ∧ e.number = j.number ∧ e.outcome = .failed ∧ e.counts = counts
                ∧ e.firstFault = some (s.faults.jobMark.getD k))))

/-- A report that R135's table discards: its number is that of neither the outstanding order nor the outstanding STOP; or it is STOPPED, or
EMPTY for an order that is no LOAD, with the order's number; or EMPTY with the STOP's. An order that awaits its reissue bears no number. -/
def Sys2Proof.Machine.MatchesNothing (s : State) (kind : ReportKind) (number : Nat) : Prop :=
  (∃ o, s.motion.order = some o ∧ o.awaitingReissue = false ∧ o.number = number
      ∧ (kind = .stopped ∨ kind = .empty ∧ o.kind ≠ .load))
    ∨ (∀ o, s.motion.order = some o → o.number ≠ number ∨ o.awaitingReissue = true)
      ∧ ((∀ st, s.motion.stop = some st → st.number ≠ number) ∨ kind = .empty)

/-- MOTION_REPORT (R122, R135, R137, R138, R141, R201), a whole record with none being assembled. A report bearing the outstanding order's number ends
it: a pass's MOVE DONE leaves the position at its target and its tile ready to claim a plane; a calibration's HOME DONE leads to its MOVE to
the latched point, and its MOVE DONE makes its first attempt due; a HOME request's DONE leaves the position (0, 0), positioner-unsure clear
and OPERATION-DONE posted; HALTED is POSITIONER_HALT and brings the motion fatal action, whoever the requester is. DONE, STOPPED or HALTED
bearing the STOP's number completes it, HALTED setting positioner-unsure, and brings the reissue that is pending (R137). A report that matches nothing, STOPPED for an order, EMPTY for an
order but a LOAD or for the STOP, and a record that the layout does not admit, adds 1 to discarded reports, to 65,535 at the most, and has no
other effect, but that the report is kept as the last one. That a tile whose MOVE is done stays in MOVING until PLANE_CLAIM, when a plane is
FREE, is the model's choice (log 12); at a HALTED the order that waits is dropped and an expired budget stays so (logs 33, 36), and where it
ends the job with no fault of it recorded before, at most one fault on its way is recorded first, which one, if any, being free
(EndsWithFirstFault, log 7); and where the sender has let its recording and its escalation come before the pass's action, that action comes
under HALTED (log 68). -/
def Obligations.ReportsAreMatchedByNumber : Prop :=
  ∀ (s : State) (number : Nat), s.motion.rxBytes = [] → s.motion.rxError = false → number < 256 →
    (∀ (o : Order) (tile : Tile), s.motion.order = some o → o.awaitingReissue = false → o.number = number → o.kind = .move →
      o.requester = .pass → s.pass.state = .walking → s.pass.tile = some tile → s.pass.settle = none →
      exec (.motionReport (reportBytes 17 number)) s = .next
        { s with
          motion.order := none, motion.position := some (o.arg1, o.arg2)
          motion.last := some ⟨.done, number, s.time.count, true⟩
          pass.tile := some { tile with
            phase := if s.merge.p1 ≠ none ∧ s.merge.p2 ≠ none then .waitPlane else .moving, moveDone := true } })
    ∧ (∀ (o : Order) (c : Calibration), s.motion.order = some o → o.awaitingReissue = false → o.number = number →
      o.requester = .calibration → s.cal.cal = some c →
      (o.kind = .home → c.phase = .homing → s.motion.stop = none →
        exec (.motionReport (reportBytes 17 number)) s = .next
          { s with
            cal.cal := some { c with phase := .positioning }
            motion := { s.motion with
              last := some ⟨.done, number, s.time.count, true⟩, unsure := false, position := none
              nextNumber := (s.motion.nextNumber + 1) % 256
              order := some
                { kind := .move, number := s.motion.nextNumber, arg1 := c.calX, arg2 := c.calY, requester := .calibration
                  limit := s.params.moveLimit, issuedAt := s.now, retried := false, awaitingReissue := false
                  savedPosition := some (0, 0) }
              sent := s.motion.sent ++ [motionRecord 1 s.motion.nextNumber c.calX c.calY] } })
      ∧ (o.kind = .move → c.phase = .positioning →
        exec (.motionReport (reportBytes 17 number)) s = .next
          { s with
            cal.cal := some { c with phase := .capturing, due := true }
            motion.order := none, motion.position := some (o.arg1, o.arg2)
            motion.last := some ⟨.done, number, s.time.count, true⟩ }))
    ∧ (∀ o : Order, s.motion.order = some o → o.awaitingReissue = false → o.number = number → o.kind = .home →
      o.requester = .homeRequest → s.motion.homeRequest = true →
      exec (.motionReport (reportBytes 17 number)) s = .next
        { s with
          motion.order := none, motion.position := some (0, 0), motion.unsure := false, motion.homeRequest := false
          motion.last := some ⟨.done, number, s.time.count, true⟩
          link := s.link.posted (.homeDone .success none false s.time.count) })
    ∧ (∀ o : Order, s.motion.order = some o → o.awaitingReissue = false → o.number = number → s.motion.stop = none →
      OrderFails (.motionReport (reportBytes 19 number)) s (some ⟨.halted, number, s.time.count, true⟩) o .positionerHalt)
    ∧ (∀ (st : StopOrder) (code : Nat) (kind : ReportKind), s.motion.order = none → s.motion.stop = some st → st.number = number →
      (code, kind) ∈ [(17, ReportKind.done), (19, .halted), (20, .stopped)] →
      exec (.motionReport (reportBytes code number)) s = .next
        { s with
          motion.stop := none, motion.last := some ⟨kind, number, s.time.count, true⟩
          motion.unsure := s.motion.unsure || decide (kind = .halted) })
    ∧ (∀ (st : StopOrder) (o : Order) (code : Nat) (kind : ReportKind), s.motion.stop = some st → st.number = number →
      st.reissue = true → s.motion.order = some o → o.awaitingReissue = true → o.kind = .move ∨ o.kind = .home →
      (code, kind) ∈ [(17, ReportKind.done), (19, .halted), (20, .stopped)] →
      exec (.motionReport (reportBytes code number)) s = .next
        { s with
          motion := { s.motion with
            stop := none, last := some ⟨kind, number, s.time.count, true⟩
            unsure := s.motion.unsure || decide (kind = .halted), nextNumber := (s.motion.nextNumber + 1) % 256, position := none
            order := some { o with
              number := s.motion.nextNumber, limit := s.params.moveLimit, issuedAt := s.now, retried := true
              awaitingReissue := false, savedPosition := s.motion.position }
            sent := s.motion.sent ++ [motionRecord o.kind.code s.motion.nextNumber o.arg1 o.arg2] } })
    ∧ (∀ (code : Nat) (kind : ReportKind), (code, kind) ∈ [(17, ReportKind.done), (18, .empty), (19, .halted), (20, .stopped)] →
      MatchesNothing s kind number →
      exec (.motionReport (reportBytes code number)) s = .next
        { s with
          motion.discarded := min 65535 (s.motion.discarded + 1), motion.last := some ⟨kind, number, s.time.count, false⟩ })
    ∧ (∀ rx : List RxByte, rx.length = 10 → (rx.map RxByte.byte)[0]? = some 197#8 →
      ((∃ b ∈ rx, b.framingError = true) ∨ (rx.map RxByte.byte).getD 1 0#8 ∉ [17#8, 18#8, 19#8, 20#8]
        ∨ ((rx.map RxByte.byte).getD 9 0#8).toNat
            ≠ ((((rx.map RxByte.byte).drop 1).take 8).map BitVec.toNat).sum % 256) →
      exec (.motionReport rx) s = .next { s with motion.discarded := min 65535 (s.motion.discarded + 1) })

/-- What the pass does at the ends of its handler orders (R14, R16, R26, R28, R33, R34, R35, R42, R44, R129, R142, R168, R170). LOAD DONE with the
line true leaves the plate ON_TABLE and the line expected PRESENT, and is the first boundary: with a pause pending the pass is PAUSED at once;
with none, an undecided tile, no mark and no zone that answers, that tile is taken into hand with its MOVE; with a mark, or a cancel pending,
the walk is closed, every tile NOT_CAPTURED, and the plate returned, a cancel pending being cleared and overtaking a pause pending (the
model's reading, log 29). LOAD DONE with the line false and RETURN DONE with the line true raise PLATE_SENSE, send STOP, darken the lamp and
mark the job FAILED: after the LOAD it ends, its plate NOT_LOADED; after the RETURN the plate is LEFT and the pass FINISHING, the job ending
when no tile of it is handed over. RETURN DONE with the line false leaves the plate RETURNED: with a tile still handed over the pass is
FINISHING, the job stays ACTIVE with its mark and its counts, and nothing else changes; with no tile in hand and none handed over,
the job ends: its entry is filed, it leaves the queue, and the pass is IDLE with its fields cleared. LOAD EMPTY raises SLOT_EMPTY and ends the
job, a mark already set standing. Where no fault of the job was recorded and some are still on their way, at most one of them is recorded before
the end (EndsWithFirstFault), the model's choice, and which, if any, is left free (log 7). Where the sender has let a FATAL PLATE_SENSE or
SLOT_EMPTY be recorded and its escalation be taken before the pass acts on it, the pass is HALTED from LOADING or RETURNING, the one STOP
serving for both, and the same mark, plate, records and job end follow under HALTED (R45, R46, R177; the model's, log 68). -/
def Obligations.HandlerReportsLoadPauseAndEndTheJob : Prop :=
  ∀ (s : State) (o : Order) (j : JobInHand) (total : Nat) (last : Option LastReport) (closed : RecordCounts), s.motion.rxBytes = [] →
    s.motion.rxError = false → s.motion.order = some o → o.number < 256 → o.awaitingReissue = false → o.requester = .pass →
    s.pass.job = some j → s.pass.tile = none → total = j.record.rows * j.record.cols → s.pass.walkPos ≤ total →
    last = some ⟨.done, o.number, s.time.count, true⟩ →
    closed = { s.pass.counts with notCaptured := s.pass.counts.notCaptured + (total - s.pass.walkPos) } →
    (o.kind = .load → s.pass.state = .loading → s.platePresent = true → s.pass.cancelPending = false → s.pass.pausePending = true →
      s.pass.mark = none → s.pass.walkPos < total →
      exec (.motionReport (reportBytes 17 o.number)) s = .next
        { s with
          motion.order := none, motion.position := o.savedPosition, motion.expect := .present, motion.last := last
          pass.plate := .onTable, pass.step := .none, pass.state := .paused, pass.pausePending := false
          pass.resumePoint := some .nextTile
          pass.budget.state := if s.pass.budget.state = .running then .suspended else s.pass.budget.state })
    ∧ (∀ row col : Nat, o.kind = .load → s.pass.state = .loading → s.platePresent = true → s.pass.cancelPending = false →
      s.pass.pausePending = false → s.pass.mark = none → s.pass.walkPos < total → (row, col) = j.record.cell s.pass.walkPos →
      zoneAnswer s.zones j.record row col = .none → s.motion.stop = none →
      exec (.motionReport (reportBytes 17 o.number)) s = .next
        { s with
          pass := { s.pass with
            plate := .onTable, step := .none, state := .walking, walkPos := s.pass.walkPos + 1
            tile := some ⟨row, col, s.pass.walkPos, .moving, s.time.count, false, none⟩ }
          motion := { s.motion with
            expect := .present, last := last, nextNumber := (s.motion.nextNumber + 1) % 256, position := none
            order := some
              { kind := .move, number := s.motion.nextNumber, arg1 := j.record.originX + col * j.record.stepX + j.record.fieldX / 2
                arg2 := j.record.originY + row * j.record.stepY + j.record.fieldY / 2, requester := .pass, limit := s.params.moveLimit
                issuedAt := s.now, retried := false, awaitingReissue := false, savedPosition := o.savedPosition }
            sent := s.motion.sent ++ [motionRecord 1 s.motion.nextNumber (j.record.originX + col * j.record.stepX + j.record.fieldX / 2)
              (j.record.originY + row * j.record.stepY + j.record.fieldY / 2)] } })
    ∧ (o.kind = .load → s.pass.state = .loading → s.platePresent = true → s.motion.stop = none →
      (s.pass.cancelPending = true ∨ s.pass.pausePending = false ∧ s.pass.mark ≠ none) →
      ∃ t, exec (.motionReport (reportBytes 17 o.number)) s = .next t ∧ t.pass.state = .returning ∧ t.pass.plate = .onTable
        ∧ t.pass.cancelPending = false ∧ t.pass.mark = s.pass.mark ∧ t.pass.tile = none ∧ t.pass.walkPos = total ∧ t.pass.counts = closed
        ∧ t.motion.expect = .present ∧ t.motion.last = last
        ∧ (t.motion.order.map fun o => (o.kind, o.arg1, o.arg2)) = some (if s.motion.unsure then .home else .move, 0, 0)
        ∧ t.queue = s.queue ∧ t.faults = s.faults ∧ t.lamps = s.lamps ∧ t.merge = s.merge)
    ∧ (∀ ctx : Ctx, ctx = ⟨some (j.number, j.record.plateId), none, none, none⟩ → s.motion.stop = none → s.faults.ahead = [] →
      (o.kind = .load ∧ s.pass.state = .loading ∧ s.platePresent = false ∧ s.pass.plate = .notLoaded ∧ s.pass.handedOver = 0
          ∨ o.kind = .ret ∧ s.pass.state = .returning ∧ s.pass.step = .handling ∧ s.platePresent = true ∧ s.pass.plate = .onTable
            ∧ s.ladder = none) →
      ∃ t, exec (.motionReport (reportBytes 17 o.number)) s = .next t
        ∧ t.motion.order = none ∧ t.motion.expect = .none ∧ t.motion.last = last ∧ t.motion.position = o.savedPosition
        ∧ t.motion.unsure = s.motion.unsure ∧ t.motion.stop = some ⟨s.motion.nextNumber, s.params.moveLimit, s.now, false⟩
        ∧ t.motion.sent = s.motion.sent ++ [motionRecord 5 s.motion.nextNumber 0 0]
        ∧ t.lamps = { s.lamps with a.lit := false, b.lit := false, exposure := none }
        ∧ (s.pass.handedOver = 0 → ∃ e : HistoryEntry, t.queue.history.getLast? = some e ∧ e.number = j.number ∧ e.outcome = .failed
            ∧ e.counts = (if o.kind = .load then s.pass.counts else closed)
            ∧ EndsWithFirstFault s.faults.jobMark (s.faults.raised ++ [⟨.plateSense, ctx⟩]) e.firstFault t.faults.raised
            ∧ t.pass.state = .idle ∧ t.pass.job = none ∧ t.pass.plate = .notLoaded)
        ∧ (s.pass.handedOver ≠ 0 → t.pass.state = .finishing ∧ t.pass.job = some j ∧ t.pass.plate = .left ∧ t.pass.mark = some .failed
            ∧ t.pass.walkPos = total ∧ t.pass.counts = closed ∧ t.queue = s.queue
            ∧ t.faults = { s.faults with raised := s.faults.raised ++ [⟨.plateSense, ctx⟩] }))
    ∧ (s.motion.stop = none → EscalatesFirst s .plateSense →
      (o.kind = .load ∧ s.pass.state = .loading ∧ s.platePresent = false ∧ s.pass.plate = .notLoaded ∧ s.pass.handedOver = 0
          ∨ o.kind = .ret ∧ s.pass.state = .returning ∧ s.pass.step = .handling ∧ s.platePresent = true ∧ s.pass.plate = .onTable
            ∧ s.ladder = none) →
      ∃ t, exec (.motionReport (reportBytes 17 o.number)) s = .next t
        ∧ HaltedFirst s t .plateSense s.pass.state (some j.number) none
        ∧ t.motion.expect = .none ∧ t.motion.last = last ∧ t.motion.position = o.savedPosition
        ∧ t.motion.unsure = s.motion.unsure ∧ t.motion.stop = some ⟨s.motion.nextNumber, s.params.moveLimit, s.now, false⟩
        ∧ t.motion.sent = s.motion.sent ++ [motionRecord 5 s.motion.nextNumber 0 0]
        ∧ t.lamps = { s.lamps with a.lit := false, b.lit := false, exposure := none } ∧ t.faults.raised = s.faults.raised
        ∧ (s.pass.handedOver = 0 → t.pass.job = none
            ∧ ∃ e : HistoryEntry, t.queue.history.getLast? = some e ∧ e.number = j.number ∧ e.outcome = .failed
              ∧ e.counts = (if o.kind = .load then s.pass.counts else closed)
              ∧ e.firstFault = some (s.faults.jobMark.getD .plateSense))
        ∧ (s.pass.handedOver ≠ 0 → t.pass.job = some j ∧ t.pass.plate = .left ∧ t.pass.mark = some .failed
            ∧ t.pass.walkPos = total ∧ t.pass.counts = closed ∧ t.queue = s.queue))
    ∧ (o.kind = .ret → s.pass.state = .returning → s.pass.step = .handling → s.platePresent = false → s.pass.handedOver ≠ 0 →
      exec (.motionReport (reportBytes 17 o.number)) s = .next
        { s with
          motion.order := none, motion.position := o.savedPosition, motion.last := last
          pass.plate := .returned, pass.state := .finishing, pass.step := .none })
    ∧ (o.kind = .ret → s.pass.state = .returning → s.pass.step = .handling → s.platePresent = false → s.pass.handedOver = 0 →
      ∃ (t : State) (e : HistoryEntry) (first : Option FaultKind) (outcome : JobOutcome),
        exec (.motionReport (reportBytes 17 o.number)) s = .next t
        ∧ e = { number := j.number, plateId := j.record.plateId, slot := j.record.slot, outcome := outcome
                counts := s.pass.counts, banksUsed := s.pass.banksUsed, stale := s.pass.stale, started := some j.started
                ended := s.time.count, firstFault := first }
        ∧ EndsAs s.pass.mark s.pass.counts outcome
        ∧ EndsWithFirstFault s.faults.jobMark s.faults.raised first t.faults.raised
        ∧ t.queue.history = (if s.queue.history.length < 8 then s.queue.history else s.queue.history.drop 1) ++ [e]
        ∧ t.queue.jobs = s.queue.jobs.filter (fun q => decide (q.number ≠ j.number))
        ∧ t.queue.run = (if s.queue.run = .running then .running else .stopped)
        ∧ (s.link.notices.length ≤ 30 → .plateDone e ∈ t.link.notices.map QueuedNotice.notice)
        ∧ (32 ≤ s.link.notices.length → t.link = { s.link with dropped := true })
        ∧ t.pass.state = .idle ∧ t.pass.job = none ∧ t.pass.plate = .notLoaded ∧ t.pass.bank = none ∧ t.pass.mark = none
        ∧ t.pass.budget.state = .absent ∧ t.pass.handedOver = 0 ∧ t.pass.resumePoint = none ∧ t.pass.pausePending = false
        ∧ t.motion.order = none ∧ t.motion.expect = .none ∧ t.motion.position = o.savedPosition ∧ t.faults.jobMark = none
        ∧ t.cal.staleSet = ⟨false, false⟩ ∧ t.cal.raisedSet = ⟨false, false⟩
        ∧ (∀ (b : BankId) (f : FlatData), (s.flat b).data = some f →
            (t.flat b).data = some { f with record := { f.record with
              age := if s.pass.banksUsed.has b then min 65535 (f.record.age + 1) else f.record.age } })
        ∧ (s.pass.loadIssued = true → s.stats.histState = .opened → t.stats.histState = .frozen ∧ t.stats.bins = s.stats.bins)
        ∧ t.lamps = s.lamps ∧ t.out = s.out ∧ t.zones = s.zones ∧ t.params = s.params ∧ t.time = s.time)
    ∧ (o.kind = .load → s.pass.state = .loading → s.pass.handedOver = 0 → s.pass.plate = .notLoaded →
      EscalatesFirst s .slotEmpty →
      ∃ (t : State) (e : HistoryEntry), exec (.motionReport (reportBytes 18 o.number)) s = .next t
        ∧ HaltedFirst s t .slotEmpty .loading (some j.number) none
        ∧ t.queue.history.getLast? = some e ∧ e.number = j.number
        ∧ EndsAs (some (s.pass.mark.getD .slotEmpty)) s.pass.counts e.outcome
        ∧ e.firstFault = some (s.faults.jobMark.getD .slotEmpty) ∧ t.faults.raised = s.faults.raised
        ∧ t.pass.job = none ∧ t.motion.position = o.savedPosition)
    ∧ (o.kind = .load → s.pass.state = .loading → s.pass.handedOver = 0 → s.pass.plate = .notLoaded → s.faults.ahead = [] →
      ∃ (t : State) (e : HistoryEntry), exec (.motionReport (reportBytes 18 o.number)) s = .next t
        ∧ t.queue.history.getLast? = some e ∧ e.number = j.number
        ∧ EndsAs (some (s.pass.mark.getD .slotEmpty)) s.pass.counts e.outcome
        ∧ EndsWithFirstFault s.faults.jobMark
            (s.faults.raised ++ [⟨.slotEmpty, ⟨some (j.number, j.record.plateId), none, none, none⟩⟩]) e.firstFault t.faults.raised
        ∧ t.pass.state = .idle ∧ t.pass.job = none ∧ t.motion.order = none ∧ t.motion.position = o.savedPosition)

/-- The expiry by which an order ends FAILED, and the kind it raises (R137, R138): a MOVE or HOME at its second, a LOAD or RETURN at its
first. -/
def Sys2Proof.Machine.FailsAtLimit (o : Order) (c : Instr) (k : FaultKind) : Prop :=
  c = .moveLimitExpiry ∧ k = .moveTimeout ∧ (o.kind = .move ∨ o.kind = .home) ∧ o.retried = true
    ∨ c = .handlerLimitExpiry ∧ k = .handlerTimeout ∧ (o.kind = .load ∨ o.kind = .ret)

/-- The limits of orders and of STOP (R36, R44, R134, R136 to R139). The first timeout of a MOVE or HOME raises MOVE_RETRY, adds to
MOVE_RETRIES and sends STOP with reissue pending, the order keeping its place; a STOP that runs out completes, sets positioner-unsure and
brings the reissue, with a new number and the limit latched afresh. A STOP that runs out with no order outstanding or no reissue pending, as
after a halt, a fatal action or a soft reset, completes and sets positioner-unsure, and nothing else changes: an order that waits is issued at
ORDER_ISSUE. A second timeout is MOVE_TIMEOUT, and the timeout of a LOAD or RETURN
HANDLER_TIMEOUT, at once: STOP is sent, positioner-unsure set, the expectation NONE, and the requester told: a HOME request ends MOTION, a
calibration fails MOTION, and the pass's job is FAILED. In PREPARING and LOADING it ends. With the plate ON_TABLE, in WALKING or RETURNING,
the plate is LEFT, the walk closed, a tile in MOVING gets its NOT_CAPTURED record, and the pass is FINISHING, the job ending when no tile of
it is handed over (R44). Before its limit no order and no STOP times out. Four readings are the model's: a MOVE_RETRY on a calibration's
order has the bank as its context and one on a HOME request's no field, as R139 has it for the fatal kinds (log 69); at such a failure a budget that is
neither RUNNING nor SUSPENDED, an EXPIRED one among them, stays as it is, where R44 says that the budget becomes STOPPED (log 36); the
order that waits is dropped with the one that failed (log 33); and at the job's end it may bring, with no fault of the job recorded before, at
most one of the faults on their way is recorded first, which one, if any, being free (EndsWithFirstFault, log 7). Where the sender has let a
FATAL fault of the pass's order be recorded and its escalation be taken before the pass acts, the same follows under HALTED (log 68). -/
def Obligations.LimitsRetryAMoveOnceAndThenFail : Prop :=
  (∀ (s : State) (o : Order), s.motion.order = some o →
    (s.now < o.issuedAt + o.limit * 1000000 →
      exec .moveLimitExpiry s = .next s ∧ exec .handlerLimitExpiry s = .next s)
    ∧ (o.awaitingReissue = false → o.issuedAt + o.limit * 1000000 ≤ s.now → s.motion.stop = none →
      (o.kind = .move ∨ o.kind = .home → o.retried = false → s.stats.counters.length = 16 →
        ∃ t, exec .moveLimitExpiry s = .next t
          ∧ t.motion = { s.motion with
              nextNumber := (s.motion.nextNumber + 1) % 256, order := some { o with awaitingReissue := true }
              stop := some ⟨s.motion.nextNumber, s.params.moveLimit, s.now, true⟩
              sent := s.motion.sent ++ [motionRecord 5 s.motion.nextNumber 0 0] }
          ∧ t.faults = { s.faults with raised := s.faults.raised ++ [⟨.moveRetry, orderContext s o.requester⟩] }
          ∧ (t.counter .moveRetries).value = min 4294967295 ((s.counter .moveRetries).value + 1)
          ∧ { t with motion := s.motion, faults := s.faults, stats := s.stats, link := s.link } = s)
      ∧ (∀ (c : Instr) (k : FaultKind), FailsAtLimit o c k → OrderFails c s s.motion.last o k))
    ∧ (∀ st : StopOrder, s.motion.stop = some st →
      (s.now < st.issuedAt + st.limit * 1000000 → exec .stopLimitExpiry s = .next s)
      ∧ (st.issuedAt + st.limit * 1000000 ≤ s.now → st.reissue = true → o.kind = .move ∨ o.kind = .home →
        exec .stopLimitExpiry s = .next
          { s with motion := { s.motion with
              nextNumber := (s.motion.nextNumber + 1) % 256, stop := none, unsure := true, position := none
              order := some { o with
                number := s.motion.nextNumber, limit := s.params.moveLimit, issuedAt := s.now, retried := true
                awaitingReissue := false, savedPosition := s.motion.position }
              sent := s.motion.sent ++ [motionRecord o.kind.code s.motion.nextNumber o.arg1 o.arg2] } })))
    ∧ (∀ s : State, s.motion.order = none → exec .moveLimitExpiry s = .next s ∧ exec .handlerLimitExpiry s = .next s)
    ∧ (∀ s : State, s.motion.stop = none → exec .stopLimitExpiry s = .next s)
    ∧ (∀ (s : State) (st : StopOrder), s.motion.stop = some st →
      (s.now < st.issuedAt + st.limit * 1000000 → exec .stopLimitExpiry s = .next s)
      ∧ (st.issuedAt + st.limit * 1000000 ≤ s.now → s.motion.order = none ∨ st.reissue = false →
        exec .stopLimitExpiry s = .next { s with motion.stop := none, motion.unsure := true }))

/-- Orders, HOME and the plate-present line (R22 to R26, R33, R36, R42, R134, R141 to R143, R166). An order that waits is issued when no order and
no STOP is outstanding, with the next number and its limit latched, and so is the first order of a RETURNING that waits; while either is
outstanding nothing is issued. The pass's orders follow one another at their DONE: in PREPARING the MOVE brings LOADING and its LOAD, load
issued becoming yes, a WAITING budget RUNNING and the histogram the job's, OPEN and empty; the HOME clears positioner-unsure and brings the
check of the line, which, true, ends the job FAILED with the run state STOPPED; and with a mark set meanwhile the job ends. In RETURNING the
HOME brings the MOVE to (0, 0), and the MOVE the RETURN, a budget that runs becoming STOPPED and the line expectation NONE.
HOME is refused BUSY, then HALTED, else taken, whether or not positioner-unsure is set; that BUSY comes before HALTED where both hold is the
model's choice, R141 giving the two no order (log 72). A change of the line is taken as it is; a fall
while the plate is expected raises PLATE_SENSE, darkens the lamp, sends STOP and makes the plate LEFT and its job FAILED. At the two job ends,
TABLE_OCCUPIED after HOME and the end with a mark in PREPARING, with no fault of the job recorded before, at most one fault on its way is
recorded first (EndsWithFirstFault): the model's choice, which leaves free which one, if any (log 7). Where the sender has let TABLE_OCCUPIED or
a FATAL PLATE_SENSE be recorded, and the escalation be taken, before the pass acts on it, the same action follows under HALTED (R45, R46,
R177; the model's, log 68). -/
def Obligations.OrdersWaitTheirTurnAndThePlateIsWatched : Prop :=
  ∀ s : State,
    (s.motion.order ≠ none ∨ s.motion.stop ≠ none → exec .orderIssue s = .next s)
    ∧ (∀ w : Wanted, s.motion.order = none → s.motion.stop = none → s.motion.waiting = some w → w.kind = .move ∨ w.kind = .home →
      exec .orderIssue s = .next
        { s with motion := { s.motion with
            nextNumber := (s.motion.nextNumber + 1) % 256, waiting := none, position := none
            order := some
              { kind := w.kind, number := s.motion.nextNumber, arg1 := w.arg1, arg2 := w.arg2, requester := w.requester
                limit := s.params.moveLimit, issuedAt := s.now, retried := false, awaitingReissue := false
                savedPosition := s.motion.position }
            sent := s.motion.sent ++ [motionRecord w.kind.code s.motion.nextNumber w.arg1 w.arg2] } })
    ∧ (s.motion.order = none → s.motion.stop = none → s.motion.waiting = none → s.pass.state = .returning → s.pass.step = .waiting →
      ∃ (t : State) (o : Order), exec .orderIssue s = .next t ∧ t.motion.order = some o ∧ o.requester = .pass ∧ o.arg1 = 0 ∧ o.arg2 = 0
        ∧ o.kind = (if s.motion.unsure then .home else .move) ∧ o.limit = s.params.moveLimit ∧ o.number = s.motion.nextNumber
        ∧ t.pass = { s.pass with step := if s.motion.unsure then .homing else .moving })
    ∧ (∀ (o : Order) (j : JobInHand) (last : Option LastReport) (issued : OrderKind → Nat → Nat → Option (Nat × Nat) → Motion),
      s.motion.rxBytes = [] → s.motion.rxError = false → s.motion.order = some o → o.number < 256 → o.awaitingReissue = false →
      o.requester = .pass → s.motion.stop = none → s.pass.job = some j → last = some ⟨.done, o.number, s.time.count, true⟩ →
      (∀ kind arg1 limit position, issued kind arg1 limit position = { s.motion with
        last := last, nextNumber := (s.motion.nextNumber + 1) % 256, position := none
        order := some
          { kind := kind, number := s.motion.nextNumber, arg1 := arg1, arg2 := 0, requester := .pass, limit := limit, issuedAt := s.now
            retried := false, awaitingReissue := false, savedPosition := position }
        sent := s.motion.sent ++ [motionRecord kind.code s.motion.nextNumber arg1 0] }) →
      (o.kind = .move → s.pass.state = .preparing → s.pass.step ≠ .homing → s.pass.mark = none →
        exec (.motionReport (reportBytes 17 o.number)) s = .next
          { s with
            pass := { s.pass with
              state := .loading, step := .handling, loadIssued := true
              budget := if s.pass.budget.state = .waiting then { s.pass.budget with state := .running } else s.pass.budget }
            motion := issued .load j.record.slot s.params.handlerLimit (some (o.arg1, o.arg2))
            stats := { s.stats with
              histState := .opened, histJob := some (j.number, j.record.plateId), bins := List.replicate 41 0
              nOver := 0, nUnder := 0, nDefect := 0, tilesAdded := 0 } })
      ∧ (o.kind = .move → s.pass.state = .returning → s.pass.step = .moving →
        exec (.motionReport (reportBytes 17 o.number)) s = .next
          { s with
            pass := { s.pass with
              step := .handling
              budget := if s.pass.budget.state ∈ [BudgetState.running, .suspended] then { s.pass.budget with state := .stopped }
                else s.pass.budget }
            motion := { issued .ret j.record.slot s.params.handlerLimit (some (o.arg1, o.arg2)) with expect := .none } })
      ∧ (o.kind = .home → s.pass.state = .returning → s.pass.step = .homing →
        exec (.motionReport (reportBytes 17 o.number)) s = .next
          { s with pass.step := .moving, motion := { issued .move 0 s.params.moveLimit (some (0, 0)) with unsure := false } })
      ∧ (o.kind = .home → s.pass.state = .preparing → s.pass.step = .homing → s.pass.mark = none → s.platePresent = true →
        EscalatesFirst s .tableOccupied → s.pass.tile = none → s.pass.plate = .notLoaded →
        ∃ (t : State) (e : HistoryEntry), exec (.motionReport (reportBytes 17 o.number)) s = .next t
          ∧ HaltedFirst s t .tableOccupied .preparing (some j.number) none
          ∧ t.motion.unsure = false ∧ t.motion.position = some (0, 0) ∧ t.faults.raised = s.faults.raised
          ∧ t.queue.run = .stopped ∧ t.queue.history.getLast? = some e ∧ e.number = j.number ∧ e.outcome = .failed
          ∧ e.firstFault = some (s.faults.jobMark.getD .tableOccupied) ∧ t.pass.job = none)
      ∧ (o.kind = .home → s.pass.state = .preparing → s.pass.step = .homing → s.pass.mark = none → s.platePresent = true →
        s.faults.ahead = [] →
        ∃ (t : State) (e : HistoryEntry), exec (.motionReport (reportBytes 17 o.number)) s = .next t
          ∧ t.motion.unsure = false ∧ t.motion.position = some (0, 0) ∧ t.motion.order = none ∧ t.motion.sent = s.motion.sent
          ∧ t.queue.run = .stopped ∧ t.queue.history.getLast? = some e ∧ e.number = j.number ∧ e.outcome = .failed
          ∧ EndsWithFirstFault s.faults.jobMark
              (s.faults.raised ++ [⟨.tableOccupied, ⟨some (j.number, j.record.plateId), none, none, none⟩⟩]) e.firstFault t.faults.raised
          ∧ t.pass.state = .idle ∧ t.pass.job = none)
      ∧ (s.pass.state = .preparing → s.pass.mark ≠ none → s.pass.tile = none → s.pass.handedOver = 0 → s.pass.plate = .notLoaded →
        ∃ (t : State) (e : HistoryEntry), exec (.motionReport (reportBytes 17 o.number)) s = .next t
          ∧ t.motion.order = none ∧ t.motion.sent = s.motion.sent ∧ t.queue.history.getLast? = some e ∧ e.number = j.number
          ∧ EndsAs s.pass.mark s.pass.counts e.outcome
          ∧ EndsWithFirstFault s.faults.jobMark s.faults.raised e.firstFault t.faults.raised
          ∧ t.pass.state = .idle ∧ t.pass.job = none))
    ∧ (∀ (tag flags : Byte) (rest : List (List Byte)), AtHead 17 tag flags [] rest s →
      ((s.pass.job ≠ none ∨ s.cal.cal ≠ none ∨ s.motion.homeRequest = true) →
        exec .home s = .next (s.answer rest 17 tag (.refused .busy 0 .empty)))
      ∧ (s.pass.job = none → s.cal.cal = none → s.motion.homeRequest = false →
        (s.pass.state = .halted → exec .home s = .next (s.answer rest 17 tag (.refused .halted 0 .empty)))
        ∧ (s.pass.state ≠ .halted → s.motion.order = none → s.motion.stop = none →
          exec .home s = .next
            { s.answer rest 17 tag (.ok (.homing s.motion.unsure)) with
              motion := { s.motion with
                nextNumber := (s.motion.nextNumber + 1) % 256, homeRequest := true, position := none
                order := some
                  { kind := .home, number := s.motion.nextNumber, arg1 := 0, arg2 := 0, requester := .homeRequest
                    limit := s.params.moveLimit, issuedAt := s.now, retried := false, awaitingReissue := false
                    savedPosition := s.motion.position }
                sent := s.motion.sent ++ [motionRecord 2 s.motion.nextNumber 0 0] } })
        ∧ (s.pass.state ≠ .halted → s.motion.order ≠ none ∨ s.motion.stop ≠ none →
          exec .home s = .next
            { s.answer rest 17 tag (.ok (.homing s.motion.unsure)) with
              motion.homeRequest := true, motion.waiting := some ⟨.home, 0, 0, .homeRequest⟩ })))
    ∧ (∀ present : Bool, present = true ∨ s.platePresent = false ∨ s.motion.expect = .none →
      exec (.platePresentChange present) s = .next { s with platePresent := present })
    ∧ (∀ j : JobInHand, s.platePresent = true → s.motion.expect = .present → s.pass.job = some j → s.pass.tile = none → s.ladder = none →
      EscalatesFirst s .plateSense →
      s.pass.state ∈ [PassState.walking, .paused, .returning] → s.pass.plate = .onTable → 1 ≤ s.pass.handedOver → s.motion.stop = none →
      ∃ t, exec (.platePresentChange false) s = .next t ∧ t.platePresent = false
        ∧ HaltedFirst s t .plateSense s.pass.state (some j.number) none ∧ t.faults.raised = s.faults.raised
        ∧ t.pass.mark = some .failed ∧ t.pass.plate = .left ∧ t.pass.job = some j
        ∧ t.pass.walkPos = j.record.rows * j.record.cols ∧ t.pass.handedOver = s.pass.handedOver ∧ t.motion.expect = .none
        ∧ t.motion.stop = some ⟨s.motion.nextNumber, s.params.moveLimit, s.now, false⟩
        ∧ t.lamps.a.lit = false ∧ t.lamps.b.lit = false ∧ t.lamps.exposure = none ∧ t.lamps.line = s.lamps.line)
    ∧ (∀ j : JobInHand, s.platePresent = true → s.motion.expect = .present → s.pass.job = some j → s.pass.tile = none → s.ladder = none →
      s.faults.ahead = [] → s.pass.state ∈ [PassState.walking, .paused, .returning] → s.pass.plate = .onTable → 1 ≤ s.pass.handedOver → s.motion.stop = none →
      ∃ t, exec (.platePresentChange false) s = .next t ∧ t.platePresent = false
        ∧ t.faults = { s.faults with
            raised := s.faults.raised ++ [⟨.plateSense, ⟨some (j.number, j.record.plateId), none, none, none⟩⟩] }
        ∧ t.pass.mark = some .failed ∧ t.pass.plate = .left ∧ t.pass.state = .finishing ∧ t.pass.job = some j
        ∧ t.pass.walkPos = j.record.rows * j.record.cols ∧ t.pass.handedOver = s.pass.handedOver
        ∧ t.motion.expect = .none ∧ t.motion.order = none
        ∧ t.motion.stop = some ⟨s.motion.nextNumber, s.params.moveLimit, s.now, false⟩
        ∧ t.lamps.a.lit = false ∧ t.lamps.b.lit = false ∧ t.lamps.exposure = none ∧ t.lamps.line = s.lamps.line)

/-- The zone table (R146 to R148). SET-ZONE refuses the first field that fails by its index, and else replaces the entry whole with its hits 0;
CLEAR-ZONE empties one entry or all eight. The answer for a tile is SKIP by the lowest-numbered entry, present, enabled and of the job's
format class, that contains the whole tile; else GUARD by the lowest that contains its target point; else none, and none with use_zones no. -/
def Obligations.ZoneTableEditsAndAnswers : Prop :=
  (∀ (s : State) (tag flags index enabled kind classes : Byte) (x0 y0 x1 y1 : Nat) (rest : List (List Byte)) (bad : Nat),
      AtHead 19 tag flags
        (index :: enabled :: kind :: (leBytes 4 x0 ++ leBytes 4 y0 ++ leBytes 4 x1 ++ leBytes 4 y1 ++ [classes])) rest s →
      x0 < 4294967296 → y0 < 4294967296 → x1 < 4294967296 → y1 < 4294967296 → s.zones.length = 8 →
      bad = (if 7 < index.toNat then 1 else if 1 < enabled.toNat then 2 else if 1 < kind.toNat then 3 else if 400000 < x0 then 4
        else if 400000 < y0 then 5 else if 400000 < x1 ∨ x1 ≤ x0 then 6 else if 400000 < y1 ∨ y1 ≤ y0 then 7
        else if classes = 0#8 then 8 else 0) →
      (bad ≠ 0 → exec .setZone s = .next (s.answer rest 19 tag (.refused .badField bad .empty)))
      ∧ (bad = 0 → ∀ z : Zone,
          z = ⟨decide (enabled = 1#8), if kind = 0#8 then .skip else .guard, x0, y0, x1, y1, classes, 0⟩ →
          exec .setZone s = .next { s.answer rest 19 tag (.ok (.zones [(index.toNat, some z)])) with
            zones := s.zones.set index.toNat (some z) }))
    ∧ (∀ (s : State) (tag flags index : Byte) (rest : List (List Byte)), AtHead 20 tag flags [index] rest s → s.zones.length = 8 →
      (index.toNat ≤ 7 → exec .clearZone s = .next { s.answer rest 20 tag (.ok (.zones [(index.toNat, none)])) with
        zones := s.zones.set index.toNat none })
      ∧ (index = 255#8 → exec .clearZone s = .next
        { s.answer rest 20 tag (.ok (.zones ((List.range 8).map fun i => (i, none)))) with zones := List.replicate 8 none })
      ∧ (7 < index.toNat → index ≠ 255#8 → exec .clearZone s = .next (s.answer rest 20 tag (.refused .badField 1 .empty))))
    ∧ (∀ (zones : List (Option Zone)) (r : JobRecord) (row col : Nat) (applies skips guards : Zone → Prop),
      (∀ z, applies z ↔ z.enabled = true ∧ z.classes.getLsbD r.formatClass = true) →
      (∀ z, skips z ↔ z.kind = .skip ∧ z.x0 ≤ r.originX + col * r.stepX ∧ r.originX + col * r.stepX + r.fieldX - 1 ≤ z.x1
        ∧ z.y0 ≤ r.originY + row * r.stepY ∧ r.originY + row * r.stepY + r.fieldY - 1 ≤ z.y1) →
      (∀ z, guards z ↔ z.kind = .guard
        ∧ z.x0 ≤ r.originX + col * r.stepX + r.fieldX / 2 ∧ r.originX + col * r.stepX + r.fieldX / 2 ≤ z.x1
        ∧ z.y0 ≤ r.originY + row * r.stepY + r.fieldY / 2 ∧ r.originY + row * r.stepY + r.fieldY / 2 ≤ z.y1) →
      (r.useZones = false → zoneAnswer zones r row col = .none)
      ∧ (r.useZones = true →
        (∀ i : Nat, zoneAnswer zones r row col = .skip i ↔
          (∃ z, zones[i]? = some (some z) ∧ applies z ∧ skips z)
            ∧ ∀ (k : Nat) z, k < i → zones[k]? = some (some z) → ¬ (applies z ∧ skips z))
        ∧ (∀ i : Nat, zoneAnswer zones r row col = .guard i ↔
          (∃ z, zones[i]? = some (some z) ∧ applies z ∧ guards z)
            ∧ (∀ (k : Nat) z, k < i → zones[k]? = some (some z) → ¬ (applies z ∧ guards z))
            ∧ ∀ (k : Nat) z, zones[k]? = some (some z) → ¬ (applies z ∧ skips z))))

/-! ### Chapter 9: tile output and the tile log -/

/-- The writing of a completed record (R157, R159, R170). It takes sequence newest + 1 and joins the ring, the oldest giving way at 256. With
256 unread the read mark passes to the record lost and LOG WRAP is posted; at the rise of unread from 127 to 128 LOG HALF; then TILE-DONE,
unless the tile is quiet (CAPTURED without attention, or SKIPPED) and its job's notify_quiet is no. A record that is not CAPTURED adds 1 to
TILES_SKIPPED or TILES_NOT_CAPTURED, after the record's own notices. The record itself is kept as it came, and no other block is touched but
the count of the job's records. Each notice joins the queue or, with 32 queued, is dropped, the record standing either way (R162). -/
def Obligations.RecordWritingKeepsTheLog : Prop :=
  ∀ (s : State) (r : TileRecord) (notifyQuiet : Bool) (newest unread : Nat) (log done : List Notice), s.out.records.length ≤ 256 →
    s.stats.counters.length = 16 → (∀ k ∈ s.stats.counters, k.value ≤ 4294967295) →
    newest = (s.out.newest + 1) % 4294967296 →
    (unread : Int) = ((s.out.newest : Int) - s.out.readMark) % 4294967296 → unread ≤ 256 →
    log = (if unread = 256 then
        [.logWrap ((s.out.readMark + 1) % 4294967296) newest ((s.out.readMark + 1) % 4294967296)]
      else if unread = 127 then [.logHalf newest s.out.readMark 128] else []) →
    done = (if (r.status = .captured ∧ r.attention = false ∨ r.status = .skipped) ∧ notifyQuiet = false then []
      else [.tileDone newest r.number r.row r.col r.ordinal r.status r.attention r.conds r.ended]) →
    ∃ t, writeRecord r notifyQuiet s = t
      ∧ t.out.newest = newest
      ∧ t.out.records = (if s.out.records.length < 256 then s.out.records else s.out.records.drop 1) ++ [{ r with sequence := newest }]
      ∧ t.out.records.length = min 256 (s.out.records.length + 1)
      ∧ t.out.readMark = (if unread = 256 then (s.out.readMark + 1) % 4294967296 else s.out.readMark)
      ∧ (r.status = .captured → t.stats = s.stats ∧ t.link = (log ++ done).foldl Link.posted s.link)
      ∧ (r.status ≠ .captured → ∃ more, more.length ≤ 2 ∧ t.link = (log ++ done ++ more).foldl Link.posted s.link)
      ∧ (32 ≤ s.link.notices.length → t.link.notices = s.link.notices)
      ∧ (t.counter .tilesSkipped).value = min 4294967295 ((s.counter .tilesSkipped).value
          + if r.status = .skipped ∨ r.status = .guarded then 1 else 0)
      ∧ (t.counter .tilesNotCaptured).value = min 4294967295 ((s.counter .tilesNotCaptured).value
          + if r.status = .notCaptured then 1 else 0)
      ∧ (∀ k, k ≠ .tilesSkipped → k ≠ .tilesNotCaptured → t.counter k = s.counter k)
      ∧ { t with out := s.out, stats := s.stats, link := s.link, pass.counts := s.pass.counts } = s
      ∧ t.pass.counts.total = s.pass.counts.total + 1

/-- READ-TILE-RECORD and the image sender (R150 to R152, R158, R160). A held record is returned by its sequence, the oldest unread one by NEXT; an
unread record returned moves the read mark to its sequence, and the reply carries newest, the read mark and unread as they stand after it.
A sequence not held, and NEXT with nothing unread, are NOT_FOUND. With no buffer SENDING and the link CONFIGURED the READY buffer whose stamp
lies farthest back becomes SENDING; the host then takes its TILE-HEADER, each of its rows and its TILE-END, which frees it; while the link
is not CONFIGURED nothing is taken. -/
def Obligations.RecordsAndTilesLeaveThePart : Prop :=
  (∀ (s : State) (tag flags : Byte) (rest : List (List Byte)) (n : Nat), n < 4294967296 →
      AtHead 22 tag flags (0#8 :: leBytes 4 n) rest s →
      (∀ (r : TileRecord) (pre post : List TileRecord), s.out.records = pre ++ r :: post → (∀ q ∈ pre, q.sequence ≠ n) → r.sequence = n →
        ∀ mark, mark = (if subU32 s.out.newest n < subU32 s.out.newest s.out.readMark then n else s.out.readMark) →
        exec .readTileRecord s = .next
          { s.answer rest 22 tag (.ok (.tileRecord (some r) s.out.newest mark (subU32 s.out.newest mark))) with out.readMark := mark })
      ∧ ((∀ q ∈ s.out.records, q.sequence ≠ n) →
        exec .readTileRecord s = .next (s.answer rest 22 tag
          (.refused .notFound 0 (.tileRecord none s.out.newest s.out.readMark (subU32 s.out.newest s.out.readMark))))))
    ∧ (∀ (s : State) (tag flags : Byte) (rest : List (List Byte)), AtHead 22 tag flags [1#8] rest s →
      s.out.newest < 4294967296 → s.out.readMark < 4294967296 →
      (s.out.newest = s.out.readMark →
        exec .readTileRecord s = .next (s.answer rest 22 tag
          (.refused .notFound 0 (.tileRecord none s.out.newest s.out.readMark 0))))
      ∧ (∀ (r : TileRecord) (pre post : List TileRecord) (mark : Nat), s.out.newest ≠ s.out.readMark →
        mark = (s.out.readMark + 1) % 4294967296 → s.out.records = pre ++ r :: post → (∀ q ∈ pre, q.sequence ≠ mark) →
        r.sequence = mark →
        exec .readTileRecord s = .next
          { s.answer rest 22 tag (.ok (.tileRecord (some r) s.out.newest mark (subU32 s.out.newest s.out.readMark - 1))) with
            out.readMark := mark }))
    ∧ (∀ (s : State) (i : BufId) (b : Buf) (st : Nat), s.link.state = .configured →
      (∀ k c, s.buf k = some c → c.state ≠ .sending) → s.buf i = some b → b.state = .ready → b.stamp = some st →
      (∀ k c, k ≠ i → s.buf k = some c → c.state = .ready → ∃ st2, c.stamp = some st2
        ∧ ((s.out.lastStamp : Int) - st2) % 4294967296 < ((s.out.lastStamp : Int) - st) % 4294967296) →
      exec .imageSenderTake s = .next (s.setBuf i (some { b with state := .sending, headerTaken := false, rowsTaken := 0 })))
    ∧ (∀ (s : State) (i : BufId) (b : Buf), s.link.state = .configured → s.buf i = some b → b.state = .sending →
      (∀ k c, k ≠ i → s.buf k = some c → c.state ≠ .sending) →
      (b.headerTaken = false → exec .imageFrameTaken s = .next (s.setBuf i (some { b with headerTaken := true })))
      ∧ (b.headerTaken = true → b.rowsTaken < b.rows.length →
          exec .imageFrameTaken s = .next (s.setBuf i (some { b with rowsTaken := b.rowsTaken + 1 })))
      ∧ (b.headerTaken = true → b.rows.length ≤ b.rowsTaken → exec .imageFrameTaken s = .next (s.setBuf i none)))
    ∧ (∀ s : State, s.link.state ≠ .configured → exec .imageSenderTake s = .next s ∧ exec .imageFrameTaken s = .next s)

/-! ### Chapter 10: counters and histograms -/

/-- The station counters (R171 to R173). An addition changes only the counter it names, to the sum or to 4,294,967,295 when the sum would exceed
it; the half mark fires at the crossing of 2^31 and the full mark at the arrival at the maximum, each once while ARMED, each posting its
COUNTER notice only with the counter's flag in COUNTER_NOTIFY on, HALF before FULL, into the queue or, with 32 queued, dropped (R162). READ-COUNTERS returns values and marks as they stood; with clear yes, every
counter is 0 in the same moment, every mark ARMED, and last cleared the time tag of the read. -/
def Obligations.CountersSaturateFireAndClear : Prop :=
  (∀ (s : State) (c : CounterId) (n : Nat) (old new : Counter) (half full : Bool), s.stats.counters.length = 16 → old = s.counter c →
      old.value ≤ 4294967295 →
      half = decide (old.value < 2147483648 ∧ 2147483648 ≤ old.value + n ∧ old.half = .armed) →
      full = decide (old.value < 4294967295 ∧ 4294967295 ≤ old.value + n ∧ old.full = .armed) →
      new = ⟨if 4294967295 < old.value + n then 4294967295 else old.value + n, if half then .fired else old.half,
        if full then .fired else old.full⟩ →
      ∃ t, addCounter c n s = t ∧ t.counter c = new ∧ (∀ k, k ≠ c → t.counter k = s.counter k)
        ∧ t.link = ((if half = true ∧ s.params.counterNotify.getLsbD c.index = true then
              [Notice.counter c false new.value s.time.count] else [])
            ++ (if full = true ∧ s.params.counterNotify.getLsbD c.index = true then
              [Notice.counter c true new.value s.time.count] else [])).foldl Link.posted s.link
        ∧ { t with stats.counters := s.stats.counters, link := s.link } = s)
    ∧ (∀ (s : State) (tag flags clear : Byte) (rest : List (List Byte)), AtHead 25 tag flags [clear] rest s →
      (clear = 0#8 → exec .readCounters s = .next (s.answer rest 25 tag
        (.ok (.counters s.stats.counters s.stats.lastCleared s.time.count))))
      ∧ (clear = 1#8 → exec .readCounters s = .next
        { s.answer rest 25 tag (.ok (.counters s.stats.counters s.stats.lastCleared s.time.count)) with
          stats.counters := List.replicate 16 ⟨0, .armed, .armed⟩, stats.lastCleared := s.time.count })
      ∧ (1 < clear.toNat → exec .readCounters s = .next (s.answer rest 25 tag (.refused .badField 1 .empty))))

/-! ### Chapter 11: faults -/

/-- What the recording of one unmasked fault does to the slot of its class, to the escalations and to the link, `link` being the link but for
the notice (R178 to R181): an empty slot is filled, a full one keeps its kind and context and takes more; the FAULT notice, posted when
the class's notify enable is on, says which, and is dropped with 32 notices queued, the recording standing (R162). -/
def Sys2Proof.Machine.RecordedUnmasked (s t : State) (link : Link) (k : FaultKind) (ks : KindState) (ctx : Context) (effect : SlotEffect) : Prop :=
  ∀ mine after : Option FaultSlot, mine = (if ks.severity = .corrected then s.faults.corrected else s.faults.serious) →
    after = (match mine with
      | none => some ⟨k, ctx, false, decide (ks.severity = .fatal)⟩
      | some f => some { f with more := true }) →
    effect = (match mine with | none => .filled | some f => if f.more then .none else .more)
    ∧ t.faults.corrected = (if ks.severity = .corrected then after else s.faults.corrected)
    ∧ t.faults.serious = (if ks.severity = .corrected then s.faults.serious else after)
    ∧ t.faults.escalations = s.faults.escalations ++ (if ks.severity = .fatal then [(k, ctx.injected)] else [])
    ∧ t.link =
        (if (match ks.severity with
            | .corrected => s.params.notifyCorrected
            | .degraded => s.params.notifyDegraded
            | .fatal => s.params.notifyFatal) = true then
          link.posted (.fault k ks.severity (min 255 (ks.count + 1)) ctx effect)
        else link)

/-- FAULT_TAKEN records the fault it takes by the mask and severity of its kind as they stand (R175, R177 to R182). Seen becomes yes, the count
rises by 1 to 255 at the most, and the kind becomes the job mark when a job is ACTIVE and the mark absent. A masked kind stops there.
Otherwise the slot of its class is filled, or takes more, its kind and context staying; a FAULT notice is posted when the class's notify
enable is on, into the queue or, with 32 notices queued, dropped with the dropped-notice mark set and the recording whole (R162); and a
FATAL fault is handed to the pass controller. Of the faults raised, which is taken is the command's operand (log 7). The operands past the
last one's go on to the faults still to be raised that the pass controller acts on: the command says that the one it means is to be recorded
before its action, and changes nothing else: R177 leaves the order of the two open, and this form of the sender's choice is the model's
(log 68). -/
def Obligations.FaultTakenRecordsByMaskAndSeverity : Prop :=
  (∀ (s : State) (n : Nat), s.faults.raised.length ≤ n →
    ∃ plan, exec (.faultTaken n) s = .next { s with faults.ahead := plan }
      ∧ plan[n - s.faults.raised.length]?
          = some (if s.faults.ahead[n - s.faults.raised.length]? = some .halted then .halted else .recorded)
      ∧ ∀ k, k ≠ n - s.faults.raised.length → plan[k]?.getD .no = s.faults.ahead[k]?.getD .no)
  ∧ ∀ (s : State) (n : Nat) (r : Raised) (ks : KindState) (ctx : Context), s.faults.raised[n]? = some r → ks = s.kind r.kind →
    ctx = ⟨r.ctx, s.time.count, false⟩ → s.faults.kinds.length = 16 →
    ∃ t, exec (.faultTaken n) s = .next t
      ∧ t.faults.raised = s.faults.raised.eraseIdx n
      ∧ t.kind r.kind = { ks with seen := true, count := min 255 (ks.count + 1) }
      ∧ (∀ k, k ≠ r.kind → t.kind k = s.kind k)
      ∧ t.faults.jobMark = (if s.pass.job ≠ none ∧ s.faults.jobMark = none then some r.kind else s.faults.jobMark)
      ∧ (ks.masked = true → t.faults.corrected = s.faults.corrected ∧ t.faults.serious = s.faults.serious
          ∧ t.faults.escalations = s.faults.escalations ∧ t.link = s.link)
      ∧ (ks.masked = false → ∃ effect, RecordedUnmasked s t s.link r.kind ks ctx effect)
      ∧ { t with faults := s.faults, link := s.link } = s ∧ t.faults.locked = s.faults.locked

/-- The fault unit's requests (R176, R183 to R185). SET-FAULT-CONTROL replaces the mask, the severity or both of one kind or of all, and refuses
a kind, a mask or a severity that is none by its index, and a request that carries neither by index 0. CLEAR-FAULT sets seen no and count 0 and
empties a slot that holds a cleared kind. LOCK-INJECTION locks, and INJECT-FAULT is then refused LOCKED; unlocked, it records the fault as
FAULT_TAKEN would, with injected yes and the context that stands: seen and count, the job mark, and for an unmasked kind the slot, the
notice and for FATAL the escalation, the reply carrying seen, count, class and slot effect; no kind action is carried out. The mask codes
are 0 masked and 1 unmasked (log 24). For a masked kind, which touches no slot, the reply's slot effect NONE and its class are the model's
choice (log 62). Of several checks that fail together the model answers index 1, then 2, then 3, then 0 (log 66), and an unknown kind before
the lock (log 67): the manual states no order. -/
def Obligations.FaultRequestsControlClearAndInject : Prop :=
  ∀ (s : State) (tag flags code : Byte) (rest : List (List Byte)), s.faults.kinds.length = 16 →
    (∀ mask severity : Option Byte,
      AtHead 26 tag flags (code :: ((match mask with | none => [0#8] | some m => [1#8, m])
        ++ (match severity with | none => [0#8] | some v => [1#8, v]))) rest s →
      (15 < code.toNat → code ≠ 255#8 → exec .setFaultControl s = .next (s.answer rest 26 tag (.refused .badField 1 .empty)))
      ∧ (∀ kinds : List FaultKind, (kinds = allKinds ∧ code = 255#8 ∨ ∃ k, allKinds[code.toNat]? = some k ∧ kinds = [k]) →
        ((∃ m, mask = some m ∧ 1 < m.toNat) → exec .setFaultControl s = .next (s.answer rest 26 tag (.refused .badField 2 .empty)))
        ∧ ((∀ m, mask = some m → m.toNat ≤ 1) → (∃ v, severity = some v ∧ 2 < v.toNat) →
            exec .setFaultControl s = .next (s.answer rest 26 tag (.refused .badField 3 .empty)))
        ∧ (mask = none → severity = none → exec .setFaultControl s = .next (s.answer rest 26 tag (.refused .badField 0 .empty)))
        ∧ (∀ new : KindState → KindState, (mask ≠ none ∨ severity ≠ none) → (∀ m, mask = some m → m.toNat ≤ 1) →
            (∀ v, severity = some v → v.toNat ≤ 2) →
            (∀ ks, new ks = { ks with
              masked := (match mask with | none => ks.masked | some m => decide (m = 0#8))
              severity := (match severity with
                | none => ks.severity
                | some v => if v = 0#8 then .corrected else if v = 1#8 then .degraded else .fatal) }) →
            ∃ t, exec .setFaultControl s = .next t
              ∧ t.link = (s.answer rest 26 tag (.ok (.faultControl
                  (kinds.map fun k => (k, (new (s.kind k)).masked, (new (s.kind k)).severity))))).link
              ∧ (∀ k, t.kind k = if k ∈ kinds then new (s.kind k) else s.kind k)
              ∧ { t with link := s.link, faults.kinds := s.faults.kinds } = s)))
    ∧ (AtHead 27 tag flags [code] rest s →
      (15 < code.toNat → code ≠ 255#8 → exec .clearFault s = .next (s.answer rest 27 tag (.refused .badField 1 .empty)))
      ∧ (∀ (kinds : List FaultKind),
        (kinds = allKinds ∧ code = 255#8 ∨ ∃ k, allKinds[code.toNat]? = some k ∧ kinds = [k]) →
        ∃ t rows, exec .clearFault s = .next t
          ∧ t.link = (s.answer rest 27 tag (.ok (.faultCleared rows t.faults.corrected t.faults.serious))).link
          ∧ (∀ k, t.kind k = if k ∈ kinds then { s.kind k with seen := false, count := 0 } else s.kind k)
          ∧ rows = kinds.map (fun k => (k, false, 0, (s.kind k).masked))
          ∧ t.faults.corrected = (match s.faults.corrected with
              | some f => if f.kind ∈ kinds then none else some f
              | none => none)
          ∧ t.faults.serious = (match s.faults.serious with
              | some f => if f.kind ∈ kinds then none else some f
              | none => none)
          ∧ { t with link := s.link, faults.kinds := s.faults.kinds, faults.corrected := s.faults.corrected,
                     faults.serious := s.faults.serious } = s))
    ∧ (AtHead 29 tag flags [] rest s →
        exec .lockInjection s = .next { s.answer rest 29 tag (.ok (.lock true)) with faults.locked := true })
    ∧ (AtHead 28 tag flags [code] rest s →
      (15 < code.toNat → exec .injectFault s = .next (s.answer rest 28 tag (.refused .badField 1 .empty)))
      ∧ (code.toNat ≤ 15 → s.faults.locked = true → exec .injectFault s = .next (s.answer rest 28 tag (.refused .locked 0 .empty)))
      ∧ (∀ k, allKinds[code.toNat]? = some k → s.faults.locked = false →
          (s.kind k).masked = true →
            exec .injectFault s = .next
              { s.answer rest 28 tag (.ok (.injected true (min 255 ((s.kind k).count + 1)) (s.kind k).severity .none)) with
                faults.kinds := s.faults.kinds.set code.toNat
                  { s.kind k with seen := true, count := min 255 ((s.kind k).count + 1) }
                faults.jobMark := if s.pass.job ≠ none ∧ s.faults.jobMark = none then some k else s.faults.jobMark })
      ∧ (∀ (k : FaultKind) (ctx : Context), allKinds[code.toNat]? = some k → s.faults.locked = false → (s.kind k).masked = false →
          ctx = ⟨⟨s.pass.job.map fun j => (j.number, j.record.plateId), s.pass.tile.map fun x => (x.row, x.col),
            s.ladder.bind fun l => l.current, s.pass.bank.map fun b => b.bank⟩, s.time.count, true⟩ →
          ∃ (t : State) (effect : SlotEffect), exec .injectFault s = .next t
            ∧ RecordedUnmasked s t (s.answer rest 28 tag
                (.ok (.injected true (min 255 ((s.kind k).count + 1)) (s.kind k).severity effect))).link k (s.kind k) ctx effect
            ∧ t.kind k = { s.kind k with seen := true, count := min 255 ((s.kind k).count + 1) }
            ∧ (∀ other, other ≠ k → t.kind other = s.kind other)
            ∧ t.faults.jobMark = (if s.pass.job ≠ none ∧ s.faults.jobMark = none then some k else s.faults.jobMark)
            ∧ t.faults.raised = s.faults.raised ∧ t.faults.locked = false
            ∧ { t with faults := s.faults, link := s.link } = s)
      ∧ (∀ k, allKinds[code.toNat]? = some k → s.faults.locked = false → (s.kind k).masked = false → (s.kind k).severity = .fatal →
          ∃ t, exec .injectFault s = .next t ∧ t.faults.escalations = s.faults.escalations ++ [(k, true)]
            ∧ (s.faults.serious = none → t.faults.serious = some ⟨k,
                ⟨⟨s.pass.job.map fun j => (j.number, j.record.plateId), s.pass.tile.map fun x => (x.row, x.col),
                    s.ladder.bind fun l => l.current, s.pass.bank.map fun b => b.bank⟩, s.time.count, true⟩,
                false, true⟩)
            ∧ t.pass = s.pass ∧ t.lamps = s.lamps ∧ t.ladder = s.ladder ∧ t.queue = s.queue ∧ t.motion = s.motion ∧ t.out = s.out))

/-! ### The read requests -/

/-- READ-QUEUE and READ-HISTORY, of everything and of one number, READ-PASS, READ-TIME, GET-PARAM of one parameter and of ALL, IDENTIFY,
READ-LAMPS, READ-INTAKE, READ-CONVERTER, READ-CALIBRATION, READ-MOTION, READ-ZONES, READ-LOG-STATE, READ-HISTOGRAM and READ-FAULTS return
what stands, in every state, and change nothing but the request link; a job number not held is refused NOT_FOUND, and READ-INTAKE with its
flag set leaves the discarded count 0 (R17, R18, R21, R81, R100, R116, R131, R145, R147, R161, R169, R186, R193, R195, R196). The model's
own here: the revision byte is a free value (log 23), of two history entries of one number the oldest is returned (log 52), the
milliseconds left of an order are rounded down (log 28), a CALIBRATION frame shows a clipped count of 0 (log 50), an order that awaits
its reissue shows its first number (log 57), a calibration is returned without pending M (log 58), whether a flat is stale now is judged by
its record's age whatever its validity (log 64), and a STOP's reissue pending stands in its record alone (log 65). -/
def Obligations.ReadsReturnWhatStands : Prop :=
  ((∀ (tag flags : Byte) (rest : List (List Byte)) (s : State),
    (AtHead 3 tag flags [0#8] rest s →
      exec .readQueue s = .next (s.answer rest 3 tag (.ok (.queue s.queue.run s.queue.next
        (s.queue.jobs.map fun j : QueueJob =>
          (⟨j.number, j.active, j.record.plateId, j.record.slot, j.record.rows, j.record.cols, j.accepted, j.started⟩ : QueueRow))))))
    ∧ (∀ n (pre post : List QueueJob) (j : QueueJob), n < 65536 → AtHead 3 tag flags (1#8 :: leBytes 2 n) rest s →
        s.queue.jobs = pre ++ j :: post → (∀ q ∈ pre, q.number ≠ n) → j.number = n →
        exec .readQueue s = .next (s.answer rest 3 tag (.ok (.job n j.record j.active (pre.length + 1)))))
    ∧ (∀ n, n < 65536 → AtHead 3 tag flags (1#8 :: leBytes 2 n) rest s → (∀ q ∈ s.queue.jobs, q.number ≠ n) →
        exec .readQueue s = .next (s.answer rest 3 tag (.refused .notFound 0 .empty)))
    ∧ (AtHead 4 tag flags [0#8] rest s → exec .readHistory s = .next (s.answer rest 4 tag (.ok (.history s.queue.history))))
    ∧ (∀ n (pre post : List HistoryEntry) (e : HistoryEntry), n < 65536 → AtHead 4 tag flags (1#8 :: leBytes 2 n) rest s →
        s.queue.history = pre ++ e :: post → (∀ q ∈ pre, q.number ≠ n) → e.number = n →
        exec .readHistory s = .next (s.answer rest 4 tag (.ok (.historyEntry e))))
    ∧ (∀ n, n < 65536 → AtHead 4 tag flags (1#8 :: leBytes 2 n) rest s → (∀ e ∈ s.queue.history, e.number ≠ n) →
        exec .readHistory s = .next (s.answer rest 4 tag (.refused .notFound 0 .empty))))
    ∧ (∀ (tag flags : Byte) (rest : List (List Byte)) (s : State), AtHead 10 tag flags [] rest s →
    exec .readPass s = .next (s.answer rest 10 tag (.ok (.pass
      { state := s.pass.state, job := s.pass.job.map fun j => (j.number, j.record), plate := s.pass.plate,
        loadIssued := s.pass.loadIssued, bank := s.pass.bank, banksUsed := s.pass.banksUsed, walkPos := s.pass.walkPos,
        tile := s.pass.tile, rung := s.ladder.bind fun l => l.current.map (·.1), handedOver := s.pass.handedOver,
        budget := s.pass.budget.state, remaining := s.pass.budget.remaining, pausePending := s.pass.pausePending,
        cancelPending := s.pass.cancelPending, resumePoint := s.pass.resumePoint, mark := s.pass.mark, unsure := s.motion.unsure,
        records := s.pass.counts.captured + s.pass.counts.skipped + s.pass.counts.guarded + s.pass.counts.notCaptured }))))
    ∧ (∀ (tag flags : Byte) (rest : List (List Byte)) (s : State),
    (AtHead 34 tag flags [] rest s →
      exec .readTime s = .next (s.answer rest 34 tag (.ok (.time s.time.count s.params.timeRes s.time.wraps))))
    ∧ (∀ code p, (code, p) ∈
        [(0, ParamId.clipLevel), (1, .signalFloor), (2, .driftTol), (3, .frameGrace), (4, .moveLimit), (5, .handlerLimit),
         (6, .flatAgeLimit), (7, .lampLevelA), (8, .lampLevelB), (9, .calX), (10, .calY), (11, .timeRes), (12, .notifyCorrected),
         (13, .notifyDegraded), (14, .notifyFatal), (15, .counterNotify)] →
      AtHead 32 tag flags [BitVec.ofNat 8 code] rest s →
      exec .getParam s = .next (s.answer rest 32 tag (.ok (.param p (s.params.get p)))))
    ∧ (AtHead 32 tag flags [255#8] rest s →
      exec .getParam s = .next (s.answer rest 32 tag (.ok (.params
        [(.clipLevel, .number s.params.clipLevel), (.signalFloor, .number s.params.signalFloor),
         (.driftTol, .number s.params.driftTol), (.frameGrace, .number s.params.frameGrace),
         (.moveLimit, .number s.params.moveLimit), (.handlerLimit, .number s.params.handlerLimit),
         (.flatAgeLimit, .number s.params.flatAgeLimit), (.lampLevelA, .number s.params.lampLevelA),
         (.lampLevelB, .number s.params.lampLevelB), (.calX, .number s.params.calX), (.calY, .number s.params.calY),
         (.timeRes, .number s.params.timeRes), (.notifyCorrected, .onOff s.params.notifyCorrected),
         (.notifyDegraded, .onOff s.params.notifyDegraded), (.notifyFatal, .onOff s.params.notifyFatal),
         (.counterNotify, .flags s.params.counterNotify)]))))
    ∧ (AtHead 35 tag flags [] rest s →
      exec .identify s = .next (s.answer rest 35 tag (.ok (.identity Config.revision s.link.cause
        [16, 8, 24, 2, 2, 4, 256, 8, 16, 16, 4, 4, 32, 1024]))))))
    ∧ (∀ (tag flags : Byte) (rest : List (List Byte)) (s : State),
    (AtHead 12 tag flags [] rest s → ∀ view : BankId → BankView,
      (∀ b, view b = ⟨s.bank b, s.level b,
        if (s.flat b).validity = .valid then (s.flat b).data.map fun d => d.record.mref else none⟩) →
      exec .readLamps s = .next (s.answer rest 12 tag (.ok (.lamps (view .a) (view .b) s.lamps.exposure))))
    ∧ (∀ (flag : Byte) (slots : SlotId → Option SlotView) (planes : PlaneId → Option PlaneView), AtHead 13 tag flags [flag] rest s →
      (∀ i, slots i = (s.slot i).map fun d =>
        { state := d.state, taker := d.taker
          rung := if d.taker = .ladder then some (d.rung, d.attempt) else none
          filling := if d.state = .filling then some (d.discard, d.reception, d.lines) else none
          figures := if d.state = .filling then none else some (d.b, d.clipped) }) →
      (∀ i, planes i = (s.plane i).map fun p =>
        ⟨p.state, p.owner.number, p.owner.record.plateId, p.owner.row, p.owner.col, p.owner.ordinal, p.window, p.c, p.l, p.counts,
          p.merges, p.stamp⟩) →
      (flag = 0#8 → exec .readIntake s = .next (s.answer rest 13 tag
        (.ok (.intake (slots .s1) (slots .s2) (planes .p1) (planes .p2) s.intake.discarded s.intake.last))))
      ∧ (flag = 1#8 → exec .readIntake s = .next { s.answer rest 13 tag
        (.ok (.intake (slots .s1) (slots .s2) (planes .p1) (planes .p2) s.intake.discarded s.intake.last)) with intake.discarded := 0 })
      ∧ (1 < flag.toNat → exec .readIntake s = .next (s.answer rest 13 tag (.refused .badField 1 .empty))))
    ∧ (AtHead 14 tag flags [] rest s →
      ∃ stamps, exec .readConverter s = .next (s.answer rest 14 tag (.ok (.converter
          (s.conv.map fun c =>
            ⟨c.plane, c.buffer, c.owner.number, c.owner.record.plateId, c.owner.row, c.owner.col, c.owner.ordinal, c.bank, c.window, c.l,
              c.rowsDone, c.figures.nNormal, c.figures.nOver, c.figures.nUnder, c.figures.nDefect,
              if c.figures.nNormal = 0 then none else some (c.figures.min.getD 0, c.figures.max.getD 0)⟩)
          stamps ((if s.out.t1 = none then 1 else 0) + (if s.out.t2 = none then 1 else 0) + (if s.out.t3 = none then 1 else 0)
            + (if s.out.t4 = none then 1 else 0)))))
        ∧ (∀ st, st ∈ stamps ↔ ∃ i p, s.plane i = some p ∧ p.state = .full ∧ p.stamp = some st)
        ∧ (∀ a b, stamps = [a, b] →
            ((s.merge.lastStamp : Int) - b) % 4294967296 ≤ ((s.merge.lastStamp : Int) - a) % 4294967296))
    ∧ (AtHead 16 tag flags [] rest s → ∀ view : BankId → FlatView,
      (∀ b, (view b).validity = (s.flat b).validity ∧ (view b).record = (s.flat b).data.map fun d => d.record) →
      (∀ b, (view b).staleNow = true ↔
        ∃ d, (s.flat b).data = some d ∧ s.params.flatAgeLimit ≠ 0 ∧ s.params.flatAgeLimit ≤ d.record.age) →
      exec .readCalibration s = .next (s.answer rest 16 tag (.ok (.calibration (view .a) (view .b) s.cal.staleSet
        (s.cal.cal.map fun c =>
          ⟨c.phase, c.bank, c.eFlat, c.n, c.clipLevel, c.floor, c.calX, c.calY, c.driveLevel, c.frameIndex, c.attempt, c.retakes,
            c.takenIn, c.failure⟩)))))
    ∧ (AtHead 18 tag flags [] rest s →
      exec .readMotion s = .next (s.answer rest 18 tag (.ok (.motion
        { nextNumber := s.motion.nextNumber
          order := s.motion.order.map fun o => (o, (o.issuedAt + o.limit * 1000000 - s.now) / 1000)
          stop := s.motion.stop, unsure := s.motion.unsure, position := s.motion.position, expect := s.motion.expect
          discarded := s.motion.discarded, last := s.motion.last, homeRequest := s.motion.homeRequest
          platePresent := s.platePresent }))))
    ∧ (AtHead 21 tag flags [] rest s →
      exec .readZones s = .next (s.answer rest 21 tag (.ok (.zones ((List.range 8).map fun i => (i, s.zone i))))))
    ∧ (AtHead 23 tag flags [] rest s → ∀ view : BufId → Option BufView,
      (∀ i, view i = (s.buf i).map fun b => ⟨b.state, b.label, b.stamp, if b.state = .sending then some b.rowsTaken else none⟩) →
      exec .readLogState s = .next (s.answer rest 23 tag (.ok (.logState s.out.records.length s.out.newest s.out.readMark
        (subU32 s.out.newest s.out.readMark) (s.out.records.head?.map fun r => r.sequence) (view .t1) (view .t2) (view .t3) (view .t4)
        s.link.state))))
    ∧ (AtHead 24 tag flags [] rest s →
      exec .readHistogram s = .next (s.answer rest 24 tag (.ok (.histogram s.stats.histState s.stats.histJob s.stats.tilesAdded
        s.stats.bins s.stats.nOver s.stats.nUnder s.stats.nDefect s.stats.bins.sum))))
    ∧ (AtHead 30 tag flags [] rest s →
      exec .readFaults s = .next (s.answer rest 30 tag (.ok (.faults s.faults.kinds s.faults.corrected s.faults.serious
        s.params.notifyCorrected s.params.notifyDegraded s.params.notifyFatal s.faults.locked s.faults.jobMark
        (s.pass.job.map fun j => j.number))))))
end

