-- ==== Sys2Proof/Laws/State.lean ====
section
/-! SUPPORT. The updates of State: what is written is read back, and which fields each named update leaves as they were. -/

namespace Sys2Proof.Machine

open Sys2Proof

/-! ### The paired stores: what is written is read, and the rest stands -/

@[simp] theorem bank_setBank (s : State) (i : BankId) (b : Bank) : (s.setBank i b).bank i = b := by cases i <;> rfl
@[simp] theorem flat_setFlat (s : State) (i : BankId) (f : Flat) : (s.setFlat i f).flat i = f := by cases i <;> rfl
@[simp] theorem slot_setSlot (s : State) (i : SlotId) (d : Option Slot) : (s.setSlot i d).slot i = d := by cases i <;> rfl
@[simp] theorem plane_setPlane (s : State) (i : PlaneId) (d : Option Plane) : (s.setPlane i d).plane i = d := by cases i <;> rfl
@[simp] theorem buf_setBuf (s : State) (i : BufId) (d : Option Buf) : (s.setBuf i d).buf i = d := by cases i <;> rfl

theorem bank_setBank_ne (s : State) {i k : BankId} (b : Bank) (h : k ≠ i) : (s.setBank i b).bank k = s.bank k := by
  cases i <;> cases k <;> first | rfl | exact absurd rfl h
theorem flat_setFlat_ne (s : State) {i k : BankId} (f : Flat) (h : k ≠ i) : (s.setFlat i f).flat k = s.flat k := by
  cases i <;> cases k <;> first | rfl | exact absurd rfl h
theorem slot_setSlot_ne (s : State) {i k : SlotId} (d : Option Slot) (h : k ≠ i) : (s.setSlot i d).slot k = s.slot k := by
  cases i <;> cases k <;> first | rfl | exact absurd rfl h
theorem plane_setPlane_ne (s : State) {i k : PlaneId} (d : Option Plane) (h : k ≠ i) : (s.setPlane i d).plane k = s.plane k := by
  cases i <;> cases k <;> first | rfl | exact absurd rfl h
theorem buf_setBuf_ne (s : State) {i k : BufId} (d : Option Buf) (h : k ≠ i) : (s.setBuf i d).buf k = s.buf k := by
  cases i <;> cases k <;> first | rfl | exact absurd rfl h

@[simp] theorem setBank_setBank (s : State) (i : BankId) (b c : Bank) : (s.setBank i b).setBank i c = s.setBank i c := by
  cases i <;> rfl
@[simp] theorem setBuf_setBuf (s : State) (i : BufId) (b c : Option Buf) : (s.setBuf i b).setBuf i c = s.setBuf i c := by
  cases i <;> rfl

theorem kind_setKind (s : State) (k : FaultKind) (v : KindState) (h : s.faults.kinds.length = 16) : (s.setKind k v).kind k = v := by
  cases k <;> simp [State.setKind, State.kind, FaultKind.index, h]

theorem kind_setKind_ne (s : State) {k j : FaultKind} (v : KindState) (h : j ≠ k) : (s.setKind k v).kind j = s.kind j := by
  have hi : k.index ≠ j.index := fun e => h (by revert e; cases j <;> cases k <;> decide)
  simp [State.setKind, State.kind, List.getElem?_set_ne hi]

/-! ### What each operation leaves as it was -/

@[simp] theorem State.setBank_frame (s : State) (i : BankId) (b : Bank) :
    (State.setBank s i b).queue = s.queue ∧ (State.setBank s i b).pass = s.pass ∧ (State.setBank s i b).ladder = s.ladder
      ∧ (State.setBank s i b).lamps.line = s.lamps.line ∧ (State.setBank s i b).lamps.exposure = s.lamps.exposure
      ∧ (State.setBank s i b).intake = s.intake ∧ (State.setBank s i b).merge = s.merge ∧ (State.setBank s i b).conv = s.conv
      ∧ (State.setBank s i b).cal = s.cal ∧ (State.setBank s i b).motion = s.motion ∧ (State.setBank s i b).zones = s.zones
      ∧ (State.setBank s i b).out = s.out ∧ (State.setBank s i b).stats = s.stats ∧ (State.setBank s i b).faults = s.faults
      ∧ (State.setBank s i b).params = s.params ∧ (State.setBank s i b).time = s.time ∧ (State.setBank s i b).link = s.link
      ∧ (State.setBank s i b).platePresent = s.platePresent ∧ (State.setBank s i b).now = s.now
      ∧ (State.setBank s i b).drawn = s.drawn ∧ (State.setBank s i b).pending = s.pending := by
  unfold State.setBank
  (try dsimp only) <;> (repeat' split) <;> simp

@[simp] theorem State.setFlat_frame (s : State) (i : BankId) (f : Flat) :
    (State.setFlat s i f).queue = s.queue ∧ (State.setFlat s i f).pass = s.pass ∧ (State.setFlat s i f).ladder = s.ladder
      ∧ (State.setFlat s i f).lamps = s.lamps ∧ (State.setFlat s i f).intake = s.intake ∧ (State.setFlat s i f).merge = s.merge
      ∧ (State.setFlat s i f).conv = s.conv ∧ (State.setFlat s i f).cal.cal = s.cal.cal
      ∧ (State.setFlat s i f).motion = s.motion ∧ (State.setFlat s i f).zones = s.zones ∧ (State.setFlat s i f).out = s.out
      ∧ (State.setFlat s i f).stats = s.stats ∧ (State.setFlat s i f).faults = s.faults
      ∧ (State.setFlat s i f).params = s.params ∧ (State.setFlat s i f).time = s.time ∧ (State.setFlat s i f).link = s.link
      ∧ (State.setFlat s i f).platePresent = s.platePresent ∧ (State.setFlat s i f).now = s.now
      ∧ (State.setFlat s i f).drawn = s.drawn ∧ (State.setFlat s i f).pending = s.pending := by
  unfold State.setFlat
  (try dsimp only) <;> (repeat' split) <;> simp

@[simp] theorem State.setSlot_frame (s : State) (i : SlotId) (d : Option Slot) :
    (State.setSlot s i d).queue = s.queue ∧ (State.setSlot s i d).pass = s.pass ∧ (State.setSlot s i d).ladder = s.ladder
      ∧ (State.setSlot s i d).lamps = s.lamps ∧ (State.setSlot s i d).intake.rx = s.intake.rx
      ∧ (State.setSlot s i d).intake.discarded = s.intake.discarded ∧ (State.setSlot s i d).merge = s.merge
      ∧ (State.setSlot s i d).conv = s.conv ∧ (State.setSlot s i d).cal = s.cal ∧ (State.setSlot s i d).motion = s.motion
      ∧ (State.setSlot s i d).zones = s.zones ∧ (State.setSlot s i d).out = s.out ∧ (State.setSlot s i d).stats = s.stats
      ∧ (State.setSlot s i d).faults = s.faults ∧ (State.setSlot s i d).params = s.params ∧ (State.setSlot s i d).time = s.time
      ∧ (State.setSlot s i d).link = s.link ∧ (State.setSlot s i d).platePresent = s.platePresent
      ∧ (State.setSlot s i d).now = s.now ∧ (State.setSlot s i d).drawn = s.drawn ∧ (State.setSlot s i d).pending = s.pending := by
  unfold State.setSlot
  (try dsimp only) <;> (repeat' split) <;> simp

@[simp] theorem State.setPlane_frame (s : State) (i : PlaneId) (d : Option Plane) :
    (State.setPlane s i d).queue = s.queue ∧ (State.setPlane s i d).pass = s.pass ∧ (State.setPlane s i d).ladder = s.ladder
      ∧ (State.setPlane s i d).lamps = s.lamps ∧ (State.setPlane s i d).intake = s.intake ∧ (State.setPlane s i d).conv = s.conv
      ∧ (State.setPlane s i d).cal = s.cal ∧ (State.setPlane s i d).motion = s.motion ∧ (State.setPlane s i d).zones = s.zones
      ∧ (State.setPlane s i d).out = s.out ∧ (State.setPlane s i d).stats = s.stats ∧ (State.setPlane s i d).faults = s.faults
      ∧ (State.setPlane s i d).params = s.params ∧ (State.setPlane s i d).time = s.time ∧ (State.setPlane s i d).link = s.link
      ∧ (State.setPlane s i d).platePresent = s.platePresent ∧ (State.setPlane s i d).now = s.now
      ∧ (State.setPlane s i d).drawn = s.drawn ∧ (State.setPlane s i d).pending = s.pending := by
  unfold State.setPlane
  (try dsimp only) <;> (repeat' split) <;> simp

@[simp] theorem State.setBuf_frame (s : State) (i : BufId) (d : Option Buf) :
    (State.setBuf s i d).queue = s.queue ∧ (State.setBuf s i d).pass = s.pass ∧ (State.setBuf s i d).ladder = s.ladder
      ∧ (State.setBuf s i d).lamps = s.lamps ∧ (State.setBuf s i d).intake = s.intake ∧ (State.setBuf s i d).merge = s.merge
      ∧ (State.setBuf s i d).conv = s.conv ∧ (State.setBuf s i d).cal = s.cal ∧ (State.setBuf s i d).motion = s.motion
      ∧ (State.setBuf s i d).zones = s.zones ∧ (State.setBuf s i d).stats = s.stats ∧ (State.setBuf s i d).faults = s.faults
      ∧ (State.setBuf s i d).params = s.params ∧ (State.setBuf s i d).time = s.time ∧ (State.setBuf s i d).link = s.link
      ∧ (State.setBuf s i d).platePresent = s.platePresent ∧ (State.setBuf s i d).now = s.now
      ∧ (State.setBuf s i d).drawn = s.drawn ∧ (State.setBuf s i d).pending = s.pending := by
  unfold State.setBuf
  (try dsimp only) <;> (repeat' split) <;> simp

@[simp] theorem State.releaseSlot_frame (s : State) (i : SlotId) :
    (State.releaseSlot s i).queue = s.queue ∧ (State.releaseSlot s i).pass = s.pass ∧ (State.releaseSlot s i).ladder = s.ladder
      ∧ (State.releaseSlot s i).lamps = s.lamps ∧ (State.releaseSlot s i).intake.rx = s.intake.rx
      ∧ (State.releaseSlot s i).intake.discarded = s.intake.discarded ∧ (State.releaseSlot s i).merge = s.merge
      ∧ (State.releaseSlot s i).conv = s.conv ∧ (State.releaseSlot s i).cal = s.cal ∧ (State.releaseSlot s i).motion = s.motion
      ∧ (State.releaseSlot s i).zones = s.zones ∧ (State.releaseSlot s i).out = s.out ∧ (State.releaseSlot s i).stats = s.stats
      ∧ (State.releaseSlot s i).faults = s.faults ∧ (State.releaseSlot s i).params = s.params
      ∧ (State.releaseSlot s i).time = s.time ∧ (State.releaseSlot s i).link = s.link
      ∧ (State.releaseSlot s i).platePresent = s.platePresent ∧ (State.releaseSlot s i).now = s.now
      ∧ (State.releaseSlot s i).drawn = s.drawn ∧ (State.releaseSlot s i).pending = s.pending := by
  unfold State.releaseSlot
  (try dsimp only) <;> (repeat' split) <;> simp

@[simp] theorem State.releasePlane_frame (s : State) (i : PlaneId) :
    (State.releasePlane s i).queue = s.queue ∧ (State.releasePlane s i).pass = s.pass
      ∧ (State.releasePlane s i).ladder = s.ladder ∧ (State.releasePlane s i).lamps = s.lamps
      ∧ (State.releasePlane s i).intake = s.intake ∧ (State.releasePlane s i).conv = s.conv
      ∧ (State.releasePlane s i).cal = s.cal ∧ (State.releasePlane s i).motion = s.motion
      ∧ (State.releasePlane s i).zones = s.zones ∧ (State.releasePlane s i).out = s.out
      ∧ (State.releasePlane s i).stats = s.stats ∧ (State.releasePlane s i).faults = s.faults
      ∧ (State.releasePlane s i).params = s.params ∧ (State.releasePlane s i).time = s.time
      ∧ (State.releasePlane s i).link = s.link ∧ (State.releasePlane s i).platePresent = s.platePresent
      ∧ (State.releasePlane s i).now = s.now ∧ (State.releasePlane s i).drawn = s.drawn
      ∧ (State.releasePlane s i).pending = s.pending := by
  unfold State.releasePlane
  (try dsimp only) <;> (repeat' split) <;> simp

@[simp] theorem postNotice_frame (n : Notice) (s : State) :
    (postNotice n s).queue = s.queue ∧ (postNotice n s).pass = s.pass ∧ (postNotice n s).ladder = s.ladder
      ∧ (postNotice n s).lamps = s.lamps ∧ (postNotice n s).intake = s.intake ∧ (postNotice n s).merge = s.merge
      ∧ (postNotice n s).conv = s.conv ∧ (postNotice n s).cal = s.cal ∧ (postNotice n s).motion = s.motion
      ∧ (postNotice n s).zones = s.zones ∧ (postNotice n s).out = s.out ∧ (postNotice n s).stats = s.stats
      ∧ (postNotice n s).faults = s.faults ∧ (postNotice n s).params = s.params ∧ (postNotice n s).time = s.time
      ∧ (postNotice n s).link.state = s.link.state ∧ (postNotice n s).link.intake = s.link.intake
      ∧ (postNotice n s).link.replies = s.link.replies ∧ (postNotice n s).link.pipe = s.link.pipe
      ∧ (postNotice n s).link.cause = s.link.cause ∧ (postNotice n s).platePresent = s.platePresent
      ∧ (postNotice n s).now = s.now ∧ (postNotice n s).drawn = s.drawn ∧ (postNotice n s).pending = s.pending := by
  unfold postNotice
  (try dsimp only) <;> (repeat' split) <;> simp

@[simp] theorem queueReply_frame (kind : Nat) (tag : Byte) (body : ReplyBody) (s : State) :
    (queueReply kind tag body s).queue = s.queue ∧ (queueReply kind tag body s).pass = s.pass
      ∧ (queueReply kind tag body s).ladder = s.ladder ∧ (queueReply kind tag body s).lamps = s.lamps
      ∧ (queueReply kind tag body s).intake = s.intake ∧ (queueReply kind tag body s).merge = s.merge
      ∧ (queueReply kind tag body s).conv = s.conv ∧ (queueReply kind tag body s).cal = s.cal
      ∧ (queueReply kind tag body s).motion = s.motion ∧ (queueReply kind tag body s).zones = s.zones
      ∧ (queueReply kind tag body s).out = s.out ∧ (queueReply kind tag body s).stats = s.stats
      ∧ (queueReply kind tag body s).faults = s.faults ∧ (queueReply kind tag body s).params = s.params
      ∧ (queueReply kind tag body s).time = s.time ∧ (queueReply kind tag body s).link.state = s.link.state
      ∧ (queueReply kind tag body s).link.intake = s.link.intake ∧ (queueReply kind tag body s).link.pipe = s.link.pipe
      ∧ (queueReply kind tag body s).link.cause = s.link.cause ∧ (queueReply kind tag body s).platePresent = s.platePresent
      ∧ (queueReply kind tag body s).now = s.now ∧ (queueReply kind tag body s).drawn = s.drawn
      ∧ (queueReply kind tag body s).pending = s.pending := by
  unfold queueReply
  (try dsimp only) <;> (repeat' split) <;> simp

@[simp] theorem raiseFault_frame (k : FaultKind) (ctx : Ctx) (s : State) :
    (raiseFault k ctx s).queue = s.queue ∧ (raiseFault k ctx s).pass = s.pass ∧ (raiseFault k ctx s).ladder = s.ladder
      ∧ (raiseFault k ctx s).lamps = s.lamps ∧ (raiseFault k ctx s).intake = s.intake ∧ (raiseFault k ctx s).merge = s.merge
      ∧ (raiseFault k ctx s).conv = s.conv ∧ (raiseFault k ctx s).cal = s.cal ∧ (raiseFault k ctx s).motion = s.motion
      ∧ (raiseFault k ctx s).zones = s.zones ∧ (raiseFault k ctx s).out = s.out ∧ (raiseFault k ctx s).stats = s.stats
      ∧ (raiseFault k ctx s).faults.kinds = s.faults.kinds ∧ (raiseFault k ctx s).faults.locked = s.faults.locked
      ∧ (raiseFault k ctx s).faults.jobMark = s.faults.jobMark ∧ (raiseFault k ctx s).params = s.params
      ∧ (raiseFault k ctx s).time = s.time ∧ (raiseFault k ctx s).link = s.link
      ∧ (raiseFault k ctx s).platePresent = s.platePresent ∧ (raiseFault k ctx s).now = s.now
      ∧ (raiseFault k ctx s).drawn = s.drawn ∧ (raiseFault k ctx s).pending = s.pending
      ∧ (raiseFault k ctx s).faults.ahead = s.faults.ahead := by
  unfold raiseFault
  (try dsimp only) <;> (repeat' split) <;> simp

@[simp] theorem addCounter_frame (c : CounterId) (amount : Nat) (s : State) :
    (addCounter c amount s).queue = s.queue ∧ (addCounter c amount s).pass = s.pass ∧ (addCounter c amount s).ladder = s.ladder
      ∧ (addCounter c amount s).lamps = s.lamps ∧ (addCounter c amount s).intake = s.intake
      ∧ (addCounter c amount s).merge = s.merge ∧ (addCounter c amount s).conv = s.conv ∧ (addCounter c amount s).cal = s.cal
      ∧ (addCounter c amount s).motion = s.motion ∧ (addCounter c amount s).zones = s.zones
      ∧ (addCounter c amount s).out = s.out ∧ (addCounter c amount s).stats.histState = s.stats.histState
      ∧ (addCounter c amount s).faults = s.faults ∧ (addCounter c amount s).params = s.params
      ∧ (addCounter c amount s).time = s.time ∧ (addCounter c amount s).link.state = s.link.state
      ∧ (addCounter c amount s).link.intake = s.link.intake ∧ (addCounter c amount s).link.replies = s.link.replies
      ∧ (addCounter c amount s).link.pipe = s.link.pipe ∧ (addCounter c amount s).link.cause = s.link.cause
      ∧ (addCounter c amount s).platePresent = s.platePresent ∧ (addCounter c amount s).now = s.now
      ∧ (addCounter c amount s).drawn = s.drawn ∧ (addCounter c amount s).pending = s.pending := by
  unfold addCounter
  (try dsimp only) <;> (repeat' split) <;> simp

@[simp] theorem State.draw_frame (s : State) :
    (State.draw s).queue = s.queue ∧ (State.draw s).pass = s.pass ∧ (State.draw s).ladder = s.ladder
      ∧ (State.draw s).lamps = s.lamps ∧ (State.draw s).intake = s.intake ∧ (State.draw s).merge = s.merge
      ∧ (State.draw s).conv = s.conv ∧ (State.draw s).cal = s.cal ∧ (State.draw s).motion = s.motion
      ∧ (State.draw s).zones = s.zones ∧ (State.draw s).out = s.out ∧ (State.draw s).stats = s.stats
      ∧ (State.draw s).faults = s.faults ∧ (State.draw s).params = s.params ∧ (State.draw s).time = s.time
      ∧ (State.draw s).link = s.link ∧ (State.draw s).platePresent = s.platePresent ∧ (State.draw s).now = s.now
      ∧ (State.draw s).pending = s.pending := by
  unfold State.draw
  (try dsimp only) <;> (repeat' split) <;> simp

@[simp] theorem wrapTime_frame (s : State) :
    (wrapTime s).queue = s.queue ∧ (wrapTime s).pass = s.pass ∧ (wrapTime s).ladder = s.ladder ∧ (wrapTime s).lamps = s.lamps
      ∧ (wrapTime s).intake = s.intake ∧ (wrapTime s).merge = s.merge ∧ (wrapTime s).conv = s.conv ∧ (wrapTime s).cal = s.cal
      ∧ (wrapTime s).motion = s.motion ∧ (wrapTime s).zones = s.zones ∧ (wrapTime s).out = s.out ∧ (wrapTime s).stats = s.stats
      ∧ (wrapTime s).faults = s.faults ∧ (wrapTime s).params = s.params ∧ (wrapTime s).link.state = s.link.state
      ∧ (wrapTime s).link.intake = s.link.intake ∧ (wrapTime s).link.replies = s.link.replies
      ∧ (wrapTime s).link.pipe = s.link.pipe ∧ (wrapTime s).link.cause = s.link.cause
      ∧ (wrapTime s).platePresent = s.platePresent ∧ (wrapTime s).now = s.now ∧ (wrapTime s).drawn = s.drawn
      ∧ (wrapTime s).pending = s.pending := by
  unfold wrapTime
  (try dsimp only) <;> (repeat' split) <;> simp

@[simp] theorem countUs_frame (s : State) :
    (countUs s).queue = s.queue ∧ (countUs s).pass = s.pass ∧ (countUs s).ladder = s.ladder ∧ (countUs s).lamps = s.lamps
      ∧ (countUs s).intake = s.intake ∧ (countUs s).merge = s.merge ∧ (countUs s).conv = s.conv ∧ (countUs s).cal = s.cal
      ∧ (countUs s).motion = s.motion ∧ (countUs s).zones = s.zones ∧ (countUs s).out = s.out ∧ (countUs s).stats = s.stats
      ∧ (countUs s).faults = s.faults ∧ (countUs s).params = s.params ∧ (countUs s).time.wraps = s.time.wraps
      ∧ (countUs s).link = s.link ∧ (countUs s).platePresent = s.platePresent ∧ (countUs s).now = s.now
      ∧ (countUs s).drawn = s.drawn ∧ (countUs s).pending = s.pending := by
  unfold countUs
  (try dsimp only) <;> (repeat' split) <;> simp

@[simp] theorem tickTime_frame (s : State) :
    (tickTime s).queue = s.queue ∧ (tickTime s).pass = s.pass ∧ (tickTime s).ladder = s.ladder ∧ (tickTime s).lamps = s.lamps
      ∧ (tickTime s).intake = s.intake ∧ (tickTime s).merge = s.merge ∧ (tickTime s).conv = s.conv ∧ (tickTime s).cal = s.cal
      ∧ (tickTime s).motion = s.motion ∧ (tickTime s).zones = s.zones ∧ (tickTime s).out = s.out ∧ (tickTime s).stats = s.stats
      ∧ (tickTime s).faults = s.faults ∧ (tickTime s).params = s.params ∧ (tickTime s).link.state = s.link.state
      ∧ (tickTime s).link.intake = s.link.intake ∧ (tickTime s).link.replies = s.link.replies
      ∧ (tickTime s).link.pipe = s.link.pipe ∧ (tickTime s).link.cause = s.link.cause
      ∧ (tickTime s).platePresent = s.platePresent ∧ (tickTime s).now = s.now ∧ (tickTime s).drawn = s.drawn
      ∧ (tickTime s).pending = s.pending := by
  unfold tickTime
  (try dsimp only) <;> (repeat' split) <;> simp

@[simp] theorem stopBudget_frame (s : State) :
    (stopBudget s).queue = s.queue ∧ (stopBudget s).pass.state = s.pass.state ∧ (stopBudget s).pass.job = s.pass.job
      ∧ (stopBudget s).pass.tile = s.pass.tile ∧ (stopBudget s).pass.mark = s.pass.mark
      ∧ (stopBudget s).pass.handedOver = s.pass.handedOver ∧ (stopBudget s).ladder = s.ladder ∧ (stopBudget s).lamps = s.lamps
      ∧ (stopBudget s).intake = s.intake ∧ (stopBudget s).merge = s.merge ∧ (stopBudget s).conv = s.conv
      ∧ (stopBudget s).cal = s.cal ∧ (stopBudget s).motion = s.motion ∧ (stopBudget s).zones = s.zones
      ∧ (stopBudget s).out = s.out ∧ (stopBudget s).stats = s.stats ∧ (stopBudget s).faults = s.faults
      ∧ (stopBudget s).params = s.params ∧ (stopBudget s).time = s.time ∧ (stopBudget s).link = s.link
      ∧ (stopBudget s).platePresent = s.platePresent ∧ (stopBudget s).now = s.now ∧ (stopBudget s).drawn = s.drawn
      ∧ (stopBudget s).pending = s.pending := by
  unfold stopBudget
  (try dsimp only) <;> (repeat' split) <;> simp

@[simp] theorem State.setKind_frame (s : State) (k : FaultKind) (v : KindState) :
    (State.setKind s k v).queue = s.queue ∧ (State.setKind s k v).pass = s.pass ∧ (State.setKind s k v).ladder = s.ladder
      ∧ (State.setKind s k v).lamps = s.lamps ∧ (State.setKind s k v).intake = s.intake ∧ (State.setKind s k v).merge = s.merge
      ∧ (State.setKind s k v).conv = s.conv ∧ (State.setKind s k v).cal = s.cal ∧ (State.setKind s k v).motion = s.motion
      ∧ (State.setKind s k v).zones = s.zones ∧ (State.setKind s k v).out = s.out ∧ (State.setKind s k v).stats = s.stats
      ∧ (State.setKind s k v).faults.locked = s.faults.locked ∧ (State.setKind s k v).faults.raised = s.faults.raised
      ∧ (State.setKind s k v).faults.jobMark = s.faults.jobMark ∧ (State.setKind s k v).params = s.params
      ∧ (State.setKind s k v).time = s.time ∧ (State.setKind s k v).link = s.link
      ∧ (State.setKind s k v).platePresent = s.platePresent ∧ (State.setKind s k v).now = s.now
      ∧ (State.setKind s k v).drawn = s.drawn ∧ (State.setKind s k v).pending = s.pending
      ∧ (State.setKind s k v).faults.ahead = s.faults.ahead := by
  unfold State.setKind
  (try dsimp only) <;> (repeat' split) <;> simp

@[simp] theorem markSeen_frame (k : FaultKind) (s : State) :
    (markSeen k s).queue = s.queue ∧ (markSeen k s).pass = s.pass ∧ (markSeen k s).ladder = s.ladder
      ∧ (markSeen k s).lamps = s.lamps ∧ (markSeen k s).intake = s.intake
      ∧ (markSeen k s).merge = s.merge ∧ (markSeen k s).conv = s.conv ∧ (markSeen k s).cal = s.cal
      ∧ (markSeen k s).motion = s.motion ∧ (markSeen k s).zones = s.zones ∧ (markSeen k s).out = s.out
      ∧ (markSeen k s).stats = s.stats ∧ (markSeen k s).faults.locked = s.faults.locked
      ∧ (markSeen k s).faults.raised = s.faults.raised ∧ (markSeen k s).params = s.params
      ∧ (markSeen k s).time = s.time ∧ (markSeen k s).link = s.link
      ∧ (markSeen k s).platePresent = s.platePresent ∧ (markSeen k s).now = s.now
      ∧ (markSeen k s).drawn = s.drawn ∧ (markSeen k s).pending = s.pending
      ∧ (markSeen k s).faults.ahead = s.faults.ahead := by
  unfold markSeen
  (try dsimp only) <;> (repeat' split) <;> simp

@[simp] theorem takeSlot_frame (k : FaultKind) (ctx : Context) (cls : Severity) (s : State) :
    ((takeSlot k ctx cls s).1).queue = s.queue ∧ ((takeSlot k ctx cls s).1).pass = s.pass
      ∧ ((takeSlot k ctx cls s).1).ladder = s.ladder ∧ ((takeSlot k ctx cls s).1).lamps = s.lamps
      ∧ ((takeSlot k ctx cls s).1).intake = s.intake ∧ ((takeSlot k ctx cls s).1).merge = s.merge
      ∧ ((takeSlot k ctx cls s).1).conv = s.conv ∧ ((takeSlot k ctx cls s).1).cal = s.cal
      ∧ ((takeSlot k ctx cls s).1).motion = s.motion ∧ ((takeSlot k ctx cls s).1).zones = s.zones
      ∧ ((takeSlot k ctx cls s).1).out = s.out ∧ ((takeSlot k ctx cls s).1).stats = s.stats
      ∧ ((takeSlot k ctx cls s).1).faults.kinds = s.faults.kinds ∧ ((takeSlot k ctx cls s).1).faults.locked = s.faults.locked
      ∧ ((takeSlot k ctx cls s).1).faults.raised = s.faults.raised
      ∧ ((takeSlot k ctx cls s).1).faults.jobMark = s.faults.jobMark
      ∧ ((takeSlot k ctx cls s).1).faults.escalations = s.faults.escalations ∧ ((takeSlot k ctx cls s).1).params = s.params
      ∧ ((takeSlot k ctx cls s).1).time = s.time ∧ ((takeSlot k ctx cls s).1).link = s.link
      ∧ ((takeSlot k ctx cls s).1).platePresent = s.platePresent ∧ ((takeSlot k ctx cls s).1).now = s.now
      ∧ ((takeSlot k ctx cls s).1).drawn = s.drawn ∧ ((takeSlot k ctx cls s).1).pending = s.pending
      ∧ ((takeSlot k ctx cls s).1).faults.ahead = s.faults.ahead := by
  unfold takeSlot
  (try dsimp only) <;> (repeat' split) <;> simp

@[simp] theorem recordFault_frame (k : FaultKind) (ctx : Ctx) (injected : Bool) (s : State) :
    ((recordFault k ctx injected s).1).queue = s.queue ∧ ((recordFault k ctx injected s).1).pass = s.pass
      ∧ ((recordFault k ctx injected s).1).ladder = s.ladder ∧ ((recordFault k ctx injected s).1).lamps = s.lamps
      ∧ ((recordFault k ctx injected s).1).intake = s.intake ∧ ((recordFault k ctx injected s).1).merge = s.merge
      ∧ ((recordFault k ctx injected s).1).conv = s.conv ∧ ((recordFault k ctx injected s).1).cal = s.cal
      ∧ ((recordFault k ctx injected s).1).motion = s.motion ∧ ((recordFault k ctx injected s).1).zones = s.zones
      ∧ ((recordFault k ctx injected s).1).out = s.out ∧ ((recordFault k ctx injected s).1).stats = s.stats
      ∧ ((recordFault k ctx injected s).1).faults.locked = s.faults.locked
      ∧ ((recordFault k ctx injected s).1).faults.raised = s.faults.raised
      ∧ ((recordFault k ctx injected s).1).params = s.params ∧ ((recordFault k ctx injected s).1).time = s.time
      ∧ ((recordFault k ctx injected s).1).link.state = s.link.state
      ∧ ((recordFault k ctx injected s).1).link.intake = s.link.intake
      ∧ ((recordFault k ctx injected s).1).link.replies = s.link.replies
      ∧ ((recordFault k ctx injected s).1).link.pipe = s.link.pipe
      ∧ ((recordFault k ctx injected s).1).link.cause = s.link.cause
      ∧ ((recordFault k ctx injected s).1).platePresent = s.platePresent ∧ ((recordFault k ctx injected s).1).now = s.now
      ∧ ((recordFault k ctx injected s).1).drawn = s.drawn ∧ ((recordFault k ctx injected s).1).pending = s.pending
      ∧ ((recordFault k ctx injected s).1).faults.ahead = s.faults.ahead := by
  unfold recordFault
  (try dsimp only) <;> (repeat' split) <;> simp

/-- The recording of an unmasked FATAL fault makes one escalation, behind those that wait (R181). -/
theorem recordFault_escalates (k : FaultKind) (ctx : Ctx) (injected : Bool) (s : State) (hm : (s.kind k).masked = false)
    (hs : (s.kind k).severity = .fatal) :
    (recordFault k ctx injected s).1.faults.escalations = s.faults.escalations ++ [(k, injected)] := by
  have he : (markSeen k s).faults.escalations = s.faults.escalations := by
    unfold markSeen
    dsimp only
    split <;> rfl
  simp only [recordFault, hm, hs, Bool.false_eq_true, if_false, if_true]
  split <;> simp only [postNotice_frame, takeSlot_frame, he]

@[simp] theorem takeRaised_frame (n : Nat) (s : State) :
    (takeRaised n s).queue = s.queue ∧ (takeRaised n s).pass = s.pass ∧ (takeRaised n s).ladder = s.ladder
      ∧ (takeRaised n s).lamps = s.lamps ∧ (takeRaised n s).intake = s.intake ∧ (takeRaised n s).merge = s.merge
      ∧ (takeRaised n s).conv = s.conv ∧ (takeRaised n s).cal = s.cal ∧ (takeRaised n s).motion = s.motion
      ∧ (takeRaised n s).zones = s.zones ∧ (takeRaised n s).out = s.out ∧ (takeRaised n s).stats = s.stats
      ∧ (takeRaised n s).faults.locked = s.faults.locked ∧ (takeRaised n s).params = s.params ∧ (takeRaised n s).time = s.time
      ∧ (takeRaised n s).link.state = s.link.state ∧ (takeRaised n s).link.intake = s.link.intake
      ∧ (takeRaised n s).link.replies = s.link.replies ∧ (takeRaised n s).link.pipe = s.link.pipe
      ∧ (takeRaised n s).link.cause = s.link.cause ∧ (takeRaised n s).platePresent = s.platePresent
      ∧ (takeRaised n s).now = s.now ∧ (takeRaised n s).drawn = s.drawn ∧ (takeRaised n s).pending = s.pending
      ∧ (takeRaised n s).faults.ahead = s.faults.ahead := by
  unfold takeRaised
  (try dsimp only) <;> (repeat' split) <;> simp

@[simp] theorem hitZone_frame (i : Nat) (s : State) :
    (hitZone i s).queue = s.queue ∧ (hitZone i s).pass = s.pass ∧ (hitZone i s).ladder = s.ladder
      ∧ (hitZone i s).lamps = s.lamps ∧ (hitZone i s).intake = s.intake ∧ (hitZone i s).merge = s.merge
      ∧ (hitZone i s).conv = s.conv ∧ (hitZone i s).cal = s.cal ∧ (hitZone i s).motion = s.motion ∧ (hitZone i s).out = s.out
      ∧ (hitZone i s).stats = s.stats ∧ (hitZone i s).faults = s.faults ∧ (hitZone i s).params = s.params
      ∧ (hitZone i s).time = s.time ∧ (hitZone i s).link = s.link ∧ (hitZone i s).platePresent = s.platePresent
      ∧ (hitZone i s).now = s.now ∧ (hitZone i s).drawn = s.drawn ∧ (hitZone i s).pending = s.pending := by
  unfold hitZone
  (try dsimp only) <;> (repeat' split) <;> simp

end Sys2Proof.Machine
end

