-- ==== Sys2Proof/Laws/Frames.lean ====
section
/-! SUPPORT. Which fields each shared operation leaves as they were, one lemma per operation, in the order of the files. -/

namespace Sys2Proof.Machine

open Sys2Proof

/-! ### Output.lean -/

@[simp] theorem joinRing_frame (r : TileRecord) (s : State) :
    (joinRing r s).queue = s.queue ∧ (joinRing r s).pass = s.pass ∧ (joinRing r s).ladder = s.ladder
      ∧ (joinRing r s).lamps = s.lamps ∧ (joinRing r s).intake = s.intake ∧ (joinRing r s).merge = s.merge
      ∧ (joinRing r s).conv = s.conv ∧ (joinRing r s).cal = s.cal ∧ (joinRing r s).motion = s.motion
      ∧ (joinRing r s).zones = s.zones ∧ (joinRing r s).stats = s.stats ∧ (joinRing r s).faults = s.faults
      ∧ (joinRing r s).params = s.params ∧ (joinRing r s).time = s.time ∧ (joinRing r s).link = s.link
      ∧ (joinRing r s).platePresent = s.platePresent ∧ (joinRing r s).now = s.now ∧ (joinRing r s).drawn = s.drawn
      ∧ (joinRing r s).pending = s.pending := by
  unfold joinRing
  (try dsimp only) <;> (repeat' split) <;> simp

@[simp] theorem logNotices_frame (unread : Nat) (s : State) :
    (logNotices unread s).queue = s.queue ∧ (logNotices unread s).pass = s.pass ∧ (logNotices unread s).ladder = s.ladder
      ∧ (logNotices unread s).lamps = s.lamps ∧ (logNotices unread s).intake = s.intake ∧ (logNotices unread s).merge = s.merge
      ∧ (logNotices unread s).conv = s.conv ∧ (logNotices unread s).cal = s.cal ∧ (logNotices unread s).motion = s.motion
      ∧ (logNotices unread s).zones = s.zones ∧ (logNotices unread s).stats = s.stats ∧ (logNotices unread s).faults = s.faults
      ∧ (logNotices unread s).params = s.params ∧ (logNotices unread s).time = s.time
      ∧ (logNotices unread s).link.state = s.link.state ∧ (logNotices unread s).link.intake = s.link.intake
      ∧ (logNotices unread s).link.replies = s.link.replies ∧ (logNotices unread s).link.pipe = s.link.pipe
      ∧ (logNotices unread s).link.cause = s.link.cause ∧ (logNotices unread s).platePresent = s.platePresent
      ∧ (logNotices unread s).now = s.now ∧ (logNotices unread s).drawn = s.drawn ∧ (logNotices unread s).pending = s.pending := by
  unfold logNotices
  (try dsimp only) <;> (repeat' split) <;> simp

@[simp] theorem tileDone_frame (r : TileRecord) (notifyQuiet : Bool) (s : State) :
    (tileDone r notifyQuiet s).queue = s.queue ∧ (tileDone r notifyQuiet s).pass = s.pass
      ∧ (tileDone r notifyQuiet s).ladder = s.ladder ∧ (tileDone r notifyQuiet s).lamps = s.lamps
      ∧ (tileDone r notifyQuiet s).intake = s.intake ∧ (tileDone r notifyQuiet s).merge = s.merge
      ∧ (tileDone r notifyQuiet s).conv = s.conv ∧ (tileDone r notifyQuiet s).cal = s.cal
      ∧ (tileDone r notifyQuiet s).motion = s.motion ∧ (tileDone r notifyQuiet s).zones = s.zones
      ∧ (tileDone r notifyQuiet s).out = s.out ∧ (tileDone r notifyQuiet s).stats = s.stats
      ∧ (tileDone r notifyQuiet s).faults = s.faults ∧ (tileDone r notifyQuiet s).params = s.params
      ∧ (tileDone r notifyQuiet s).time = s.time ∧ (tileDone r notifyQuiet s).link.state = s.link.state
      ∧ (tileDone r notifyQuiet s).link.intake = s.link.intake ∧ (tileDone r notifyQuiet s).link.replies = s.link.replies
      ∧ (tileDone r notifyQuiet s).link.pipe = s.link.pipe ∧ (tileDone r notifyQuiet s).link.cause = s.link.cause
      ∧ (tileDone r notifyQuiet s).platePresent = s.platePresent ∧ (tileDone r notifyQuiet s).now = s.now
      ∧ (tileDone r notifyQuiet s).drawn = s.drawn ∧ (tileDone r notifyQuiet s).pending = s.pending := by
  unfold tileDone
  (try dsimp only) <;> (repeat' split) <;> simp

@[simp] theorem countStatus_frame (r : TileRecord) (s : State) :
    (countStatus r s).queue = s.queue ∧ (countStatus r s).pass = s.pass ∧ (countStatus r s).ladder = s.ladder
      ∧ (countStatus r s).lamps = s.lamps ∧ (countStatus r s).intake = s.intake ∧ (countStatus r s).merge = s.merge
      ∧ (countStatus r s).conv = s.conv ∧ (countStatus r s).cal = s.cal ∧ (countStatus r s).motion = s.motion
      ∧ (countStatus r s).zones = s.zones ∧ (countStatus r s).out = s.out
      ∧ (countStatus r s).stats.histState = s.stats.histState ∧ (countStatus r s).faults = s.faults
      ∧ (countStatus r s).params = s.params ∧ (countStatus r s).time = s.time ∧ (countStatus r s).link.state = s.link.state
      ∧ (countStatus r s).link.intake = s.link.intake ∧ (countStatus r s).link.replies = s.link.replies
      ∧ (countStatus r s).link.pipe = s.link.pipe ∧ (countStatus r s).link.cause = s.link.cause
      ∧ (countStatus r s).platePresent = s.platePresent ∧ (countStatus r s).now = s.now ∧ (countStatus r s).drawn = s.drawn
      ∧ (countStatus r s).pending = s.pending := by
  unfold countStatus
  (try dsimp only) <;> (repeat' split) <;> simp

@[simp] theorem writeRecord_frame (r : TileRecord) (notifyQuiet : Bool) (s : State) :
    (writeRecord r notifyQuiet s).queue = s.queue ∧ (writeRecord r notifyQuiet s).pass.state = s.pass.state
      ∧ (writeRecord r notifyQuiet s).pass.job = s.pass.job ∧ (writeRecord r notifyQuiet s).pass.tile = s.pass.tile
      ∧ (writeRecord r notifyQuiet s).pass.mark = s.pass.mark
      ∧ (writeRecord r notifyQuiet s).pass.handedOver = s.pass.handedOver ∧ (writeRecord r notifyQuiet s).ladder = s.ladder
      ∧ (writeRecord r notifyQuiet s).lamps = s.lamps ∧ (writeRecord r notifyQuiet s).intake = s.intake
      ∧ (writeRecord r notifyQuiet s).merge = s.merge ∧ (writeRecord r notifyQuiet s).conv = s.conv
      ∧ (writeRecord r notifyQuiet s).cal = s.cal ∧ (writeRecord r notifyQuiet s).motion = s.motion
      ∧ (writeRecord r notifyQuiet s).zones = s.zones ∧ (writeRecord r notifyQuiet s).stats.histState = s.stats.histState
      ∧ (writeRecord r notifyQuiet s).faults = s.faults ∧ (writeRecord r notifyQuiet s).params = s.params
      ∧ (writeRecord r notifyQuiet s).time = s.time ∧ (writeRecord r notifyQuiet s).link.state = s.link.state
      ∧ (writeRecord r notifyQuiet s).link.intake = s.link.intake ∧ (writeRecord r notifyQuiet s).link.replies = s.link.replies
      ∧ (writeRecord r notifyQuiet s).link.pipe = s.link.pipe ∧ (writeRecord r notifyQuiet s).link.cause = s.link.cause
      ∧ (writeRecord r notifyQuiet s).platePresent = s.platePresent ∧ (writeRecord r notifyQuiet s).now = s.now
      ∧ (writeRecord r notifyQuiet s).drawn = s.drawn ∧ (writeRecord r notifyQuiet s).pending = s.pending := by
  unfold writeRecord
  (try dsimp only) <;> (repeat' split) <;> simp

@[simp] theorem markRead_frame (seq : Nat) (s : State) :
    (markRead seq s).queue = s.queue ∧ (markRead seq s).pass = s.pass ∧ (markRead seq s).ladder = s.ladder
      ∧ (markRead seq s).lamps = s.lamps ∧ (markRead seq s).intake = s.intake ∧ (markRead seq s).merge = s.merge
      ∧ (markRead seq s).conv = s.conv ∧ (markRead seq s).cal = s.cal ∧ (markRead seq s).motion = s.motion
      ∧ (markRead seq s).zones = s.zones ∧ (markRead seq s).stats = s.stats ∧ (markRead seq s).faults = s.faults
      ∧ (markRead seq s).params = s.params ∧ (markRead seq s).time = s.time ∧ (markRead seq s).link = s.link
      ∧ (markRead seq s).platePresent = s.platePresent ∧ (markRead seq s).now = s.now ∧ (markRead seq s).drawn = s.drawn
      ∧ (markRead seq s).pending = s.pending := by
  unfold markRead
  (try dsimp only) <;> (repeat' split) <;> simp

@[simp] theorem unsendBuffers_frame (s : State) :
    (unsendBuffers s).queue = s.queue ∧ (unsendBuffers s).pass = s.pass ∧ (unsendBuffers s).ladder = s.ladder
      ∧ (unsendBuffers s).lamps = s.lamps ∧ (unsendBuffers s).intake = s.intake ∧ (unsendBuffers s).merge = s.merge
      ∧ (unsendBuffers s).conv = s.conv ∧ (unsendBuffers s).cal = s.cal ∧ (unsendBuffers s).motion = s.motion
      ∧ (unsendBuffers s).zones = s.zones ∧ (unsendBuffers s).stats = s.stats ∧ (unsendBuffers s).faults = s.faults
      ∧ (unsendBuffers s).params = s.params ∧ (unsendBuffers s).time = s.time ∧ (unsendBuffers s).link = s.link
      ∧ (unsendBuffers s).platePresent = s.platePresent ∧ (unsendBuffers s).now = s.now ∧ (unsendBuffers s).drawn = s.drawn
      ∧ (unsendBuffers s).pending = s.pending := by
  unfold unsendBuffers
  (try dsimp only) <;> (repeat' split) <;> simp

/-! ### Stats.lean -/

@[simp] theorem openHistogram_frame (job : Nat × List Byte) (s : State) :
    (openHistogram job s).queue = s.queue ∧ (openHistogram job s).pass = s.pass ∧ (openHistogram job s).ladder = s.ladder
      ∧ (openHistogram job s).lamps = s.lamps ∧ (openHistogram job s).intake = s.intake ∧ (openHistogram job s).merge = s.merge
      ∧ (openHistogram job s).conv = s.conv ∧ (openHistogram job s).cal = s.cal ∧ (openHistogram job s).motion = s.motion
      ∧ (openHistogram job s).zones = s.zones ∧ (openHistogram job s).out = s.out ∧ (openHistogram job s).faults = s.faults
      ∧ (openHistogram job s).params = s.params ∧ (openHistogram job s).time = s.time ∧ (openHistogram job s).link = s.link
      ∧ (openHistogram job s).platePresent = s.platePresent ∧ (openHistogram job s).now = s.now
      ∧ (openHistogram job s).drawn = s.drawn ∧ (openHistogram job s).pending = s.pending := by
  unfold openHistogram
  (try dsimp only) <;> (repeat' split) <;> simp

@[simp] theorem freezeHistogram_frame (s : State) :
    (freezeHistogram s).queue = s.queue ∧ (freezeHistogram s).pass = s.pass ∧ (freezeHistogram s).ladder = s.ladder
      ∧ (freezeHistogram s).lamps = s.lamps ∧ (freezeHistogram s).intake = s.intake ∧ (freezeHistogram s).merge = s.merge
      ∧ (freezeHistogram s).conv = s.conv ∧ (freezeHistogram s).cal = s.cal ∧ (freezeHistogram s).motion = s.motion
      ∧ (freezeHistogram s).zones = s.zones ∧ (freezeHistogram s).out = s.out ∧ (freezeHistogram s).faults = s.faults
      ∧ (freezeHistogram s).params = s.params ∧ (freezeHistogram s).time = s.time ∧ (freezeHistogram s).link = s.link
      ∧ (freezeHistogram s).platePresent = s.platePresent ∧ (freezeHistogram s).now = s.now
      ∧ (freezeHistogram s).drawn = s.drawn ∧ (freezeHistogram s).pending = s.pending := by
  unfold freezeHistogram
  (try dsimp only) <;> (repeat' split) <;> simp

@[simp] theorem addHistogram_frame (g : ConvFigures) (s : State) :
    (addHistogram g s).queue = s.queue ∧ (addHistogram g s).pass = s.pass ∧ (addHistogram g s).ladder = s.ladder
      ∧ (addHistogram g s).lamps = s.lamps ∧ (addHistogram g s).intake = s.intake ∧ (addHistogram g s).merge = s.merge
      ∧ (addHistogram g s).conv = s.conv ∧ (addHistogram g s).cal = s.cal ∧ (addHistogram g s).motion = s.motion
      ∧ (addHistogram g s).zones = s.zones ∧ (addHistogram g s).out = s.out
      ∧ (addHistogram g s).stats.histState = s.stats.histState ∧ (addHistogram g s).faults = s.faults
      ∧ (addHistogram g s).params = s.params ∧ (addHistogram g s).time = s.time ∧ (addHistogram g s).link = s.link
      ∧ (addHistogram g s).platePresent = s.platePresent ∧ (addHistogram g s).now = s.now ∧ (addHistogram g s).drawn = s.drawn
      ∧ (addHistogram g s).pending = s.pending := by
  unfold addHistogram
  (try dsimp only) <;> (repeat' split) <;> simp

@[simp] theorem countJobEnd_frame (outcome : JobOutcome) (s : State) :
    (countJobEnd outcome s).queue = s.queue ∧ (countJobEnd outcome s).pass = s.pass ∧ (countJobEnd outcome s).ladder = s.ladder
      ∧ (countJobEnd outcome s).lamps = s.lamps ∧ (countJobEnd outcome s).intake = s.intake
      ∧ (countJobEnd outcome s).merge = s.merge ∧ (countJobEnd outcome s).conv = s.conv ∧ (countJobEnd outcome s).cal = s.cal
      ∧ (countJobEnd outcome s).motion = s.motion ∧ (countJobEnd outcome s).zones = s.zones
      ∧ (countJobEnd outcome s).out = s.out ∧ (countJobEnd outcome s).stats.histState = s.stats.histState
      ∧ (countJobEnd outcome s).faults = s.faults ∧ (countJobEnd outcome s).params = s.params
      ∧ (countJobEnd outcome s).time = s.time ∧ (countJobEnd outcome s).link.state = s.link.state
      ∧ (countJobEnd outcome s).link.intake = s.link.intake ∧ (countJobEnd outcome s).link.replies = s.link.replies
      ∧ (countJobEnd outcome s).link.pipe = s.link.pipe ∧ (countJobEnd outcome s).link.cause = s.link.cause
      ∧ (countJobEnd outcome s).platePresent = s.platePresent ∧ (countJobEnd outcome s).now = s.now
      ∧ (countJobEnd outcome s).drawn = s.drawn ∧ (countJobEnd outcome s).pending = s.pending := by
  unfold countJobEnd
  (try dsimp only) <;> (repeat' split) <;> simp

@[simp] theorem clearCounters_frame (s : State) :
    (clearCounters s).queue = s.queue ∧ (clearCounters s).pass = s.pass ∧ (clearCounters s).ladder = s.ladder
      ∧ (clearCounters s).lamps = s.lamps ∧ (clearCounters s).intake = s.intake ∧ (clearCounters s).merge = s.merge
      ∧ (clearCounters s).conv = s.conv ∧ (clearCounters s).cal = s.cal ∧ (clearCounters s).motion = s.motion
      ∧ (clearCounters s).zones = s.zones ∧ (clearCounters s).out = s.out
      ∧ (clearCounters s).stats.histState = s.stats.histState ∧ (clearCounters s).faults = s.faults
      ∧ (clearCounters s).params = s.params ∧ (clearCounters s).time = s.time ∧ (clearCounters s).link = s.link
      ∧ (clearCounters s).platePresent = s.platePresent ∧ (clearCounters s).now = s.now ∧ (clearCounters s).drawn = s.drawn
      ∧ (clearCounters s).pending = s.pending := by
  unfold clearCounters
  (try dsimp only) <;> (repeat' split) <;> simp

/-! ### Motion.lean -/

@[simp] theorem sendRecord_frame (bytes : List Byte) (s : State) :
    (sendRecord bytes s).queue = s.queue ∧ (sendRecord bytes s).pass = s.pass ∧ (sendRecord bytes s).ladder = s.ladder
      ∧ (sendRecord bytes s).lamps = s.lamps ∧ (sendRecord bytes s).intake = s.intake ∧ (sendRecord bytes s).merge = s.merge
      ∧ (sendRecord bytes s).conv = s.conv ∧ (sendRecord bytes s).cal = s.cal
      ∧ (sendRecord bytes s).motion.order = s.motion.order ∧ (sendRecord bytes s).motion.stop = s.motion.stop
      ∧ (sendRecord bytes s).motion.unsure = s.motion.unsure ∧ (sendRecord bytes s).motion.nextNumber = s.motion.nextNumber
      ∧ (sendRecord bytes s).zones = s.zones ∧ (sendRecord bytes s).out = s.out ∧ (sendRecord bytes s).stats = s.stats
      ∧ (sendRecord bytes s).faults = s.faults ∧ (sendRecord bytes s).params = s.params ∧ (sendRecord bytes s).time = s.time
      ∧ (sendRecord bytes s).link = s.link ∧ (sendRecord bytes s).platePresent = s.platePresent
      ∧ (sendRecord bytes s).now = s.now ∧ (sendRecord bytes s).drawn = s.drawn ∧ (sendRecord bytes s).pending = s.pending := by
  unfold sendRecord
  (try dsimp only) <;> (repeat' split) <;> simp

@[simp] theorem takeNumber_frame (s : State) :
    (takeNumber s).queue = s.queue ∧ (takeNumber s).pass = s.pass ∧ (takeNumber s).ladder = s.ladder
      ∧ (takeNumber s).lamps = s.lamps ∧ (takeNumber s).intake = s.intake ∧ (takeNumber s).merge = s.merge
      ∧ (takeNumber s).conv = s.conv ∧ (takeNumber s).cal = s.cal ∧ (takeNumber s).motion.order = s.motion.order
      ∧ (takeNumber s).motion.stop = s.motion.stop ∧ (takeNumber s).motion.unsure = s.motion.unsure
      ∧ (takeNumber s).zones = s.zones ∧ (takeNumber s).out = s.out ∧ (takeNumber s).stats = s.stats
      ∧ (takeNumber s).faults = s.faults ∧ (takeNumber s).params = s.params ∧ (takeNumber s).time = s.time
      ∧ (takeNumber s).link = s.link ∧ (takeNumber s).platePresent = s.platePresent ∧ (takeNumber s).now = s.now
      ∧ (takeNumber s).drawn = s.drawn ∧ (takeNumber s).pending = s.pending := by
  unfold takeNumber
  (try dsimp only) <;> (repeat' split) <;> simp

@[simp] theorem issueEffects_frame (kind : OrderKind) (s : State) :
    (issueEffects kind s).queue = s.queue ∧ (issueEffects kind s).pass.state = s.pass.state
      ∧ (issueEffects kind s).pass.job = s.pass.job ∧ (issueEffects kind s).pass.tile = s.pass.tile
      ∧ (issueEffects kind s).pass.mark = s.pass.mark ∧ (issueEffects kind s).pass.handedOver = s.pass.handedOver
      ∧ (issueEffects kind s).ladder = s.ladder ∧ (issueEffects kind s).lamps = s.lamps
      ∧ (issueEffects kind s).intake = s.intake ∧ (issueEffects kind s).merge = s.merge ∧ (issueEffects kind s).conv = s.conv
      ∧ (issueEffects kind s).cal = s.cal ∧ (issueEffects kind s).motion.order = s.motion.order
      ∧ (issueEffects kind s).motion.stop = s.motion.stop ∧ (issueEffects kind s).motion.unsure = s.motion.unsure
      ∧ (issueEffects kind s).motion.nextNumber = s.motion.nextNumber ∧ (issueEffects kind s).zones = s.zones
      ∧ (issueEffects kind s).out = s.out ∧ (issueEffects kind s).faults = s.faults ∧ (issueEffects kind s).params = s.params
      ∧ (issueEffects kind s).time = s.time ∧ (issueEffects kind s).link = s.link
      ∧ (issueEffects kind s).platePresent = s.platePresent ∧ (issueEffects kind s).now = s.now
      ∧ (issueEffects kind s).drawn = s.drawn ∧ (issueEffects kind s).pending = s.pending := by
  unfold issueEffects
  (try dsimp only) <;> (repeat' split) <;> simp

@[simp] theorem issueOrder_frame (w : Wanted) (retried : Bool) (s : State) :
    (issueOrder w retried s).queue = s.queue ∧ (issueOrder w retried s).pass.state = s.pass.state
      ∧ (issueOrder w retried s).pass.job = s.pass.job ∧ (issueOrder w retried s).pass.tile = s.pass.tile
      ∧ (issueOrder w retried s).pass.mark = s.pass.mark ∧ (issueOrder w retried s).pass.handedOver = s.pass.handedOver
      ∧ (issueOrder w retried s).ladder = s.ladder ∧ (issueOrder w retried s).lamps = s.lamps
      ∧ (issueOrder w retried s).intake = s.intake ∧ (issueOrder w retried s).merge = s.merge
      ∧ (issueOrder w retried s).conv = s.conv ∧ (issueOrder w retried s).cal = s.cal
      ∧ (issueOrder w retried s).motion.stop = s.motion.stop ∧ (issueOrder w retried s).motion.unsure = s.motion.unsure
      ∧ (issueOrder w retried s).zones = s.zones ∧ (issueOrder w retried s).out = s.out
      ∧ (issueOrder w retried s).faults = s.faults ∧ (issueOrder w retried s).params = s.params
      ∧ (issueOrder w retried s).time = s.time ∧ (issueOrder w retried s).link = s.link
      ∧ (issueOrder w retried s).platePresent = s.platePresent ∧ (issueOrder w retried s).now = s.now
      ∧ (issueOrder w retried s).drawn = s.drawn ∧ (issueOrder w retried s).pending = s.pending := by
  unfold issueOrder
  (try dsimp only) <;> (repeat' split) <;> simp

@[simp] theorem wantOrder_frame (w : Wanted) (s : State) :
    (wantOrder w s).queue = s.queue ∧ (wantOrder w s).pass.state = s.pass.state ∧ (wantOrder w s).pass.job = s.pass.job
      ∧ (wantOrder w s).pass.tile = s.pass.tile ∧ (wantOrder w s).pass.mark = s.pass.mark
      ∧ (wantOrder w s).pass.handedOver = s.pass.handedOver ∧ (wantOrder w s).ladder = s.ladder
      ∧ (wantOrder w s).lamps = s.lamps ∧ (wantOrder w s).intake = s.intake ∧ (wantOrder w s).merge = s.merge
      ∧ (wantOrder w s).conv = s.conv ∧ (wantOrder w s).cal = s.cal ∧ (wantOrder w s).motion.stop = s.motion.stop
      ∧ (wantOrder w s).motion.unsure = s.motion.unsure ∧ (wantOrder w s).zones = s.zones ∧ (wantOrder w s).out = s.out
      ∧ (wantOrder w s).faults = s.faults ∧ (wantOrder w s).params = s.params ∧ (wantOrder w s).time = s.time
      ∧ (wantOrder w s).link = s.link ∧ (wantOrder w s).platePresent = s.platePresent ∧ (wantOrder w s).now = s.now
      ∧ (wantOrder w s).drawn = s.drawn ∧ (wantOrder w s).pending = s.pending := by
  unfold wantOrder
  (try dsimp only) <;> (repeat' split) <;> simp

@[simp] theorem newStop_frame (reissue : Bool) (s : State) :
    (newStop reissue s).queue = s.queue ∧ (newStop reissue s).pass = s.pass ∧ (newStop reissue s).ladder = s.ladder
      ∧ (newStop reissue s).lamps = s.lamps ∧ (newStop reissue s).intake = s.intake ∧ (newStop reissue s).merge = s.merge
      ∧ (newStop reissue s).conv = s.conv ∧ (newStop reissue s).cal = s.cal ∧ (newStop reissue s).motion.order = s.motion.order
      ∧ (newStop reissue s).motion.unsure = s.motion.unsure ∧ (newStop reissue s).zones = s.zones
      ∧ (newStop reissue s).out = s.out ∧ (newStop reissue s).stats = s.stats ∧ (newStop reissue s).faults = s.faults
      ∧ (newStop reissue s).params = s.params ∧ (newStop reissue s).time = s.time ∧ (newStop reissue s).link = s.link
      ∧ (newStop reissue s).platePresent = s.platePresent ∧ (newStop reissue s).now = s.now
      ∧ (newStop reissue s).drawn = s.drawn ∧ (newStop reissue s).pending = s.pending := by
  unfold newStop
  (try dsimp only) <;> (repeat' split) <;> simp

@[simp] theorem sendStop_frame (s : State) :
    (sendStop s).queue = s.queue ∧ (sendStop s).pass = s.pass ∧ (sendStop s).ladder = s.ladder ∧ (sendStop s).lamps = s.lamps
      ∧ (sendStop s).intake = s.intake ∧ (sendStop s).merge = s.merge ∧ (sendStop s).conv = s.conv ∧ (sendStop s).cal = s.cal
      ∧ (sendStop s).motion.unsure = s.motion.unsure ∧ (sendStop s).zones = s.zones ∧ (sendStop s).out = s.out
      ∧ (sendStop s).stats = s.stats ∧ (sendStop s).faults = s.faults ∧ (sendStop s).params = s.params
      ∧ (sendStop s).time = s.time ∧ (sendStop s).link = s.link ∧ (sendStop s).platePresent = s.platePresent
      ∧ (sendStop s).now = s.now ∧ (sendStop s).drawn = s.drawn ∧ (sendStop s).pending = s.pending := by
  unfold sendStop
  (try dsimp only) <;> (repeat' split) <;> simp

@[simp] theorem retryStop_frame (s : State) :
    (retryStop s).queue = s.queue ∧ (retryStop s).pass = s.pass ∧ (retryStop s).ladder = s.ladder
      ∧ (retryStop s).lamps = s.lamps ∧ (retryStop s).intake = s.intake ∧ (retryStop s).merge = s.merge
      ∧ (retryStop s).conv = s.conv ∧ (retryStop s).cal = s.cal ∧ (retryStop s).motion.unsure = s.motion.unsure
      ∧ (retryStop s).zones = s.zones ∧ (retryStop s).out = s.out ∧ (retryStop s).stats = s.stats
      ∧ (retryStop s).faults = s.faults ∧ (retryStop s).params = s.params ∧ (retryStop s).time = s.time
      ∧ (retryStop s).link = s.link ∧ (retryStop s).platePresent = s.platePresent ∧ (retryStop s).now = s.now
      ∧ (retryStop s).drawn = s.drawn ∧ (retryStop s).pending = s.pending := by
  unfold retryStop
  (try dsimp only) <;> (repeat' split) <;> simp

@[simp] theorem completeStop_frame (unsure : Bool) (s : State) :
    (completeStop unsure s).queue = s.queue ∧ (completeStop unsure s).pass.state = s.pass.state
      ∧ (completeStop unsure s).pass.job = s.pass.job ∧ (completeStop unsure s).pass.tile = s.pass.tile
      ∧ (completeStop unsure s).pass.mark = s.pass.mark ∧ (completeStop unsure s).pass.handedOver = s.pass.handedOver
      ∧ (completeStop unsure s).ladder = s.ladder ∧ (completeStop unsure s).lamps = s.lamps
      ∧ (completeStop unsure s).intake = s.intake ∧ (completeStop unsure s).merge = s.merge
      ∧ (completeStop unsure s).conv = s.conv ∧ (completeStop unsure s).cal = s.cal ∧ (completeStop unsure s).zones = s.zones
      ∧ (completeStop unsure s).out = s.out ∧ (completeStop unsure s).faults = s.faults
      ∧ (completeStop unsure s).params = s.params ∧ (completeStop unsure s).time = s.time
      ∧ (completeStop unsure s).link = s.link ∧ (completeStop unsure s).platePresent = s.platePresent
      ∧ (completeStop unsure s).now = s.now ∧ (completeStop unsure s).drawn = s.drawn
      ∧ (completeStop unsure s).pending = s.pending := by
  unfold completeStop
  (try dsimp only) <;> (repeat' split) <;> simp

@[simp] theorem discardReport_frame (s : State) :
    (discardReport s).queue = s.queue ∧ (discardReport s).pass = s.pass ∧ (discardReport s).ladder = s.ladder
      ∧ (discardReport s).lamps = s.lamps ∧ (discardReport s).intake = s.intake ∧ (discardReport s).merge = s.merge
      ∧ (discardReport s).conv = s.conv ∧ (discardReport s).cal = s.cal ∧ (discardReport s).motion.order = s.motion.order
      ∧ (discardReport s).motion.stop = s.motion.stop ∧ (discardReport s).motion.unsure = s.motion.unsure
      ∧ (discardReport s).motion.nextNumber = s.motion.nextNumber ∧ (discardReport s).zones = s.zones
      ∧ (discardReport s).out = s.out ∧ (discardReport s).stats = s.stats ∧ (discardReport s).faults = s.faults
      ∧ (discardReport s).params = s.params ∧ (discardReport s).time = s.time ∧ (discardReport s).link = s.link
      ∧ (discardReport s).platePresent = s.platePresent ∧ (discardReport s).now = s.now ∧ (discardReport s).drawn = s.drawn
      ∧ (discardReport s).pending = s.pending := by
  unfold discardReport
  (try dsimp only) <;> (repeat' split) <;> simp

@[simp] theorem noteReport_frame (kind : ReportKind) (number : Nat) (s : State) :
    (noteReport kind number s).queue = s.queue ∧ (noteReport kind number s).pass = s.pass
      ∧ (noteReport kind number s).ladder = s.ladder ∧ (noteReport kind number s).lamps = s.lamps
      ∧ (noteReport kind number s).intake = s.intake ∧ (noteReport kind number s).merge = s.merge
      ∧ (noteReport kind number s).conv = s.conv ∧ (noteReport kind number s).cal = s.cal
      ∧ (noteReport kind number s).motion.order = s.motion.order ∧ (noteReport kind number s).motion.stop = s.motion.stop
      ∧ (noteReport kind number s).motion.unsure = s.motion.unsure
      ∧ (noteReport kind number s).motion.nextNumber = s.motion.nextNumber ∧ (noteReport kind number s).zones = s.zones
      ∧ (noteReport kind number s).out = s.out ∧ (noteReport kind number s).stats = s.stats
      ∧ (noteReport kind number s).faults = s.faults ∧ (noteReport kind number s).params = s.params
      ∧ (noteReport kind number s).time = s.time ∧ (noteReport kind number s).link = s.link
      ∧ (noteReport kind number s).platePresent = s.platePresent ∧ (noteReport kind number s).now = s.now
      ∧ (noteReport kind number s).drawn = s.drawn ∧ (noteReport kind number s).pending = s.pending := by
  unfold noteReport
  (try dsimp only) <;> (repeat' split) <;> simp

@[simp] theorem endOrder_frame (o : Order) (s : State) :
    (endOrder o s).queue = s.queue ∧ (endOrder o s).pass = s.pass ∧ (endOrder o s).ladder = s.ladder
      ∧ (endOrder o s).lamps = s.lamps ∧ (endOrder o s).intake = s.intake ∧ (endOrder o s).merge = s.merge
      ∧ (endOrder o s).conv = s.conv ∧ (endOrder o s).cal = s.cal ∧ (endOrder o s).motion.stop = s.motion.stop
      ∧ (endOrder o s).motion.nextNumber = s.motion.nextNumber ∧ (endOrder o s).zones = s.zones ∧ (endOrder o s).out = s.out
      ∧ (endOrder o s).stats = s.stats ∧ (endOrder o s).faults = s.faults ∧ (endOrder o s).params = s.params
      ∧ (endOrder o s).time = s.time ∧ (endOrder o s).link = s.link ∧ (endOrder o s).platePresent = s.platePresent
      ∧ (endOrder o s).now = s.now ∧ (endOrder o s).drawn = s.drawn ∧ (endOrder o s).pending = s.pending := by
  unfold endOrder
  (try dsimp only) <;> (repeat' split) <;> simp

/-! ### Lamp.lean -/

@[simp] theorem expose_frame (bank : BankId) (purpose : Purpose) (e : Nat) (reading : Sample) (s : State) :
    (expose bank purpose e reading s).queue = s.queue ∧ (expose bank purpose e reading s).pass = s.pass
      ∧ (expose bank purpose e reading s).ladder = s.ladder ∧ (expose bank purpose e reading s).intake = s.intake
      ∧ (expose bank purpose e reading s).merge = s.merge ∧ (expose bank purpose e reading s).conv = s.conv
      ∧ (expose bank purpose e reading s).cal = s.cal ∧ (expose bank purpose e reading s).motion = s.motion
      ∧ (expose bank purpose e reading s).zones = s.zones ∧ (expose bank purpose e reading s).out = s.out
      ∧ (expose bank purpose e reading s).stats = s.stats ∧ (expose bank purpose e reading s).faults = s.faults
      ∧ (expose bank purpose e reading s).params = s.params ∧ (expose bank purpose e reading s).time = s.time
      ∧ (expose bank purpose e reading s).link = s.link ∧ (expose bank purpose e reading s).platePresent = s.platePresent
      ∧ (expose bank purpose e reading s).now = s.now ∧ (expose bank purpose e reading s).drawn = s.drawn
      ∧ (expose bank purpose e reading s).pending = s.pending := by
  unfold expose
  (try dsimp only) <;> (repeat' split) <;> simp

@[simp] theorem darkenAtEnd_frame (x : Exposure) (s : State) :
    (darkenAtEnd x s).queue = s.queue ∧ (darkenAtEnd x s).pass = s.pass ∧ (darkenAtEnd x s).ladder = s.ladder
      ∧ (darkenAtEnd x s).intake = s.intake ∧ (darkenAtEnd x s).merge = s.merge ∧ (darkenAtEnd x s).conv = s.conv
      ∧ (darkenAtEnd x s).cal = s.cal ∧ (darkenAtEnd x s).motion = s.motion ∧ (darkenAtEnd x s).zones = s.zones
      ∧ (darkenAtEnd x s).out = s.out ∧ (darkenAtEnd x s).stats = s.stats ∧ (darkenAtEnd x s).faults = s.faults
      ∧ (darkenAtEnd x s).params = s.params ∧ (darkenAtEnd x s).time = s.time ∧ (darkenAtEnd x s).link = s.link
      ∧ (darkenAtEnd x s).platePresent = s.platePresent ∧ (darkenAtEnd x s).now = s.now ∧ (darkenAtEnd x s).drawn = s.drawn
      ∧ (darkenAtEnd x s).pending = s.pending := by
  unfold darkenAtEnd
  (try dsimp only) <;> (repeat' split) <;> simp

@[simp] theorem darkenNow_frame (s : State) :
    (darkenNow s).queue = s.queue ∧ (darkenNow s).pass = s.pass ∧ (darkenNow s).ladder = s.ladder
      ∧ (darkenNow s).lamps.line = s.lamps.line ∧ (darkenNow s).intake = s.intake ∧ (darkenNow s).merge = s.merge
      ∧ (darkenNow s).conv = s.conv ∧ (darkenNow s).cal = s.cal ∧ (darkenNow s).motion = s.motion
      ∧ (darkenNow s).zones = s.zones ∧ (darkenNow s).out = s.out ∧ (darkenNow s).stats = s.stats
      ∧ (darkenNow s).faults = s.faults ∧ (darkenNow s).params = s.params ∧ (darkenNow s).time = s.time
      ∧ (darkenNow s).link = s.link ∧ (darkenNow s).platePresent = s.platePresent ∧ (darkenNow s).now = s.now
      ∧ (darkenNow s).drawn = s.drawn ∧ (darkenNow s).pending = s.pending := by
  unfold darkenNow
  (try dsimp only) <;> (repeat' split) <;> simp

@[simp] theorem failBank_frame (bank : BankId) (lit : Bool) (s : State) :
    (failBank bank lit s).queue = s.queue ∧ (failBank bank lit s).pass = s.pass ∧ (failBank bank lit s).ladder = s.ladder
      ∧ (failBank bank lit s).lamps.line = s.lamps.line ∧ (failBank bank lit s).lamps.exposure = s.lamps.exposure
      ∧ (failBank bank lit s).intake = s.intake ∧ (failBank bank lit s).merge = s.merge ∧ (failBank bank lit s).conv = s.conv
      ∧ (failBank bank lit s).cal = s.cal ∧ (failBank bank lit s).motion = s.motion ∧ (failBank bank lit s).zones = s.zones
      ∧ (failBank bank lit s).out = s.out ∧ (failBank bank lit s).stats = s.stats ∧ (failBank bank lit s).faults = s.faults
      ∧ (failBank bank lit s).params = s.params ∧ (failBank bank lit s).time = s.time ∧ (failBank bank lit s).link = s.link
      ∧ (failBank bank lit s).platePresent = s.platePresent ∧ (failBank bank lit s).now = s.now
      ∧ (failBank bank lit s).drawn = s.drawn ∧ (failBank bank lit s).pending = s.pending := by
  unfold failBank
  (try dsimp only) <;> (repeat' split) <;> simp

@[simp] theorem darkFault_frame (bank : BankId) (s : State) :
    (darkFault bank s).queue = s.queue ∧ (darkFault bank s).pass = s.pass ∧ (darkFault bank s).ladder = s.ladder
      ∧ (darkFault bank s).lamps.line = s.lamps.line ∧ (darkFault bank s).lamps.exposure = s.lamps.exposure
      ∧ (darkFault bank s).intake = s.intake ∧ (darkFault bank s).merge = s.merge ∧ (darkFault bank s).conv = s.conv
      ∧ (darkFault bank s).cal = s.cal ∧ (darkFault bank s).motion = s.motion ∧ (darkFault bank s).zones = s.zones
      ∧ (darkFault bank s).out = s.out ∧ (darkFault bank s).stats = s.stats ∧ (darkFault bank s).faults.kinds = s.faults.kinds
      ∧ (darkFault bank s).faults.locked = s.faults.locked ∧ (darkFault bank s).faults.jobMark = s.faults.jobMark
      ∧ (darkFault bank s).params = s.params ∧ (darkFault bank s).time = s.time ∧ (darkFault bank s).link = s.link
      ∧ (darkFault bank s).platePresent = s.platePresent ∧ (darkFault bank s).now = s.now ∧ (darkFault bank s).drawn = s.drawn
      ∧ (darkFault bank s).pending = s.pending := by
  unfold darkFault
  (try dsimp only) <;> (repeat' split) <;> simp

@[simp] theorem setFaultInput_frame (bank : BankId) (asserted : Bool) (s : State) :
    (setFaultInput bank asserted s).queue = s.queue ∧ (setFaultInput bank asserted s).pass = s.pass
      ∧ (setFaultInput bank asserted s).ladder = s.ladder ∧ (setFaultInput bank asserted s).lamps.line = s.lamps.line
      ∧ (setFaultInput bank asserted s).lamps.exposure = s.lamps.exposure ∧ (setFaultInput bank asserted s).intake = s.intake
      ∧ (setFaultInput bank asserted s).merge = s.merge ∧ (setFaultInput bank asserted s).conv = s.conv
      ∧ (setFaultInput bank asserted s).cal = s.cal ∧ (setFaultInput bank asserted s).motion = s.motion
      ∧ (setFaultInput bank asserted s).zones = s.zones ∧ (setFaultInput bank asserted s).out = s.out
      ∧ (setFaultInput bank asserted s).stats = s.stats ∧ (setFaultInput bank asserted s).faults = s.faults
      ∧ (setFaultInput bank asserted s).params = s.params ∧ (setFaultInput bank asserted s).time = s.time
      ∧ (setFaultInput bank asserted s).link = s.link ∧ (setFaultInput bank asserted s).platePresent = s.platePresent
      ∧ (setFaultInput bank asserted s).now = s.now ∧ (setFaultInput bank asserted s).drawn = s.drawn
      ∧ (setFaultInput bank asserted s).pending = s.pending := by
  unfold setFaultInput
  (try dsimp only) <;> (repeat' split) <;> simp

/-! ### Intake.lean -/

@[simp] theorem markFilling_frame (taker : Taker) (s : State) :
    (markFilling taker s).queue = s.queue ∧ (markFilling taker s).pass = s.pass ∧ (markFilling taker s).ladder = s.ladder
      ∧ (markFilling taker s).lamps = s.lamps ∧ (markFilling taker s).intake.rx = s.intake.rx
      ∧ (markFilling taker s).intake.discarded = s.intake.discarded ∧ (markFilling taker s).merge = s.merge
      ∧ (markFilling taker s).conv = s.conv ∧ (markFilling taker s).cal = s.cal ∧ (markFilling taker s).motion = s.motion
      ∧ (markFilling taker s).zones = s.zones ∧ (markFilling taker s).out = s.out ∧ (markFilling taker s).stats = s.stats
      ∧ (markFilling taker s).faults = s.faults ∧ (markFilling taker s).params = s.params ∧ (markFilling taker s).time = s.time
      ∧ (markFilling taker s).link = s.link ∧ (markFilling taker s).platePresent = s.platePresent
      ∧ (markFilling taker s).now = s.now ∧ (markFilling taker s).drawn = s.drawn ∧ (markFilling taker s).pending = s.pending := by
  unfold markFilling
  (try dsimp only) <;> (repeat' split) <;> simp

@[simp] theorem countDiscarded_frame (s : State) :
    (countDiscarded s).queue = s.queue ∧ (countDiscarded s).pass = s.pass ∧ (countDiscarded s).ladder = s.ladder
      ∧ (countDiscarded s).lamps = s.lamps ∧ (countDiscarded s).intake.s1 = s.intake.s1
      ∧ (countDiscarded s).intake.s2 = s.intake.s2 ∧ (countDiscarded s).intake.last = s.intake.last
      ∧ (countDiscarded s).intake.rx = s.intake.rx ∧ (countDiscarded s).intake.validOrder = s.intake.validOrder
      ∧ (countDiscarded s).merge = s.merge ∧ (countDiscarded s).conv = s.conv ∧ (countDiscarded s).cal = s.cal
      ∧ (countDiscarded s).motion = s.motion ∧ (countDiscarded s).zones = s.zones ∧ (countDiscarded s).out = s.out
      ∧ (countDiscarded s).stats = s.stats ∧ (countDiscarded s).faults = s.faults ∧ (countDiscarded s).params = s.params
      ∧ (countDiscarded s).time = s.time ∧ (countDiscarded s).link = s.link ∧ (countDiscarded s).platePresent = s.platePresent
      ∧ (countDiscarded s).now = s.now ∧ (countDiscarded s).drawn = s.drawn ∧ (countDiscarded s).pending = s.pending := by
  unfold countDiscarded
  (try dsimp only) <;> (repeat' split) <;> simp

@[simp] theorem countStray_frame (s : State) :
    (countStray s).queue = s.queue ∧ (countStray s).pass = s.pass ∧ (countStray s).ladder = s.ladder
      ∧ (countStray s).lamps = s.lamps ∧ (countStray s).merge = s.merge ∧ (countStray s).conv = s.conv
      ∧ (countStray s).cal = s.cal ∧ (countStray s).motion = s.motion ∧ (countStray s).zones = s.zones
      ∧ (countStray s).out = s.out ∧ (countStray s).stats = s.stats ∧ (countStray s).faults = s.faults
      ∧ (countStray s).params = s.params ∧ (countStray s).time = s.time ∧ (countStray s).link = s.link
      ∧ (countStray s).platePresent = s.platePresent ∧ (countStray s).now = s.now ∧ (countStray s).drawn = s.drawn
      ∧ (countStray s).pending = s.pending := by
  unfold countStray
  (try dsimp only) <;> (repeat' split) <;> simp

@[simp] theorem startFrame_frame (s : State) :
    (startFrame s).queue = s.queue ∧ (startFrame s).pass = s.pass ∧ (startFrame s).ladder = s.ladder
      ∧ (startFrame s).lamps = s.lamps ∧ (startFrame s).merge = s.merge ∧ (startFrame s).conv = s.conv
      ∧ (startFrame s).cal = s.cal ∧ (startFrame s).motion = s.motion ∧ (startFrame s).zones = s.zones
      ∧ (startFrame s).out = s.out ∧ (startFrame s).stats = s.stats ∧ (startFrame s).faults = s.faults
      ∧ (startFrame s).params = s.params ∧ (startFrame s).time = s.time ∧ (startFrame s).link = s.link
      ∧ (startFrame s).platePresent = s.platePresent ∧ (startFrame s).now = s.now ∧ (startFrame s).drawn = s.drawn
      ∧ (startFrame s).pending = s.pending := by
  unfold startFrame
  (try dsimp only) <;> (repeat' split) <;> simp

/-! ### Merge.lean -/

@[simp] theorem fillPlane_frame (i : PlaneId) (fields : LadderFields) (s : State) :
    (fillPlane i fields s).queue = s.queue ∧ (fillPlane i fields s).pass = s.pass ∧ (fillPlane i fields s).ladder = s.ladder
      ∧ (fillPlane i fields s).lamps = s.lamps ∧ (fillPlane i fields s).intake = s.intake ∧ (fillPlane i fields s).conv = s.conv
      ∧ (fillPlane i fields s).cal = s.cal ∧ (fillPlane i fields s).motion = s.motion ∧ (fillPlane i fields s).zones = s.zones
      ∧ (fillPlane i fields s).out = s.out ∧ (fillPlane i fields s).stats = s.stats ∧ (fillPlane i fields s).faults = s.faults
      ∧ (fillPlane i fields s).params = s.params ∧ (fillPlane i fields s).time = s.time ∧ (fillPlane i fields s).link = s.link
      ∧ (fillPlane i fields s).platePresent = s.platePresent ∧ (fillPlane i fields s).now = s.now
      ∧ (fillPlane i fields s).drawn = s.drawn ∧ (fillPlane i fields s).pending = s.pending := by
  unfold fillPlane
  (try dsimp only) <;> (repeat' split) <;> simp

@[simp] theorem setFlight_frame (i : SlotId) (st : FlightState) (s : State) :
    (setFlight i st s).queue = s.queue ∧ (setFlight i st s).pass = s.pass ∧ (setFlight i st s).lamps = s.lamps
      ∧ (setFlight i st s).intake = s.intake ∧ (setFlight i st s).merge = s.merge ∧ (setFlight i st s).conv = s.conv
      ∧ (setFlight i st s).cal = s.cal ∧ (setFlight i st s).motion = s.motion ∧ (setFlight i st s).zones = s.zones
      ∧ (setFlight i st s).out = s.out ∧ (setFlight i st s).stats = s.stats ∧ (setFlight i st s).faults = s.faults
      ∧ (setFlight i st s).params = s.params ∧ (setFlight i st s).time = s.time ∧ (setFlight i st s).link = s.link
      ∧ (setFlight i st s).platePresent = s.platePresent ∧ (setFlight i st s).now = s.now ∧ (setFlight i st s).drawn = s.drawn
      ∧ (setFlight i st s).pending = s.pending := by
  unfold setFlight
  (try dsimp only) <;> (repeat' split) <;> simp

/-! ### Ladder.lean -/

@[simp] theorem mapLadder_frame (f : Ladder → Ladder) (s : State) :
    (mapLadder f s).queue = s.queue ∧ (mapLadder f s).pass = s.pass ∧ (mapLadder f s).lamps = s.lamps
      ∧ (mapLadder f s).intake = s.intake ∧ (mapLadder f s).merge = s.merge ∧ (mapLadder f s).conv = s.conv
      ∧ (mapLadder f s).cal = s.cal ∧ (mapLadder f s).motion = s.motion ∧ (mapLadder f s).zones = s.zones
      ∧ (mapLadder f s).out = s.out ∧ (mapLadder f s).stats = s.stats ∧ (mapLadder f s).faults = s.faults
      ∧ (mapLadder f s).params = s.params ∧ (mapLadder f s).time = s.time ∧ (mapLadder f s).link = s.link
      ∧ (mapLadder f s).platePresent = s.platePresent ∧ (mapLadder f s).now = s.now ∧ (mapLadder f s).drawn = s.drawn
      ∧ (mapLadder f s).pending = s.pending := by
  unfold mapLadder
  (try dsimp only) <;> (repeat' split) <;> simp

@[simp] theorem staleCheck_frame (bank : BankId) (s : State) :
    (staleCheck bank s).queue = s.queue ∧ (staleCheck bank s).pass.state = s.pass.state
      ∧ (staleCheck bank s).pass.job = s.pass.job ∧ (staleCheck bank s).pass.tile = s.pass.tile
      ∧ (staleCheck bank s).pass.mark = s.pass.mark ∧ (staleCheck bank s).pass.handedOver = s.pass.handedOver
      ∧ (staleCheck bank s).ladder = s.ladder ∧ (staleCheck bank s).lamps = s.lamps ∧ (staleCheck bank s).intake = s.intake
      ∧ (staleCheck bank s).merge = s.merge ∧ (staleCheck bank s).conv = s.conv ∧ (staleCheck bank s).cal.cal = s.cal.cal
      ∧ (staleCheck bank s).cal.flatA = s.cal.flatA ∧ (staleCheck bank s).cal.flatB = s.cal.flatB
      ∧ (staleCheck bank s).motion = s.motion ∧ (staleCheck bank s).zones = s.zones ∧ (staleCheck bank s).out = s.out
      ∧ (staleCheck bank s).stats = s.stats ∧ (staleCheck bank s).faults.kinds = s.faults.kinds
      ∧ (staleCheck bank s).faults.locked = s.faults.locked ∧ (staleCheck bank s).faults.jobMark = s.faults.jobMark
      ∧ (staleCheck bank s).params = s.params ∧ (staleCheck bank s).time = s.time ∧ (staleCheck bank s).link = s.link
      ∧ (staleCheck bank s).platePresent = s.platePresent ∧ (staleCheck bank s).now = s.now
      ∧ (staleCheck bank s).drawn = s.drawn ∧ (staleCheck bank s).pending = s.pending := by
  unfold staleCheck
  (try dsimp only) <;> (repeat' split) <;> simp

@[simp] theorem takeBank_frame (job : JobRecord) (bank : BankId) (s : State) :
    (takeBank job bank s).queue = s.queue ∧ (takeBank job bank s).pass.state = s.pass.state
      ∧ (takeBank job bank s).pass.job = s.pass.job ∧ (takeBank job bank s).pass.tile = s.pass.tile
      ∧ (takeBank job bank s).pass.mark = s.pass.mark ∧ (takeBank job bank s).pass.handedOver = s.pass.handedOver
      ∧ (takeBank job bank s).ladder = s.ladder ∧ (takeBank job bank s).lamps = s.lamps
      ∧ (takeBank job bank s).intake = s.intake ∧ (takeBank job bank s).merge = s.merge ∧ (takeBank job bank s).conv = s.conv
      ∧ (takeBank job bank s).cal.cal = s.cal.cal ∧ (takeBank job bank s).cal.flatA = s.cal.flatA
      ∧ (takeBank job bank s).cal.flatB = s.cal.flatB ∧ (takeBank job bank s).motion = s.motion
      ∧ (takeBank job bank s).zones = s.zones ∧ (takeBank job bank s).out = s.out ∧ (takeBank job bank s).stats = s.stats
      ∧ (takeBank job bank s).faults.kinds = s.faults.kinds ∧ (takeBank job bank s).faults.locked = s.faults.locked
      ∧ (takeBank job bank s).faults.jobMark = s.faults.jobMark ∧ (takeBank job bank s).params = s.params
      ∧ (takeBank job bank s).time = s.time ∧ (takeBank job bank s).link = s.link
      ∧ (takeBank job bank s).platePresent = s.platePresent ∧ (takeBank job bank s).now = s.now
      ∧ (takeBank job bank s).drawn = s.drawn ∧ (takeBank job bank s).pending = s.pending := by
  unfold takeBank
  (try dsimp only) <;> (repeat' split) <;> simp

@[simp] theorem enterRung_frame (e : RungEntry) (s : State) :
    (enterRung e s).queue = s.queue ∧ (enterRung e s).pass = s.pass ∧ (enterRung e s).lamps = s.lamps
      ∧ (enterRung e s).intake = s.intake ∧ (enterRung e s).merge = s.merge ∧ (enterRung e s).conv = s.conv
      ∧ (enterRung e s).cal = s.cal ∧ (enterRung e s).motion = s.motion ∧ (enterRung e s).zones = s.zones
      ∧ (enterRung e s).out = s.out ∧ (enterRung e s).stats = s.stats ∧ (enterRung e s).faults = s.faults
      ∧ (enterRung e s).params = s.params ∧ (enterRung e s).time = s.time ∧ (enterRung e s).link = s.link
      ∧ (enterRung e s).platePresent = s.platePresent ∧ (enterRung e s).now = s.now ∧ (enterRung e s).drawn = s.drawn
      ∧ (enterRung e s).pending = s.pending := by
  unfold enterRung
  (try dsimp only) <;> (repeat' split) <;> simp

@[simp] theorem endFlight_frame (i : SlotId) (s : State) :
    (endFlight i s).queue = s.queue ∧ (endFlight i s).pass = s.pass ∧ (endFlight i s).lamps = s.lamps
      ∧ (endFlight i s).intake = s.intake ∧ (endFlight i s).merge = s.merge ∧ (endFlight i s).conv = s.conv
      ∧ (endFlight i s).cal = s.cal ∧ (endFlight i s).motion = s.motion ∧ (endFlight i s).zones = s.zones
      ∧ (endFlight i s).out = s.out ∧ (endFlight i s).stats = s.stats ∧ (endFlight i s).faults = s.faults
      ∧ (endFlight i s).params = s.params ∧ (endFlight i s).time = s.time ∧ (endFlight i s).link = s.link
      ∧ (endFlight i s).platePresent = s.platePresent ∧ (endFlight i s).now = s.now ∧ (endFlight i s).drawn = s.drawn
      ∧ (endFlight i s).pending = s.pending := by
  unfold endFlight
  (try dsimp only) <;> (repeat' split) <;> simp

@[simp] theorem clearCurrent_frame (s : State) :
    (clearCurrent s).queue = s.queue ∧ (clearCurrent s).pass = s.pass ∧ (clearCurrent s).lamps = s.lamps
      ∧ (clearCurrent s).intake = s.intake ∧ (clearCurrent s).merge = s.merge ∧ (clearCurrent s).conv = s.conv
      ∧ (clearCurrent s).cal = s.cal ∧ (clearCurrent s).motion = s.motion ∧ (clearCurrent s).zones = s.zones
      ∧ (clearCurrent s).out = s.out ∧ (clearCurrent s).stats = s.stats ∧ (clearCurrent s).faults = s.faults
      ∧ (clearCurrent s).params = s.params ∧ (clearCurrent s).time = s.time ∧ (clearCurrent s).link = s.link
      ∧ (clearCurrent s).platePresent = s.platePresent ∧ (clearCurrent s).now = s.now ∧ (clearCurrent s).drawn = s.drawn
      ∧ (clearCurrent s).pending = s.pending := by
  unfold clearCurrent
  (try dsimp only) <;> (repeat' split) <;> simp

@[simp] theorem moveBank_frame (s : State) :
    (moveBank s).queue = s.queue ∧ (moveBank s).pass.state = s.pass.state ∧ (moveBank s).pass.job = s.pass.job
      ∧ (moveBank s).pass.tile = s.pass.tile ∧ (moveBank s).pass.mark = s.pass.mark
      ∧ (moveBank s).pass.handedOver = s.pass.handedOver ∧ (moveBank s).lamps = s.lamps ∧ (moveBank s).intake = s.intake
      ∧ (moveBank s).merge = s.merge ∧ (moveBank s).conv = s.conv ∧ (moveBank s).cal.cal = s.cal.cal
      ∧ (moveBank s).cal.flatA = s.cal.flatA ∧ (moveBank s).cal.flatB = s.cal.flatB ∧ (moveBank s).motion = s.motion
      ∧ (moveBank s).zones = s.zones ∧ (moveBank s).out = s.out ∧ (moveBank s).stats = s.stats
      ∧ (moveBank s).faults.kinds = s.faults.kinds ∧ (moveBank s).faults.locked = s.faults.locked
      ∧ (moveBank s).faults.jobMark = s.faults.jobMark ∧ (moveBank s).params = s.params ∧ (moveBank s).time = s.time
      ∧ (moveBank s).link = s.link ∧ (moveBank s).platePresent = s.platePresent ∧ (moveBank s).now = s.now
      ∧ (moveBank s).drawn = s.drawn ∧ (moveBank s).pending = s.pending := by
  unfold moveBank
  (try dsimp only) <;> (repeat' split) <;> simp

@[simp] theorem clearTilePlane_frame (s : State) :
    (clearTilePlane s).queue = s.queue ∧ (clearTilePlane s).pass = s.pass ∧ (clearTilePlane s).ladder = s.ladder
      ∧ (clearTilePlane s).lamps = s.lamps ∧ (clearTilePlane s).intake = s.intake ∧ (clearTilePlane s).conv = s.conv
      ∧ (clearTilePlane s).cal = s.cal ∧ (clearTilePlane s).motion = s.motion ∧ (clearTilePlane s).zones = s.zones
      ∧ (clearTilePlane s).out = s.out ∧ (clearTilePlane s).stats = s.stats ∧ (clearTilePlane s).faults = s.faults
      ∧ (clearTilePlane s).params = s.params ∧ (clearTilePlane s).time = s.time ∧ (clearTilePlane s).link = s.link
      ∧ (clearTilePlane s).platePresent = s.platePresent ∧ (clearTilePlane s).now = s.now ∧ (clearTilePlane s).drawn = s.drawn
      ∧ (clearTilePlane s).pending = s.pending := by
  unfold clearTilePlane
  (try dsimp only) <;> (repeat' split) <;> simp

@[simp] theorem finishRestart_frame (policy : Bool) (s : State) :
    (finishRestart policy s).queue = s.queue ∧ (finishRestart policy s).pass.state = s.pass.state
      ∧ (finishRestart policy s).pass.job = s.pass.job ∧ (finishRestart policy s).pass.tile = s.pass.tile
      ∧ (finishRestart policy s).pass.mark = s.pass.mark ∧ (finishRestart policy s).pass.handedOver = s.pass.handedOver
      ∧ (finishRestart policy s).lamps = s.lamps ∧ (finishRestart policy s).intake = s.intake
      ∧ (finishRestart policy s).conv = s.conv ∧ (finishRestart policy s).cal.cal = s.cal.cal
      ∧ (finishRestart policy s).cal.flatA = s.cal.flatA ∧ (finishRestart policy s).cal.flatB = s.cal.flatB
      ∧ (finishRestart policy s).motion = s.motion ∧ (finishRestart policy s).zones = s.zones
      ∧ (finishRestart policy s).out = s.out ∧ (finishRestart policy s).stats.histState = s.stats.histState
      ∧ (finishRestart policy s).faults.kinds = s.faults.kinds ∧ (finishRestart policy s).faults.locked = s.faults.locked
      ∧ (finishRestart policy s).faults.jobMark = s.faults.jobMark ∧ (finishRestart policy s).params = s.params
      ∧ (finishRestart policy s).time = s.time ∧ (finishRestart policy s).link.state = s.link.state
      ∧ (finishRestart policy s).link.intake = s.link.intake ∧ (finishRestart policy s).link.replies = s.link.replies
      ∧ (finishRestart policy s).link.pipe = s.link.pipe ∧ (finishRestart policy s).link.cause = s.link.cause
      ∧ (finishRestart policy s).platePresent = s.platePresent ∧ (finishRestart policy s).now = s.now
      ∧ (finishRestart policy s).drawn = s.drawn ∧ (finishRestart policy s).pending = s.pending := by
  unfold finishRestart
  (try dsimp only) <;> (repeat' split) <;> simp

@[simp] theorem frameSucceeded_frame (i : SlotId) (rung clipped pixels : Nat) (s : State) :
    (frameSucceeded i rung clipped pixels s).queue = s.queue ∧ (frameSucceeded i rung clipped pixels s).pass = s.pass
      ∧ (frameSucceeded i rung clipped pixels s).lamps = s.lamps ∧ (frameSucceeded i rung clipped pixels s).intake = s.intake
      ∧ (frameSucceeded i rung clipped pixels s).merge = s.merge ∧ (frameSucceeded i rung clipped pixels s).conv = s.conv
      ∧ (frameSucceeded i rung clipped pixels s).cal = s.cal ∧ (frameSucceeded i rung clipped pixels s).motion = s.motion
      ∧ (frameSucceeded i rung clipped pixels s).zones = s.zones ∧ (frameSucceeded i rung clipped pixels s).out = s.out
      ∧ (frameSucceeded i rung clipped pixels s).stats.histState = s.stats.histState
      ∧ (frameSucceeded i rung clipped pixels s).faults = s.faults ∧ (frameSucceeded i rung clipped pixels s).params = s.params
      ∧ (frameSucceeded i rung clipped pixels s).time = s.time
      ∧ (frameSucceeded i rung clipped pixels s).link.state = s.link.state
      ∧ (frameSucceeded i rung clipped pixels s).link.intake = s.link.intake
      ∧ (frameSucceeded i rung clipped pixels s).link.replies = s.link.replies
      ∧ (frameSucceeded i rung clipped pixels s).link.pipe = s.link.pipe
      ∧ (frameSucceeded i rung clipped pixels s).link.cause = s.link.cause
      ∧ (frameSucceeded i rung clipped pixels s).platePresent = s.platePresent
      ∧ (frameSucceeded i rung clipped pixels s).now = s.now ∧ (frameSucceeded i rung clipped pixels s).drawn = s.drawn
      ∧ (frameSucceeded i rung clipped pixels s).pending = s.pending := by
  unfold frameSucceeded
  (try dsimp only) <;> (repeat' split) <;> simp

@[simp] theorem cutExposure_frame (s : State) :
    (cutExposure s).queue = s.queue ∧ (cutExposure s).pass = s.pass ∧ (cutExposure s).ladder = s.ladder
      ∧ (cutExposure s).lamps.line = s.lamps.line ∧ (cutExposure s).intake.rx = s.intake.rx
      ∧ (cutExposure s).intake.discarded = s.intake.discarded ∧ (cutExposure s).merge = s.merge ∧ (cutExposure s).conv = s.conv
      ∧ (cutExposure s).cal = s.cal ∧ (cutExposure s).motion = s.motion ∧ (cutExposure s).zones = s.zones
      ∧ (cutExposure s).out = s.out ∧ (cutExposure s).stats = s.stats ∧ (cutExposure s).faults = s.faults
      ∧ (cutExposure s).params = s.params ∧ (cutExposure s).time = s.time ∧ (cutExposure s).link = s.link
      ∧ (cutExposure s).platePresent = s.platePresent ∧ (cutExposure s).now = s.now ∧ (cutExposure s).drawn = s.drawn
      ∧ (cutExposure s).pending = s.pending := by
  unfold cutExposure
  (try dsimp only) <;> (repeat' split) <;> simp

@[simp] theorem extend_frame (s : State) :
    (extend s).queue = s.queue ∧ (extend s).pass = s.pass ∧ (extend s).lamps = s.lamps ∧ (extend s).intake = s.intake
      ∧ (extend s).merge = s.merge ∧ (extend s).conv = s.conv ∧ (extend s).cal = s.cal ∧ (extend s).motion = s.motion
      ∧ (extend s).zones = s.zones ∧ (extend s).out = s.out ∧ (extend s).stats.histState = s.stats.histState
      ∧ (extend s).faults = s.faults ∧ (extend s).params = s.params ∧ (extend s).time = s.time
      ∧ (extend s).link.state = s.link.state ∧ (extend s).link.intake = s.link.intake ∧ (extend s).link.replies = s.link.replies
      ∧ (extend s).link.pipe = s.link.pipe ∧ (extend s).link.cause = s.link.cause ∧ (extend s).platePresent = s.platePresent
      ∧ (extend s).now = s.now ∧ (extend s).drawn = s.drawn ∧ (extend s).pending = s.pending := by
  unfold extend
  (try dsimp only) <;> (repeat' split) <;> simp

@[simp] theorem startAttempt_frame (l : Ladder) (window : Window) (r a : Nat) (i : SlotId) (reading : Sample) (s : State) :
    (startAttempt l window r a i reading s).queue = s.queue ∧ (startAttempt l window r a i reading s).pass = s.pass
      ∧ (startAttempt l window r a i reading s).intake.rx = s.intake.rx
      ∧ (startAttempt l window r a i reading s).intake.discarded = s.intake.discarded
      ∧ (startAttempt l window r a i reading s).merge = s.merge ∧ (startAttempt l window r a i reading s).conv = s.conv
      ∧ (startAttempt l window r a i reading s).cal = s.cal ∧ (startAttempt l window r a i reading s).motion = s.motion
      ∧ (startAttempt l window r a i reading s).zones = s.zones ∧ (startAttempt l window r a i reading s).out = s.out
      ∧ (startAttempt l window r a i reading s).stats.histState = s.stats.histState
      ∧ (startAttempt l window r a i reading s).faults = s.faults ∧ (startAttempt l window r a i reading s).params = s.params
      ∧ (startAttempt l window r a i reading s).time = s.time
      ∧ (startAttempt l window r a i reading s).link.state = s.link.state
      ∧ (startAttempt l window r a i reading s).link.intake = s.link.intake
      ∧ (startAttempt l window r a i reading s).link.replies = s.link.replies
      ∧ (startAttempt l window r a i reading s).link.pipe = s.link.pipe
      ∧ (startAttempt l window r a i reading s).link.cause = s.link.cause
      ∧ (startAttempt l window r a i reading s).platePresent = s.platePresent
      ∧ (startAttempt l window r a i reading s).now = s.now ∧ (startAttempt l window r a i reading s).drawn = s.drawn
      ∧ (startAttempt l window r a i reading s).pending = s.pending := by
  unfold startAttempt
  (try dsimp only) <;> (repeat' split) <;> simp

/-! ### Calibration.lean -/

@[simp] theorem mapCal_frame (f : Calibration → Calibration) (s : State) :
    (mapCal f s).queue = s.queue ∧ (mapCal f s).pass = s.pass ∧ (mapCal f s).ladder = s.ladder ∧ (mapCal f s).lamps = s.lamps
      ∧ (mapCal f s).intake = s.intake ∧ (mapCal f s).merge = s.merge ∧ (mapCal f s).conv = s.conv
      ∧ (mapCal f s).cal.flatA = s.cal.flatA ∧ (mapCal f s).cal.flatB = s.cal.flatB ∧ (mapCal f s).motion = s.motion
      ∧ (mapCal f s).zones = s.zones ∧ (mapCal f s).out = s.out ∧ (mapCal f s).stats = s.stats ∧ (mapCal f s).faults = s.faults
      ∧ (mapCal f s).params = s.params ∧ (mapCal f s).time = s.time ∧ (mapCal f s).link = s.link
      ∧ (mapCal f s).platePresent = s.platePresent ∧ (mapCal f s).now = s.now ∧ (mapCal f s).drawn = s.drawn
      ∧ (mapCal f s).pending = s.pending := by
  unfold mapCal
  (try dsimp only) <;> (repeat' split) <;> simp

@[simp] theorem endCal_frame (c : Calibration) (judged : Option (Nat × Nat)) (made : Option (Nat × Nat × Nat)) (s : State) :
    (endCal c judged made s).queue = s.queue ∧ (endCal c judged made s).pass = s.pass
      ∧ (endCal c judged made s).ladder = s.ladder ∧ (endCal c judged made s).lamps = s.lamps
      ∧ (endCal c judged made s).intake = s.intake ∧ (endCal c judged made s).merge = s.merge
      ∧ (endCal c judged made s).conv = s.conv ∧ (endCal c judged made s).cal.flatA = s.cal.flatA
      ∧ (endCal c judged made s).cal.flatB = s.cal.flatB ∧ (endCal c judged made s).motion = s.motion
      ∧ (endCal c judged made s).zones = s.zones ∧ (endCal c judged made s).out = s.out
      ∧ (endCal c judged made s).stats = s.stats ∧ (endCal c judged made s).faults = s.faults
      ∧ (endCal c judged made s).params = s.params ∧ (endCal c judged made s).time = s.time
      ∧ (endCal c judged made s).link.state = s.link.state ∧ (endCal c judged made s).link.intake = s.link.intake
      ∧ (endCal c judged made s).link.replies = s.link.replies ∧ (endCal c judged made s).link.pipe = s.link.pipe
      ∧ (endCal c judged made s).link.cause = s.link.cause ∧ (endCal c judged made s).platePresent = s.platePresent
      ∧ (endCal c judged made s).now = s.now ∧ (endCal c judged made s).drawn = s.drawn
      ∧ (endCal c judged made s).pending = s.pending := by
  unfold endCal
  (try dsimp only) <;> (repeat' split) <;> simp

@[simp] theorem closeCal_frame (s : State) :
    (closeCal s).queue = s.queue ∧ (closeCal s).pass = s.pass ∧ (closeCal s).ladder = s.ladder ∧ (closeCal s).lamps = s.lamps
      ∧ (closeCal s).intake = s.intake ∧ (closeCal s).merge = s.merge ∧ (closeCal s).conv = s.conv
      ∧ (closeCal s).cal.flatA = s.cal.flatA ∧ (closeCal s).cal.flatB = s.cal.flatB ∧ (closeCal s).motion = s.motion
      ∧ (closeCal s).zones = s.zones ∧ (closeCal s).out = s.out ∧ (closeCal s).stats = s.stats ∧ (closeCal s).faults = s.faults
      ∧ (closeCal s).params = s.params ∧ (closeCal s).time = s.time ∧ (closeCal s).link.state = s.link.state
      ∧ (closeCal s).link.intake = s.link.intake ∧ (closeCal s).link.replies = s.link.replies
      ∧ (closeCal s).link.pipe = s.link.pipe ∧ (closeCal s).link.cause = s.link.cause
      ∧ (closeCal s).platePresent = s.platePresent ∧ (closeCal s).now = s.now ∧ (closeCal s).drawn = s.drawn
      ∧ (closeCal s).pending = s.pending := by
  unfold closeCal
  (try dsimp only) <;> (repeat' split) <;> simp

@[simp] theorem calOrderDone_frame (s : State) :
    (calOrderDone s).queue = s.queue ∧ (calOrderDone s).pass.state = s.pass.state ∧ (calOrderDone s).pass.job = s.pass.job
      ∧ (calOrderDone s).pass.tile = s.pass.tile ∧ (calOrderDone s).pass.mark = s.pass.mark
      ∧ (calOrderDone s).pass.handedOver = s.pass.handedOver ∧ (calOrderDone s).ladder = s.ladder
      ∧ (calOrderDone s).lamps = s.lamps ∧ (calOrderDone s).intake = s.intake ∧ (calOrderDone s).merge = s.merge
      ∧ (calOrderDone s).conv = s.conv ∧ (calOrderDone s).cal.flatA = s.cal.flatA ∧ (calOrderDone s).cal.flatB = s.cal.flatB
      ∧ (calOrderDone s).motion.stop = s.motion.stop ∧ (calOrderDone s).motion.unsure = s.motion.unsure
      ∧ (calOrderDone s).zones = s.zones ∧ (calOrderDone s).out = s.out ∧ (calOrderDone s).faults = s.faults
      ∧ (calOrderDone s).params = s.params ∧ (calOrderDone s).time = s.time ∧ (calOrderDone s).link = s.link
      ∧ (calOrderDone s).platePresent = s.platePresent ∧ (calOrderDone s).now = s.now ∧ (calOrderDone s).drawn = s.drawn
      ∧ (calOrderDone s).pending = s.pending := by
  unfold calOrderDone
  (try dsimp only) <;> (repeat' split) <;> simp

@[simp] theorem calExposureEnd_frame (m : Nat) (s : State) :
    (calExposureEnd m s).queue = s.queue ∧ (calExposureEnd m s).pass = s.pass ∧ (calExposureEnd m s).ladder = s.ladder
      ∧ (calExposureEnd m s).lamps = s.lamps ∧ (calExposureEnd m s).intake = s.intake ∧ (calExposureEnd m s).merge = s.merge
      ∧ (calExposureEnd m s).conv = s.conv ∧ (calExposureEnd m s).cal.flatA = s.cal.flatA
      ∧ (calExposureEnd m s).cal.flatB = s.cal.flatB ∧ (calExposureEnd m s).motion = s.motion
      ∧ (calExposureEnd m s).zones = s.zones ∧ (calExposureEnd m s).out = s.out ∧ (calExposureEnd m s).stats = s.stats
      ∧ (calExposureEnd m s).faults = s.faults ∧ (calExposureEnd m s).params = s.params ∧ (calExposureEnd m s).time = s.time
      ∧ (calExposureEnd m s).link = s.link ∧ (calExposureEnd m s).platePresent = s.platePresent
      ∧ (calExposureEnd m s).now = s.now ∧ (calExposureEnd m s).drawn = s.drawn ∧ (calExposureEnd m s).pending = s.pending := by
  unfold calExposureEnd
  (try dsimp only) <;> (repeat' split) <;> simp

@[simp] theorem calFrameValid_frame (s : State) :
    (calFrameValid s).queue = s.queue ∧ (calFrameValid s).pass = s.pass ∧ (calFrameValid s).ladder = s.ladder
      ∧ (calFrameValid s).lamps = s.lamps ∧ (calFrameValid s).intake = s.intake ∧ (calFrameValid s).merge = s.merge
      ∧ (calFrameValid s).conv = s.conv ∧ (calFrameValid s).cal.flatA = s.cal.flatA ∧ (calFrameValid s).cal.flatB = s.cal.flatB
      ∧ (calFrameValid s).motion = s.motion ∧ (calFrameValid s).zones = s.zones ∧ (calFrameValid s).out = s.out
      ∧ (calFrameValid s).stats = s.stats ∧ (calFrameValid s).faults = s.faults ∧ (calFrameValid s).params = s.params
      ∧ (calFrameValid s).time = s.time ∧ (calFrameValid s).link = s.link ∧ (calFrameValid s).platePresent = s.platePresent
      ∧ (calFrameValid s).now = s.now ∧ (calFrameValid s).drawn = s.drawn ∧ (calFrameValid s).pending = s.pending := by
  unfold calFrameValid
  (try dsimp only) <;> (repeat' split) <;> simp

@[simp] theorem judgeCal_frame (c : Calibration) (s : State) :
    (judgeCal c s).queue = s.queue ∧ (judgeCal c s).pass = s.pass ∧ (judgeCal c s).ladder = s.ladder
      ∧ (judgeCal c s).lamps = s.lamps ∧ (judgeCal c s).intake = s.intake ∧ (judgeCal c s).merge = s.merge
      ∧ (judgeCal c s).conv = s.conv ∧ (judgeCal c s).motion = s.motion ∧ (judgeCal c s).zones = s.zones
      ∧ (judgeCal c s).out = s.out ∧ (judgeCal c s).stats = s.stats ∧ (judgeCal c s).faults = s.faults
      ∧ (judgeCal c s).params = s.params ∧ (judgeCal c s).time = s.time ∧ (judgeCal c s).link.state = s.link.state
      ∧ (judgeCal c s).link.intake = s.link.intake ∧ (judgeCal c s).link.replies = s.link.replies
      ∧ (judgeCal c s).link.pipe = s.link.pipe ∧ (judgeCal c s).link.cause = s.link.cause
      ∧ (judgeCal c s).platePresent = s.platePresent ∧ (judgeCal c s).now = s.now ∧ (judgeCal c s).drawn = s.drawn
      ∧ (judgeCal c s).pending = s.pending := by
  unfold judgeCal
  (try dsimp only) <;> (repeat' split) <;> simp

@[simp] theorem ageFlat_frame (bank : BankId) (s : State) :
    (ageFlat bank s).queue = s.queue ∧ (ageFlat bank s).pass = s.pass ∧ (ageFlat bank s).ladder = s.ladder
      ∧ (ageFlat bank s).lamps = s.lamps ∧ (ageFlat bank s).intake = s.intake ∧ (ageFlat bank s).merge = s.merge
      ∧ (ageFlat bank s).conv = s.conv ∧ (ageFlat bank s).cal.cal = s.cal.cal ∧ (ageFlat bank s).motion = s.motion
      ∧ (ageFlat bank s).zones = s.zones ∧ (ageFlat bank s).out = s.out ∧ (ageFlat bank s).stats = s.stats
      ∧ (ageFlat bank s).faults = s.faults ∧ (ageFlat bank s).params = s.params ∧ (ageFlat bank s).time = s.time
      ∧ (ageFlat bank s).link = s.link ∧ (ageFlat bank s).platePresent = s.platePresent ∧ (ageFlat bank s).now = s.now
      ∧ (ageFlat bank s).drawn = s.drawn ∧ (ageFlat bank s).pending = s.pending := by
  unfold ageFlat
  (try dsimp only) <;> (repeat' split) <;> simp

@[simp] theorem ageFlats_frame (used : BankSet) (s : State) :
    (ageFlats used s).queue = s.queue ∧ (ageFlats used s).pass = s.pass ∧ (ageFlats used s).ladder = s.ladder
      ∧ (ageFlats used s).lamps = s.lamps ∧ (ageFlats used s).intake = s.intake ∧ (ageFlats used s).merge = s.merge
      ∧ (ageFlats used s).conv = s.conv ∧ (ageFlats used s).cal.cal = s.cal.cal ∧ (ageFlats used s).motion = s.motion
      ∧ (ageFlats used s).zones = s.zones ∧ (ageFlats used s).out = s.out ∧ (ageFlats used s).stats = s.stats
      ∧ (ageFlats used s).faults = s.faults ∧ (ageFlats used s).params = s.params ∧ (ageFlats used s).time = s.time
      ∧ (ageFlats used s).link = s.link ∧ (ageFlats used s).platePresent = s.platePresent ∧ (ageFlats used s).now = s.now
      ∧ (ageFlats used s).drawn = s.drawn ∧ (ageFlats used s).pending = s.pending := by
  unfold ageFlats
  (try dsimp only) <;> (repeat' split) <;> simp

@[simp] theorem levelChanged_frame (bank : BankId) (level : Nat) (s : State) :
    (levelChanged bank level s).queue = s.queue ∧ (levelChanged bank level s).pass = s.pass
      ∧ (levelChanged bank level s).ladder = s.ladder ∧ (levelChanged bank level s).lamps = s.lamps
      ∧ (levelChanged bank level s).intake = s.intake ∧ (levelChanged bank level s).merge = s.merge
      ∧ (levelChanged bank level s).conv = s.conv ∧ (levelChanged bank level s).cal.cal = s.cal.cal
      ∧ (levelChanged bank level s).motion = s.motion ∧ (levelChanged bank level s).zones = s.zones
      ∧ (levelChanged bank level s).out = s.out ∧ (levelChanged bank level s).stats = s.stats
      ∧ (levelChanged bank level s).faults = s.faults ∧ (levelChanged bank level s).params = s.params
      ∧ (levelChanged bank level s).time = s.time ∧ (levelChanged bank level s).link = s.link
      ∧ (levelChanged bank level s).platePresent = s.platePresent ∧ (levelChanged bank level s).now = s.now
      ∧ (levelChanged bank level s).drawn = s.drawn ∧ (levelChanged bank level s).pending = s.pending := by
  unfold levelChanged
  (try dsimp only) <;> (repeat' split) <;> simp

/-! ### Converter.lean -/

@[simp] theorem convertNext_frame (n : Option Nat) (s : State) :
    (convertNext n s).queue = s.queue ∧ (convertNext n s).pass = s.pass ∧ (convertNext n s).ladder = s.ladder
      ∧ (convertNext n s).lamps = s.lamps ∧ (convertNext n s).intake = s.intake ∧ (convertNext n s).merge = s.merge
      ∧ (convertNext n s).cal = s.cal ∧ (convertNext n s).motion = s.motion ∧ (convertNext n s).zones = s.zones
      ∧ (convertNext n s).stats = s.stats ∧ (convertNext n s).faults = s.faults ∧ (convertNext n s).params = s.params
      ∧ (convertNext n s).time = s.time ∧ (convertNext n s).link = s.link ∧ (convertNext n s).platePresent = s.platePresent
      ∧ (convertNext n s).now = s.now ∧ (convertNext n s).drawn = s.drawn ∧ (convertNext n s).pending = s.pending := by
  unfold convertNext
  (try dsimp only) <;> (repeat' split) <;> simp

@[simp] theorem convertNextRow_frame (s : State) :
    (convertNextRow s).queue = s.queue ∧ (convertNextRow s).pass = s.pass ∧ (convertNextRow s).ladder = s.ladder
      ∧ (convertNextRow s).lamps = s.lamps ∧ (convertNextRow s).intake = s.intake ∧ (convertNextRow s).merge = s.merge
      ∧ (convertNextRow s).cal = s.cal ∧ (convertNextRow s).motion = s.motion ∧ (convertNextRow s).zones = s.zones
      ∧ (convertNextRow s).stats = s.stats ∧ (convertNextRow s).faults = s.faults ∧ (convertNextRow s).params = s.params
      ∧ (convertNextRow s).time = s.time ∧ (convertNextRow s).link = s.link ∧ (convertNextRow s).platePresent = s.platePresent
      ∧ (convertNextRow s).now = s.now ∧ (convertNextRow s).drawn = s.drawn ∧ (convertNextRow s).pending = s.pending := by
  simp [convertNextRow]

@[simp] theorem convertNextPixel_frame (s : State) :
    (convertNextPixel s).queue = s.queue ∧ (convertNextPixel s).pass = s.pass ∧ (convertNextPixel s).ladder = s.ladder
      ∧ (convertNextPixel s).lamps = s.lamps ∧ (convertNextPixel s).intake = s.intake ∧ (convertNextPixel s).merge = s.merge
      ∧ (convertNextPixel s).cal = s.cal ∧ (convertNextPixel s).motion = s.motion ∧ (convertNextPixel s).zones = s.zones
      ∧ (convertNextPixel s).stats = s.stats ∧ (convertNextPixel s).faults = s.faults ∧ (convertNextPixel s).params = s.params
      ∧ (convertNextPixel s).time = s.time ∧ (convertNextPixel s).link = s.link
      ∧ (convertNextPixel s).platePresent = s.platePresent ∧ (convertNextPixel s).now = s.now
      ∧ (convertNextPixel s).drawn = s.drawn ∧ (convertNextPixel s).pending = s.pending := by
  simp [convertNextPixel]

@[simp] theorem convertRows_frame (n : Nat) (s : State) :
    (convertRows n s).queue = s.queue ∧ (convertRows n s).pass = s.pass ∧ (convertRows n s).ladder = s.ladder
      ∧ (convertRows n s).lamps = s.lamps ∧ (convertRows n s).intake = s.intake ∧ (convertRows n s).merge = s.merge
      ∧ (convertRows n s).cal = s.cal ∧ (convertRows n s).motion = s.motion ∧ (convertRows n s).zones = s.zones
      ∧ (convertRows n s).stats = s.stats ∧ (convertRows n s).faults = s.faults ∧ (convertRows n s).params = s.params
      ∧ (convertRows n s).time = s.time ∧ (convertRows n s).link = s.link ∧ (convertRows n s).platePresent = s.platePresent
      ∧ (convertRows n s).now = s.now ∧ (convertRows n s).drawn = s.drawn ∧ (convertRows n s).pending = s.pending := by
  induction n generalizing s with
  | zero => simp [convertRows]
  | succ n ih => simp [convertRows, ih]

@[simp] theorem convertPixels_frame (n : Nat) (s : State) :
    (convertPixels n s).queue = s.queue ∧ (convertPixels n s).pass = s.pass ∧ (convertPixels n s).ladder = s.ladder
      ∧ (convertPixels n s).lamps = s.lamps ∧ (convertPixels n s).intake = s.intake ∧ (convertPixels n s).merge = s.merge
      ∧ (convertPixels n s).cal = s.cal ∧ (convertPixels n s).motion = s.motion ∧ (convertPixels n s).zones = s.zones
      ∧ (convertPixels n s).stats = s.stats ∧ (convertPixels n s).faults = s.faults ∧ (convertPixels n s).params = s.params
      ∧ (convertPixels n s).time = s.time ∧ (convertPixels n s).link = s.link
      ∧ (convertPixels n s).platePresent = s.platePresent ∧ (convertPixels n s).now = s.now
      ∧ (convertPixels n s).drawn = s.drawn ∧ (convertPixels n s).pending = s.pending := by
  induction n generalizing s with
  | zero => simp [convertPixels]
  | succ n ih =>
    unfold convertPixels
    split <;> simp [ih]

@[simp] theorem converterTick_frame (s : State) :
    (converterTick s).queue = s.queue ∧ (converterTick s).pass = s.pass ∧ (converterTick s).ladder = s.ladder
      ∧ (converterTick s).lamps = s.lamps ∧ (converterTick s).intake = s.intake ∧ (converterTick s).merge = s.merge
      ∧ (converterTick s).cal = s.cal ∧ (converterTick s).motion = s.motion ∧ (converterTick s).zones = s.zones
      ∧ (converterTick s).stats = s.stats ∧ (converterTick s).faults = s.faults := by
  unfold converterTick
  split <;> simp

end Sys2Proof.Machine
end

