-- ==== Sys2Proof/Laws/Operations.lean ====
section
/-! SUPPORT. What the shared operations do to the fields they write, one lemma for each. -/

namespace Sys2Proof.Machine

open Sys2Proof

/-! ### Notices and replies -/

theorem postNotice_notices (n : Notice) (s : State) :
    (postNotice n s).link.notices
      = if s.link.notices.length < 32 then s.link.notices ++ [⟨s.link.dropped, n⟩] else s.link.notices := by
  unfold postNotice Config.noticeCap
  split <;> rfl

theorem postNotice_dropped (n : Notice) (s : State) :
    (postNotice n s).link.dropped = decide (32 ≤ s.link.notices.length) := by
  unfold postNotice Config.noticeCap
  split <;> rename_i h
  · exact (decide_eq_false (by omega)).symm
  · exact (decide_eq_true (by omega)).symm

/-- Posting reaches the link alone, and leaves it as `Link.posted` says. -/
theorem postNotice_eq (n : Notice) (s : State) : postNotice n s = { s with link := s.link.posted n } := by
  unfold postNotice Link.posted Config.noticeCap
  split <;> rfl

@[simp] theorem Link.posted_frame (l : Link) (n : Notice) :
    (l.posted n).state = l.state ∧ (l.posted n).intake = l.intake ∧ (l.posted n).replies = l.replies ∧ (l.posted n).pipe = l.pipe
      ∧ (l.posted n).cause = l.cause := by
  unfold Link.posted
  split <;> simp

/-- Posting keeps the notice queue within its 32 places. -/
theorem postNotice_bounded (n : Notice) (s : State) (h : s.link.notices.length ≤ 32) :
    (postNotice n s).link.notices.length ≤ 32 := by
  rw [postNotice_notices]
  split
  · simp; omega
  · exact h

theorem queueReply_replies (kind : Nat) (tag : Byte) (body : ReplyBody) (s : State) :
    (queueReply kind tag body s).link.replies = s.link.replies ++ [⟨kind + 32768, tag, body⟩] := rfl

/-! ### Counters -/

theorem satAdd_le (top a b : Nat) : satAdd top a b ≤ top := by unfold satAdd; exact Nat.min_le_left _ _

/-- The counters' list after an addition: the one place, with its new value and marks. -/
theorem addCounter_counters (c : CounterId) (amount : Nat) (s : State) :
    ∃ half full : CountMark, (addCounter c amount s).stats.counters
      = s.stats.counters.set c.index ⟨satAdd maxU32 (s.counter c).value amount, half, full⟩ := by
  unfold addCounter
  dsimp only
  split <;> (try split) <;> simp <;> exact ⟨_, _, rfl⟩

theorem addCounter_counters_length (c : CounterId) (amount : Nat) (s : State) :
    (addCounter c amount s).stats.counters.length = s.stats.counters.length := by
  obtain ⟨_, _, h⟩ := addCounter_counters c amount s
  rw [h, List.length_set]

theorem addCounter_bounded (c : CounterId) (amount : Nat) (s : State) (h : s.link.notices.length ≤ 32) :
    (addCounter c amount s).link.notices.length ≤ 32 := by
  unfold addCounter
  dsimp only
  repeat' split
  all_goals first | exact postNotice_bounded _ _ (postNotice_bounded _ _ h) | exact postNotice_bounded _ _ h | exact h

/-! ### Faults -/

theorem raiseFault_raised (k : FaultKind) (ctx : Ctx) (s : State) :
    (raiseFault k ctx s).faults.raised = s.faults.raised ++ [⟨k, ctx⟩] := rfl

/-! ### The stale check -/

/-- All that the stale check writes: the two sets of banks, the job's flag and the fault it may raise. -/
theorem staleCheck_leaves (bank : BankId) (s : State) :
    (∀ b, (staleCheck bank s).cal.staleSet.has b = if b = bank then s.isStale bank else s.cal.staleSet.has b)
      ∧ (∀ b, (staleCheck bank s).cal.raisedSet.has b = (s.cal.raisedSet.has b || decide (b = bank) && s.isStale bank))
      ∧ (staleCheck bank s).pass.stale = (s.pass.stale || s.isStale bank)
      ∧ (staleCheck bank s).faults.raised = s.faults.raised
          ++ (if s.isStale bank = true ∧ s.cal.raisedSet.has bank = false then
              [⟨.staleFlat, ⟨s.jobCtx, s.tileCtx, none, some bank⟩⟩] else []) := by
  unfold staleCheck
  cases hs : s.isStale bank <;> cases hr : s.cal.raisedSet.has bank <;> cases bank <;>
    simp_all [BankSet.has, BankSet.add, BankSet.remove, raiseFault, State.jobCtx, State.tileCtx] <;>
    (try constructor) <;> (intro b; cases b <;> simp)

/-! ### The tile log -/

theorem joinRing_newest (r : TileRecord) (s : State) : (joinRing r s).out.newest = (s.out.newest + 1) % modU32 := rfl

/-- The ring never holds more than 256 records. -/
theorem joinRing_bounded (r : TileRecord) (s : State) (h : s.out.records.length ≤ 256) :
    (joinRing r s).out.records.length ≤ 256 := by
  unfold joinRing Config.logCap
  dsimp only
  split <;> simp <;> omega

/-! ### The converter -/

/-- A row converted in two pieces is the row converted at once, the second piece going on from the first one's last code (R103, R109). -/
theorem convertRow_append (bf l : Nat) (left : Option Nat) (xs ys : List (FlatPixel × MergeRec)) :
    convertRow bf l left (xs ++ ys)
      = convertRow bf l left xs ++ convertRow bf l (((convertRow bf l left xs).getLast?.map (·.code)).or left) ys := by
  induction xs generalizing left with
  | nil => rfl
  | cons x xs ih =>
    obtain ⟨p, r⟩ := x
    simp only [List.cons_append, convertRow, ih]
    cases h : convertRow bf l (some (convertPixel bf l left p r).code) xs with
    | nil => simp
    | cons w ws => simp [List.getLast?_cons, List.getLast_cons]

@[simp] theorem convertRow_length (bf l : Nat) (left : Option Nat) (xs : List (FlatPixel × MergeRec)) :
    (convertRow bf l left xs).length = xs.length := by
  induction xs generalizing left with
  | nil => rfl
  | cons x xs ih => simp [convertRow, ih]

/-- Words written at the end of a row in two pieces are the words written at once. -/
theorem Buf.write_write (b : Buf) (i : Nat) (xs ys : List PixOut) (h : i ≤ b.rows.length) :
    (b.write i xs).write i ys = b.write i (xs ++ ys) := by
  simp [Buf.write, List.take_append, Nat.min_eq_left h, List.getD_append_right]

/-- All that converting pixels of the row in hand does: their words join the row in the buffer, and the conversion takes them. -/
theorem convertNext_eq {s : State} {c : Conversion} {p : Plane} {d : FlatData} {b : Buf} (n : Option Nat) (hc : s.conv = some c)
    (hp : s.plane c.plane = some p) (hd : (s.flat c.bank).data = some d) (hb : s.buf c.buffer = some b) :
    convertNext n s =
      { s.setBuf c.buffer (some (b.write c.rowsDone
            (convertRow d.record.bf c.l c.lastCode ((rowLeft d c p b).take (n.getD (rowLeft d c p b).length))))) with
        conv := some (c.after
          (convertRow d.record.bf c.l c.lastCode ((rowLeft d c p b).take (n.getD (rowLeft d c p b).length)))
          (decide (((rowLeft d c p b).take (n.getD (rowLeft d c p b).length)).length = (rowLeft d c p b).length))) } := by
  unfold convertNext
  simp only [hc, hp, hd, hb]

/-- Where a row still has more than one pixel, converting one of them first does not change what the row's end leaves: no code, count or
figure depends on where a reading falls between two pixels (R103). -/
theorem convertNextRow_convertNextPixel (s : State) (c : Conversion) (p : Plane) (d : FlatData) (b : Buf) (hc : s.conv = some c)
    (hp : s.plane c.plane = some p) (hd : (s.flat c.bank).data = some d) (hb : s.buf c.buffer = some b)
    (hr : c.rowsDone ≤ b.rows.length) (hl : 1 < (rowLeft d c p b).length) :
    convertNextRow (convertNextPixel s) = convertNextRow s := by
  obtain ⟨x, xs, hx⟩ : ∃ x xs, rowLeft d c p b = x :: xs := by
    cases h : rowLeft d c p b with
    | nil => simp [h] at hl
    | cons x xs => exact ⟨x, xs, rfl⟩
  let w := convertRow d.record.bf c.l c.lastCode [x]
  have hw : w.length = 1 := by simp [w]
  have hne : xs.length ≠ 0 := by rw [hx] at hl; simp at hl; omega
  have h1 : convertNextPixel s
      = { s.setBuf c.buffer (some (b.write c.rowsDone w)) with conv := some (c.after w false) } := by
    rw [convertNextPixel, convertNext_eq (some 1) hc hp hd hb, hx]
    simp [w, hne]
  have hrest : rowLeft d (c.after w false) p (b.write c.rowsDone w) = xs := by
    have : xs = (rowLeft d c p b).drop 1 := by rw [hx]; rfl
    rw [this]
    simp [rowLeft, Conversion.colsDone, Conversion.after, Buf.write, rowPixels, Nat.min_eq_left hr, hw,
      List.getD_append_right, List.drop_drop]
  rw [h1]
  unfold convertNextRow
  rw [convertNext_eq none hc hp hd hb, convertNext_eq (c := c.after w false) (p := p) (d := d) (b := b.write c.rowsDone w) none rfl,
    hrest, hx]
  · have hs := convertRow_append d.record.bf c.l c.lastCode [x] xs
    have ha : (c.after w false).lastCode = ((convertRow d.record.bf c.l c.lastCode [x]).getLast?.map (·.code)).or c.lastCode := rfl
    rw [List.singleton_append] at hs
    simp only [Option.getD_none, List.take_length, decide_true, hs]
    rw [← ha, ← Buf.write_write b c.rowsDone _ _ hr]
    cases hbuf : c.buffer <;> simp [Conversion.after, State.setBuf, w, List.foldl_append, hbuf]
  · rw [← hp]
    cases hbuf : c.buffer <;> cases hpl : c.plane <;> simp [Conversion.after, State.setBuf, State.plane, hpl]
  · rw [← hd]
    cases hbuf : c.buffer <;> cases hba : c.bank <;> simp [Conversion.after, State.setBuf, State.flat, hba]
  · cases hbuf : c.buffer <;> simp [Conversion.after, State.setBuf, State.buf, hbuf]

/-! ### Orders -/

theorem takeNumber_nextNumber (s : State) : (takeNumber s).motion.nextNumber = (s.motion.nextNumber + 1) % 256 := rfl

/-- After STOP is due no order is outstanding, none waits, and a STOP is outstanding without a reissue. -/
theorem sendStop_leaves (s : State) :
    (sendStop s).motion.order = none ∧ (sendStop s).motion.waiting = none
      ∧ ∃ t, (sendStop s).motion.stop = some t ∧ t.reissue = false := by
  unfold sendStop
  dsimp only
  split
  · exact ⟨rfl, rfl, _, rfl, rfl⟩
  · exact ⟨rfl, rfl, _, rfl, rfl⟩

/-- An order wanted with nothing outstanding becomes outstanding under the next number. -/
theorem issueOrder_order (w : Wanted) (retried : Bool) (s : State) :
    ∃ o, (issueOrder w retried s).motion.order = some o ∧ o.kind = w.kind ∧ o.number = s.motion.nextNumber
      ∧ o.arg1 = w.arg1 ∧ o.arg2 = w.arg2 ∧ o.requester = w.requester ∧ o.retried = retried := by
  refine ⟨⟨w.kind, s.motion.nextNumber, w.arg1, w.arg2, w.requester, s.limitFor w.kind, s.now, retried, false, s.motion.position⟩,
    ?_, rfl, rfl, rfl, rfl, rfl, rfl⟩
  unfold issueOrder
  dsimp only
  cases hk : w.kind <;> simp only [issueEffects]
  · rfl
  · rfl
  · (repeat' split) <;> simp [sendRecord, takeNumber, State.limitFor]
  · simp [sendRecord, takeNumber, State.limitFor]

end Sys2Proof.Machine
end

