-- ==== Sys2Proof/Laws/PassFrames.lean ====
section
/-! SUPPORT. Which fields the operations of the pass controller, and those above it, leave as they were, one lemma per operation;
and what its records and the closing of the walk write into the pass. -/

namespace Sys2Proof.Machine

open Sys2Proof

/-! ### Stats.lean -/

@[simp] theorem countConversion_frame (g : ConvFigures) (attention : Bool) (s : State) :
    (countConversion g attention s).queue = s.queue ∧ (countConversion g attention s).pass = s.pass
      ∧ (countConversion g attention s).ladder = s.ladder ∧ (countConversion g attention s).lamps = s.lamps
      ∧ (countConversion g attention s).intake = s.intake ∧ (countConversion g attention s).merge = s.merge
      ∧ (countConversion g attention s).conv = s.conv ∧ (countConversion g attention s).cal = s.cal
      ∧ (countConversion g attention s).motion = s.motion ∧ (countConversion g attention s).zones = s.zones
      ∧ (countConversion g attention s).out = s.out ∧ (countConversion g attention s).stats.histState = s.stats.histState
      ∧ (countConversion g attention s).faults = s.faults ∧ (countConversion g attention s).params = s.params
      ∧ (countConversion g attention s).time = s.time ∧ (countConversion g attention s).link.state = s.link.state
      ∧ (countConversion g attention s).link.intake = s.link.intake
      ∧ (countConversion g attention s).link.replies = s.link.replies ∧ (countConversion g attention s).link.pipe = s.link.pipe
      ∧ (countConversion g attention s).link.cause = s.link.cause
      ∧ (countConversion g attention s).platePresent = s.platePresent ∧ (countConversion g attention s).now = s.now
      ∧ (countConversion g attention s).drawn = s.drawn ∧ (countConversion g attention s).pending = s.pending := by
  cases attention <;> simp [countConversion]

/-! ### Intake.lean -/

@[simp] theorem noteFrame_frame (d : Slot) (verdict : FrameVerdict) (figures : Option (Nat × Nat)) (s : State) :
    (noteFrame d verdict figures s).queue = s.queue ∧ (noteFrame d verdict figures s).pass = s.pass
      ∧ (noteFrame d verdict figures s).ladder = s.ladder ∧ (noteFrame d verdict figures s).lamps = s.lamps
      ∧ (noteFrame d verdict figures s).intake.s1 = s.intake.s1 ∧ (noteFrame d verdict figures s).intake.s2 = s.intake.s2
      ∧ (noteFrame d verdict figures s).intake.rx = s.intake.rx
      ∧ (noteFrame d verdict figures s).intake.discarded = s.intake.discarded
      ∧ (noteFrame d verdict figures s).intake.validOrder = s.intake.validOrder
      ∧ (noteFrame d verdict figures s).merge = s.merge ∧ (noteFrame d verdict figures s).conv = s.conv
      ∧ (noteFrame d verdict figures s).cal = s.cal ∧ (noteFrame d verdict figures s).motion = s.motion
      ∧ (noteFrame d verdict figures s).zones = s.zones ∧ (noteFrame d verdict figures s).out = s.out
      ∧ (noteFrame d verdict figures s).stats = s.stats ∧ (noteFrame d verdict figures s).faults = s.faults
      ∧ (noteFrame d verdict figures s).params = s.params ∧ (noteFrame d verdict figures s).time = s.time
      ∧ (noteFrame d verdict figures s).link = s.link ∧ (noteFrame d verdict figures s).platePresent = s.platePresent
      ∧ (noteFrame d verdict figures s).now = s.now ∧ (noteFrame d verdict figures s).drawn = s.drawn
      ∧ (noteFrame d verdict figures s).pending = s.pending := by
  unfold noteFrame
  (try dsimp only) <;> (repeat' split) <;> simp

@[simp] theorem dropFrame_frame (i : SlotId) (d : Slot) (verdict : FrameVerdict) (s : State) :
    (dropFrame i d verdict s).queue = s.queue ∧ (dropFrame i d verdict s).pass = s.pass
      ∧ (dropFrame i d verdict s).ladder = s.ladder ∧ (dropFrame i d verdict s).lamps = s.lamps
      ∧ (dropFrame i d verdict s).intake.rx = s.intake.rx ∧ (dropFrame i d verdict s).intake.discarded = s.intake.discarded
      ∧ (dropFrame i d verdict s).merge = s.merge ∧ (dropFrame i d verdict s).conv = s.conv
      ∧ (dropFrame i d verdict s).cal = s.cal ∧ (dropFrame i d verdict s).motion = s.motion
      ∧ (dropFrame i d verdict s).zones = s.zones ∧ (dropFrame i d verdict s).out = s.out
      ∧ (dropFrame i d verdict s).stats = s.stats ∧ (dropFrame i d verdict s).faults = s.faults
      ∧ (dropFrame i d verdict s).params = s.params ∧ (dropFrame i d verdict s).time = s.time
      ∧ (dropFrame i d verdict s).link = s.link ∧ (dropFrame i d verdict s).platePresent = s.platePresent
      ∧ (dropFrame i d verdict s).now = s.now ∧ (dropFrame i d verdict s).drawn = s.drawn
      ∧ (dropFrame i d verdict s).pending = s.pending := by
  unfold dropFrame
  (try dsimp only) <;> (repeat' split) <;> simp

@[simp] theorem validateFrame_frame (i : SlotId) (d : Slot) (m : Nat) (s : State) :
    (validateFrame i d m s).queue = s.queue ∧ (validateFrame i d m s).pass = s.pass ∧ (validateFrame i d m s).ladder = s.ladder
      ∧ (validateFrame i d m s).lamps = s.lamps ∧ (validateFrame i d m s).intake.rx = s.intake.rx
      ∧ (validateFrame i d m s).intake.discarded = s.intake.discarded ∧ (validateFrame i d m s).merge = s.merge
      ∧ (validateFrame i d m s).conv = s.conv ∧ (validateFrame i d m s).cal = s.cal ∧ (validateFrame i d m s).motion = s.motion
      ∧ (validateFrame i d m s).zones = s.zones ∧ (validateFrame i d m s).out = s.out ∧ (validateFrame i d m s).stats = s.stats
      ∧ (validateFrame i d m s).faults = s.faults ∧ (validateFrame i d m s).params = s.params
      ∧ (validateFrame i d m s).time = s.time ∧ (validateFrame i d m s).link = s.link
      ∧ (validateFrame i d m s).platePresent = s.platePresent ∧ (validateFrame i d m s).now = s.now
      ∧ (validateFrame i d m s).drawn = s.drawn ∧ (validateFrame i d m s).pending = s.pending := by
  unfold validateFrame
  (try dsimp only) <;> (repeat' split) <;> simp

@[simp] theorem freeValid_frame (taker : Taker) (s : State) :
    (freeValid taker s).queue = s.queue ∧ (freeValid taker s).pass = s.pass ∧ (freeValid taker s).ladder = s.ladder
      ∧ (freeValid taker s).lamps = s.lamps ∧ (freeValid taker s).intake.rx = s.intake.rx
      ∧ (freeValid taker s).intake.discarded = s.intake.discarded ∧ (freeValid taker s).merge = s.merge
      ∧ (freeValid taker s).conv = s.conv ∧ (freeValid taker s).cal = s.cal ∧ (freeValid taker s).motion = s.motion
      ∧ (freeValid taker s).zones = s.zones ∧ (freeValid taker s).out = s.out ∧ (freeValid taker s).stats = s.stats
      ∧ (freeValid taker s).faults = s.faults ∧ (freeValid taker s).params = s.params ∧ (freeValid taker s).time = s.time
      ∧ (freeValid taker s).link = s.link ∧ (freeValid taker s).platePresent = s.platePresent ∧ (freeValid taker s).now = s.now
      ∧ (freeValid taker s).drawn = s.drawn ∧ (freeValid taker s).pending = s.pending := by
  simp only [freeValid, allSlots, List.foldl]
  (repeat' split) <;> simp

/-! ### Ladder.lean -/

@[simp] theorem discardWaiting_frame (s : State) :
    (discardWaiting s).queue = s.queue ∧ (discardWaiting s).pass = s.pass ∧ (discardWaiting s).lamps = s.lamps
      ∧ (discardWaiting s).intake.rx = s.intake.rx ∧ (discardWaiting s).intake.discarded = s.intake.discarded
      ∧ (discardWaiting s).merge = s.merge ∧ (discardWaiting s).conv = s.conv ∧ (discardWaiting s).cal = s.cal
      ∧ (discardWaiting s).motion = s.motion ∧ (discardWaiting s).zones = s.zones ∧ (discardWaiting s).out = s.out
      ∧ (discardWaiting s).stats = s.stats ∧ (discardWaiting s).faults = s.faults ∧ (discardWaiting s).params = s.params
      ∧ (discardWaiting s).time = s.time ∧ (discardWaiting s).link = s.link ∧ (discardWaiting s).platePresent = s.platePresent
      ∧ (discardWaiting s).now = s.now ∧ (discardWaiting s).drawn = s.drawn ∧ (discardWaiting s).pending = s.pending := by
  unfold discardWaiting
  (try dsimp only) <;> (repeat' split) <;> simp

@[simp] theorem restart_frame (policy : Bool) (s : State) :
    (restart policy s).queue = s.queue ∧ (restart policy s).pass.state = s.pass.state ∧ (restart policy s).pass.job = s.pass.job
      ∧ (restart policy s).pass.tile = s.pass.tile ∧ (restart policy s).pass.mark = s.pass.mark
      ∧ (restart policy s).pass.handedOver = s.pass.handedOver ∧ (restart policy s).lamps = s.lamps
      ∧ (restart policy s).intake.rx = s.intake.rx ∧ (restart policy s).intake.discarded = s.intake.discarded
      ∧ (restart policy s).conv = s.conv ∧ (restart policy s).cal.flatA = s.cal.flatA
      ∧ (restart policy s).cal.flatB = s.cal.flatB ∧ (restart policy s).cal.cal = s.cal.cal
      ∧ (restart policy s).motion = s.motion ∧ (restart policy s).zones = s.zones ∧ (restart policy s).out = s.out
      ∧ (restart policy s).stats.histState = s.stats.histState ∧ (restart policy s).faults.kinds = s.faults.kinds
      ∧ (restart policy s).faults.locked = s.faults.locked ∧ (restart policy s).faults.jobMark = s.faults.jobMark
      ∧ (restart policy s).params = s.params ∧ (restart policy s).time = s.time ∧ (restart policy s).link.state = s.link.state
      ∧ (restart policy s).link.intake = s.link.intake ∧ (restart policy s).link.replies = s.link.replies
      ∧ (restart policy s).link.pipe = s.link.pipe ∧ (restart policy s).link.cause = s.link.cause
      ∧ (restart policy s).platePresent = s.platePresent ∧ (restart policy s).now = s.now ∧ (restart policy s).drawn = s.drawn
      ∧ (restart policy s).pending = s.pending := by
  unfold restart
  (try dsimp only) <;> (repeat' split) <;> simp

@[simp] theorem stopLadder_frame (why : Stopping) (s : State) :
    (stopLadder why s).queue = s.queue ∧ (stopLadder why s).pass = s.pass ∧ (stopLadder why s).lamps = s.lamps
      ∧ (stopLadder why s).intake.rx = s.intake.rx ∧ (stopLadder why s).intake.discarded = s.intake.discarded
      ∧ (stopLadder why s).merge = s.merge ∧ (stopLadder why s).conv = s.conv ∧ (stopLadder why s).cal = s.cal
      ∧ (stopLadder why s).motion = s.motion ∧ (stopLadder why s).zones = s.zones ∧ (stopLadder why s).out = s.out
      ∧ (stopLadder why s).stats = s.stats ∧ (stopLadder why s).faults = s.faults ∧ (stopLadder why s).params = s.params
      ∧ (stopLadder why s).time = s.time ∧ (stopLadder why s).link = s.link ∧ (stopLadder why s).platePresent = s.platePresent
      ∧ (stopLadder why s).now = s.now ∧ (stopLadder why s).drawn = s.drawn ∧ (stopLadder why s).pending = s.pending := by
  unfold stopLadder
  (try dsimp only) <;> (repeat' split) <;> simp

/-! ### Calibration.lean -/

@[simp] theorem failCal_frame (reason : CalFailure) (s : State) :
    (failCal reason s).queue = s.queue ∧ (failCal reason s).pass = s.pass ∧ (failCal reason s).ladder = s.ladder
      ∧ (failCal reason s).lamps = s.lamps ∧ (failCal reason s).intake.rx = s.intake.rx
      ∧ (failCal reason s).intake.discarded = s.intake.discarded ∧ (failCal reason s).merge = s.merge
      ∧ (failCal reason s).conv = s.conv ∧ (failCal reason s).cal.flatA = s.cal.flatA
      ∧ (failCal reason s).cal.flatB = s.cal.flatB ∧ (failCal reason s).motion = s.motion ∧ (failCal reason s).zones = s.zones
      ∧ (failCal reason s).out = s.out ∧ (failCal reason s).stats = s.stats ∧ (failCal reason s).faults = s.faults
      ∧ (failCal reason s).params = s.params ∧ (failCal reason s).time = s.time ∧ (failCal reason s).link.state = s.link.state
      ∧ (failCal reason s).link.intake = s.link.intake ∧ (failCal reason s).link.replies = s.link.replies
      ∧ (failCal reason s).link.pipe = s.link.pipe ∧ (failCal reason s).link.cause = s.link.cause
      ∧ (failCal reason s).platePresent = s.platePresent ∧ (failCal reason s).now = s.now ∧ (failCal reason s).drawn = s.drawn
      ∧ (failCal reason s).pending = s.pending := by
  unfold failCal
  (try dsimp only) <;> (repeat' split) <;> simp

@[simp] theorem calFrameFailed_frame (s : State) :
    (calFrameFailed s).queue = s.queue ∧ (calFrameFailed s).pass = s.pass ∧ (calFrameFailed s).ladder = s.ladder
      ∧ (calFrameFailed s).lamps = s.lamps ∧ (calFrameFailed s).intake.rx = s.intake.rx
      ∧ (calFrameFailed s).intake.discarded = s.intake.discarded ∧ (calFrameFailed s).merge = s.merge
      ∧ (calFrameFailed s).conv = s.conv ∧ (calFrameFailed s).cal.flatA = s.cal.flatA
      ∧ (calFrameFailed s).cal.flatB = s.cal.flatB ∧ (calFrameFailed s).motion = s.motion ∧ (calFrameFailed s).zones = s.zones
      ∧ (calFrameFailed s).out = s.out ∧ (calFrameFailed s).stats = s.stats ∧ (calFrameFailed s).faults = s.faults
      ∧ (calFrameFailed s).params = s.params ∧ (calFrameFailed s).time = s.time ∧ (calFrameFailed s).link.state = s.link.state
      ∧ (calFrameFailed s).link.intake = s.link.intake ∧ (calFrameFailed s).link.replies = s.link.replies
      ∧ (calFrameFailed s).link.pipe = s.link.pipe ∧ (calFrameFailed s).link.cause = s.link.cause
      ∧ (calFrameFailed s).platePresent = s.platePresent ∧ (calFrameFailed s).now = s.now ∧ (calFrameFailed s).drawn = s.drawn
      ∧ (calFrameFailed s).pending = s.pending := by
  unfold calFrameFailed
  (try dsimp only) <;> (repeat' split) <;> simp

/-! ### Converter.lean -/

@[simp] theorem readyBuffer_frame (c : Conversion) (sequence : Nat) (s : State) :
    (readyBuffer c sequence s).queue = s.queue ∧ (readyBuffer c sequence s).pass = s.pass
      ∧ (readyBuffer c sequence s).ladder = s.ladder ∧ (readyBuffer c sequence s).lamps = s.lamps
      ∧ (readyBuffer c sequence s).intake = s.intake ∧ (readyBuffer c sequence s).merge = s.merge
      ∧ (readyBuffer c sequence s).conv = s.conv ∧ (readyBuffer c sequence s).cal = s.cal
      ∧ (readyBuffer c sequence s).motion = s.motion ∧ (readyBuffer c sequence s).zones = s.zones
      ∧ (readyBuffer c sequence s).stats = s.stats ∧ (readyBuffer c sequence s).faults = s.faults
      ∧ (readyBuffer c sequence s).params = s.params ∧ (readyBuffer c sequence s).time = s.time
      ∧ (readyBuffer c sequence s).link = s.link ∧ (readyBuffer c sequence s).platePresent = s.platePresent
      ∧ (readyBuffer c sequence s).now = s.now ∧ (readyBuffer c sequence s).drawn = s.drawn
      ∧ (readyBuffer c sequence s).pending = s.pending := by
  unfold readyBuffer
  (try dsimp only) <;> (repeat' split) <;> simp

/-! ### Pass.lean -/

@[simp] theorem fileHistory_frame (e : HistoryEntry) (s : State) :
    (fileHistory e s).queue.jobs = s.queue.jobs ∧ (fileHistory e s).queue.run = s.queue.run
      ∧ (fileHistory e s).queue.next = s.queue.next ∧ (fileHistory e s).pass = s.pass ∧ (fileHistory e s).ladder = s.ladder
      ∧ (fileHistory e s).lamps = s.lamps ∧ (fileHistory e s).intake = s.intake ∧ (fileHistory e s).merge = s.merge
      ∧ (fileHistory e s).conv = s.conv ∧ (fileHistory e s).cal = s.cal ∧ (fileHistory e s).motion = s.motion
      ∧ (fileHistory e s).zones = s.zones ∧ (fileHistory e s).out = s.out ∧ (fileHistory e s).stats = s.stats
      ∧ (fileHistory e s).faults = s.faults ∧ (fileHistory e s).params = s.params ∧ (fileHistory e s).time = s.time
      ∧ (fileHistory e s).link.state = s.link.state ∧ (fileHistory e s).link.intake = s.link.intake
      ∧ (fileHistory e s).link.replies = s.link.replies ∧ (fileHistory e s).link.pipe = s.link.pipe
      ∧ (fileHistory e s).link.cause = s.link.cause ∧ (fileHistory e s).platePresent = s.platePresent
      ∧ (fileHistory e s).now = s.now ∧ (fileHistory e s).drawn = s.drawn ∧ (fileHistory e s).pending = s.pending := by
  unfold fileHistory
  (try dsimp only) <;> (repeat' split) <;> simp

@[simp] theorem clearPass_frame (s : State) :
    (clearPass s).queue = s.queue ∧ (clearPass s).ladder = s.ladder ∧ (clearPass s).lamps = s.lamps
      ∧ (clearPass s).intake = s.intake ∧ (clearPass s).merge = s.merge ∧ (clearPass s).conv = s.conv
      ∧ (clearPass s).cal.flatA = s.cal.flatA ∧ (clearPass s).cal.flatB = s.cal.flatB ∧ (clearPass s).cal.cal = s.cal.cal
      ∧ (clearPass s).motion.nextNumber = s.motion.nextNumber ∧ (clearPass s).motion.order = s.motion.order
      ∧ (clearPass s).motion.stop = s.motion.stop ∧ (clearPass s).motion.unsure = s.motion.unsure
      ∧ (clearPass s).motion.position = s.motion.position ∧ (clearPass s).motion.discarded = s.motion.discarded
      ∧ (clearPass s).motion.last = s.motion.last ∧ (clearPass s).motion.homeRequest = s.motion.homeRequest
      ∧ (clearPass s).motion.sent = s.motion.sent ∧ (clearPass s).zones = s.zones ∧ (clearPass s).out = s.out
      ∧ (clearPass s).stats = s.stats ∧ (clearPass s).faults = s.faults ∧ (clearPass s).params = s.params
      ∧ (clearPass s).time = s.time ∧ (clearPass s).link = s.link ∧ (clearPass s).platePresent = s.platePresent
      ∧ (clearPass s).now = s.now ∧ (clearPass s).drawn = s.drawn ∧ (clearPass s).pending = s.pending := by
  unfold clearPass
  (try dsimp only) <;> (repeat' split) <;> simp

@[simp] theorem recordBeforeEnd_frame (s : State) :
    (recordBeforeEnd s).queue = s.queue ∧ (recordBeforeEnd s).pass = s.pass ∧ (recordBeforeEnd s).ladder = s.ladder
      ∧ (recordBeforeEnd s).lamps = s.lamps ∧ (recordBeforeEnd s).intake = s.intake ∧ (recordBeforeEnd s).merge = s.merge
      ∧ (recordBeforeEnd s).conv = s.conv ∧ (recordBeforeEnd s).cal = s.cal ∧ (recordBeforeEnd s).motion = s.motion
      ∧ (recordBeforeEnd s).zones = s.zones ∧ (recordBeforeEnd s).out = s.out ∧ (recordBeforeEnd s).stats = s.stats
      ∧ (recordBeforeEnd s).faults.locked = s.faults.locked ∧ (recordBeforeEnd s).params = s.params
      ∧ (recordBeforeEnd s).time = s.time ∧ (recordBeforeEnd s).link.state = s.link.state
      ∧ (recordBeforeEnd s).link.intake = s.link.intake ∧ (recordBeforeEnd s).link.replies = s.link.replies
      ∧ (recordBeforeEnd s).link.pipe = s.link.pipe ∧ (recordBeforeEnd s).link.cause = s.link.cause
      ∧ (recordBeforeEnd s).platePresent = s.platePresent ∧ (recordBeforeEnd s).now = s.now
      ∧ (recordBeforeEnd s).pending = s.pending := by
  unfold recordBeforeEnd
  (try dsimp only) <;> (repeat' split) <;> simp

@[simp] theorem takeFirstFault_frame (s : State) :
    ((takeFirstFault s).2).queue = s.queue ∧ ((takeFirstFault s).2).pass = s.pass ∧ ((takeFirstFault s).2).ladder = s.ladder
      ∧ ((takeFirstFault s).2).lamps = s.lamps ∧ ((takeFirstFault s).2).intake = s.intake
      ∧ ((takeFirstFault s).2).merge = s.merge ∧ ((takeFirstFault s).2).conv = s.conv ∧ ((takeFirstFault s).2).cal = s.cal
      ∧ ((takeFirstFault s).2).motion = s.motion ∧ ((takeFirstFault s).2).zones = s.zones ∧ ((takeFirstFault s).2).out = s.out
      ∧ ((takeFirstFault s).2).stats = s.stats ∧ ((takeFirstFault s).2).faults.locked = s.faults.locked
      ∧ ((takeFirstFault s).2).params = s.params ∧ ((takeFirstFault s).2).time = s.time
      ∧ ((takeFirstFault s).2).link.state = s.link.state ∧ ((takeFirstFault s).2).link.intake = s.link.intake
      ∧ ((takeFirstFault s).2).link.replies = s.link.replies ∧ ((takeFirstFault s).2).link.pipe = s.link.pipe
      ∧ ((takeFirstFault s).2).link.cause = s.link.cause ∧ ((takeFirstFault s).2).platePresent = s.platePresent
      ∧ ((takeFirstFault s).2).now = s.now ∧ ((takeFirstFault s).2).pending = s.pending := by
  unfold takeFirstFault
  (try dsimp only) <;> (repeat' split) <;> simp

@[simp] theorem endJob_frame (occupied : Bool) (s : State) :
    (endJob occupied s).queue.next = s.queue.next ∧ (endJob occupied s).ladder = s.ladder
      ∧ (endJob occupied s).lamps = s.lamps ∧ (endJob occupied s).intake = s.intake ∧ (endJob occupied s).merge = s.merge
      ∧ (endJob occupied s).conv = s.conv ∧ (endJob occupied s).cal.cal = s.cal.cal
      ∧ (endJob occupied s).motion.nextNumber = s.motion.nextNumber ∧ (endJob occupied s).motion.order = s.motion.order
      ∧ (endJob occupied s).motion.stop = s.motion.stop ∧ (endJob occupied s).motion.unsure = s.motion.unsure
      ∧ (endJob occupied s).motion.position = s.motion.position ∧ (endJob occupied s).motion.discarded = s.motion.discarded
      ∧ (endJob occupied s).motion.last = s.motion.last ∧ (endJob occupied s).motion.homeRequest = s.motion.homeRequest
      ∧ (endJob occupied s).motion.sent = s.motion.sent ∧ (endJob occupied s).zones = s.zones
      ∧ (endJob occupied s).out = s.out ∧ (endJob occupied s).faults.locked = s.faults.locked
      ∧ (endJob occupied s).params = s.params ∧ (endJob occupied s).time = s.time
      ∧ (endJob occupied s).link.state = s.link.state ∧ (endJob occupied s).link.intake = s.link.intake
      ∧ (endJob occupied s).link.replies = s.link.replies ∧ (endJob occupied s).link.pipe = s.link.pipe
      ∧ (endJob occupied s).link.cause = s.link.cause ∧ (endJob occupied s).platePresent = s.platePresent
      ∧ (endJob occupied s).now = s.now ∧ (endJob occupied s).pending = s.pending := by
  unfold endJob
  (try dsimp only) <;> (repeat' split) <;> simp

@[simp] theorem jobEndCheck_frame (s : State) :
    (jobEndCheck s).queue.next = s.queue.next ∧ (jobEndCheck s).ladder = s.ladder ∧ (jobEndCheck s).lamps = s.lamps
      ∧ (jobEndCheck s).intake = s.intake ∧ (jobEndCheck s).merge = s.merge ∧ (jobEndCheck s).conv = s.conv
      ∧ (jobEndCheck s).cal.cal = s.cal.cal ∧ (jobEndCheck s).motion.nextNumber = s.motion.nextNumber
      ∧ (jobEndCheck s).motion.order = s.motion.order ∧ (jobEndCheck s).motion.stop = s.motion.stop
      ∧ (jobEndCheck s).motion.unsure = s.motion.unsure ∧ (jobEndCheck s).zones = s.zones ∧ (jobEndCheck s).out = s.out
      ∧ (jobEndCheck s).faults.locked = s.faults.locked ∧ (jobEndCheck s).params = s.params ∧ (jobEndCheck s).time = s.time
      ∧ (jobEndCheck s).link.state = s.link.state ∧ (jobEndCheck s).link.intake = s.link.intake
      ∧ (jobEndCheck s).link.replies = s.link.replies ∧ (jobEndCheck s).link.pipe = s.link.pipe
      ∧ (jobEndCheck s).link.cause = s.link.cause ∧ (jobEndCheck s).platePresent = s.platePresent
      ∧ (jobEndCheck s).now = s.now ∧ (jobEndCheck s).pending = s.pending := by
  unfold jobEndCheck
  (try dsimp only) <;> (repeat' split) <;> simp

@[simp] theorem recordUndecided_frame (j : JobInHand) (s : State) (o : Nat) :
    (recordUndecided j s o).queue = s.queue ∧ (recordUndecided j s o).pass.state = s.pass.state
      ∧ (recordUndecided j s o).pass.job = s.pass.job ∧ (recordUndecided j s o).pass.tile = s.pass.tile
      ∧ (recordUndecided j s o).pass.mark = s.pass.mark ∧ (recordUndecided j s o).pass.handedOver = s.pass.handedOver
      ∧ (recordUndecided j s o).ladder = s.ladder ∧ (recordUndecided j s o).lamps = s.lamps
      ∧ (recordUndecided j s o).intake = s.intake ∧ (recordUndecided j s o).merge = s.merge
      ∧ (recordUndecided j s o).conv = s.conv ∧ (recordUndecided j s o).cal = s.cal ∧ (recordUndecided j s o).motion = s.motion
      ∧ (recordUndecided j s o).zones = s.zones ∧ (recordUndecided j s o).stats.histState = s.stats.histState
      ∧ (recordUndecided j s o).faults = s.faults ∧ (recordUndecided j s o).params = s.params
      ∧ (recordUndecided j s o).time = s.time ∧ (recordUndecided j s o).link.state = s.link.state
      ∧ (recordUndecided j s o).link.intake = s.link.intake ∧ (recordUndecided j s o).link.replies = s.link.replies
      ∧ (recordUndecided j s o).link.pipe = s.link.pipe ∧ (recordUndecided j s o).link.cause = s.link.cause
      ∧ (recordUndecided j s o).platePresent = s.platePresent ∧ (recordUndecided j s o).now = s.now
      ∧ (recordUndecided j s o).drawn = s.drawn ∧ (recordUndecided j s o).pending = s.pending :=
  writeRecord_frame _ _ _

@[simp] theorem recordUndecided_foldl_frame (j : JobInHand) (l : List Nat) (s : State) :
    (l.foldl (recordUndecided j) s).queue = s.queue ∧ (l.foldl (recordUndecided j) s).pass.state = s.pass.state
      ∧ (l.foldl (recordUndecided j) s).pass.job = s.pass.job ∧ (l.foldl (recordUndecided j) s).pass.tile = s.pass.tile
      ∧ (l.foldl (recordUndecided j) s).pass.mark = s.pass.mark ∧ (l.foldl (recordUndecided j) s).pass.handedOver = s.pass.handedOver
      ∧ (l.foldl (recordUndecided j) s).ladder = s.ladder ∧ (l.foldl (recordUndecided j) s).lamps = s.lamps
      ∧ (l.foldl (recordUndecided j) s).intake = s.intake ∧ (l.foldl (recordUndecided j) s).merge = s.merge
      ∧ (l.foldl (recordUndecided j) s).conv = s.conv ∧ (l.foldl (recordUndecided j) s).cal = s.cal ∧ (l.foldl (recordUndecided j) s).motion = s.motion
      ∧ (l.foldl (recordUndecided j) s).zones = s.zones ∧ (l.foldl (recordUndecided j) s).stats.histState = s.stats.histState
      ∧ (l.foldl (recordUndecided j) s).faults = s.faults ∧ (l.foldl (recordUndecided j) s).params = s.params
      ∧ (l.foldl (recordUndecided j) s).time = s.time ∧ (l.foldl (recordUndecided j) s).link.state = s.link.state
      ∧ (l.foldl (recordUndecided j) s).link.intake = s.link.intake ∧ (l.foldl (recordUndecided j) s).link.replies = s.link.replies
      ∧ (l.foldl (recordUndecided j) s).link.pipe = s.link.pipe ∧ (l.foldl (recordUndecided j) s).link.cause = s.link.cause
      ∧ (l.foldl (recordUndecided j) s).platePresent = s.platePresent ∧ (l.foldl (recordUndecided j) s).now = s.now
      ∧ (l.foldl (recordUndecided j) s).drawn = s.drawn ∧ (l.foldl (recordUndecided j) s).pending = s.pending := by
  induction l generalizing s with
  | nil => simp
  | cons o os ih =>
    have h := ih (recordUndecided j s o)
    simp only [recordUndecided_frame] at h
    exact h

@[simp] theorem closeWalk_frame (s : State) :
    (closeWalk s).queue = s.queue ∧ (closeWalk s).pass.state = s.pass.state ∧ (closeWalk s).pass.job = s.pass.job
      ∧ (closeWalk s).pass.tile = s.pass.tile ∧ (closeWalk s).pass.mark = s.pass.mark
      ∧ (closeWalk s).pass.handedOver = s.pass.handedOver ∧ (closeWalk s).ladder = s.ladder ∧ (closeWalk s).lamps = s.lamps
      ∧ (closeWalk s).intake = s.intake ∧ (closeWalk s).merge = s.merge ∧ (closeWalk s).conv = s.conv
      ∧ (closeWalk s).cal = s.cal ∧ (closeWalk s).motion = s.motion ∧ (closeWalk s).zones = s.zones
      ∧ (closeWalk s).stats.histState = s.stats.histState ∧ (closeWalk s).faults = s.faults ∧ (closeWalk s).params = s.params
      ∧ (closeWalk s).time = s.time ∧ (closeWalk s).link.state = s.link.state ∧ (closeWalk s).link.intake = s.link.intake
      ∧ (closeWalk s).link.replies = s.link.replies ∧ (closeWalk s).link.pipe = s.link.pipe
      ∧ (closeWalk s).link.cause = s.link.cause ∧ (closeWalk s).platePresent = s.platePresent ∧ (closeWalk s).now = s.now
      ∧ (closeWalk s).drawn = s.drawn ∧ (closeWalk s).pending = s.pending := by
  unfold closeWalk
  (try dsimp only) <;> (repeat' split) <;> simp

@[simp] theorem freeTilePlane_frame (s : State) :
    (freeTilePlane s).queue = s.queue ∧ (freeTilePlane s).pass.state = s.pass.state ∧ (freeTilePlane s).pass.job = s.pass.job
      ∧ (freeTilePlane s).pass.plate = s.pass.plate ∧ (freeTilePlane s).pass.loadIssued = s.pass.loadIssued
      ∧ (freeTilePlane s).pass.bank = s.pass.bank ∧ (freeTilePlane s).pass.banksUsed = s.pass.banksUsed
      ∧ (freeTilePlane s).pass.walkPos = s.pass.walkPos ∧ (freeTilePlane s).pass.mark = s.pass.mark
      ∧ (freeTilePlane s).pass.handedOver = s.pass.handedOver ∧ (freeTilePlane s).pass.budget = s.pass.budget
      ∧ (freeTilePlane s).pass.pausePending = s.pass.pausePending ∧ (freeTilePlane s).pass.cancelPending = s.pass.cancelPending
      ∧ (freeTilePlane s).pass.resumePoint = s.pass.resumePoint ∧ (freeTilePlane s).pass.stale = s.pass.stale
      ∧ (freeTilePlane s).pass.counts = s.pass.counts ∧ (freeTilePlane s).ladder = s.ladder ∧ (freeTilePlane s).lamps = s.lamps
      ∧ (freeTilePlane s).intake = s.intake ∧ (freeTilePlane s).conv = s.conv ∧ (freeTilePlane s).cal = s.cal
      ∧ (freeTilePlane s).motion = s.motion ∧ (freeTilePlane s).zones = s.zones ∧ (freeTilePlane s).out = s.out
      ∧ (freeTilePlane s).stats = s.stats ∧ (freeTilePlane s).faults = s.faults ∧ (freeTilePlane s).params = s.params
      ∧ (freeTilePlane s).time = s.time ∧ (freeTilePlane s).link = s.link ∧ (freeTilePlane s).platePresent = s.platePresent
      ∧ (freeTilePlane s).now = s.now ∧ (freeTilePlane s).drawn = s.drawn ∧ (freeTilePlane s).pending = s.pending := by
  unfold freeTilePlane
  (try dsimp only) <;> (repeat' split) <;> simp

@[simp] theorem recordTile_frame (s : State) :
    (recordTile s).queue = s.queue ∧ (recordTile s).pass.state = s.pass.state ∧ (recordTile s).pass.job = s.pass.job
      ∧ (recordTile s).pass.mark = s.pass.mark ∧ (recordTile s).pass.handedOver = s.pass.handedOver
      ∧ (recordTile s).lamps = s.lamps ∧ (recordTile s).intake = s.intake ∧ (recordTile s).conv = s.conv
      ∧ (recordTile s).cal = s.cal ∧ (recordTile s).motion = s.motion ∧ (recordTile s).zones = s.zones
      ∧ (recordTile s).stats.histState = s.stats.histState ∧ (recordTile s).faults = s.faults ∧ (recordTile s).params = s.params
      ∧ (recordTile s).time = s.time ∧ (recordTile s).link.state = s.link.state ∧ (recordTile s).link.intake = s.link.intake
      ∧ (recordTile s).link.replies = s.link.replies ∧ (recordTile s).link.pipe = s.link.pipe
      ∧ (recordTile s).link.cause = s.link.cause ∧ (recordTile s).platePresent = s.platePresent ∧ (recordTile s).now = s.now
      ∧ (recordTile s).drawn = s.drawn ∧ (recordTile s).pending = s.pending := by
  unfold recordTile
  (try dsimp only) <;> (repeat' split) <;> simp

@[simp] theorem beginReturn_frame (s : State) :
    (beginReturn s).queue = s.queue ∧ (beginReturn s).pass.state = s.pass.state ∧ (beginReturn s).pass.job = s.pass.job
      ∧ (beginReturn s).pass.tile = s.pass.tile ∧ (beginReturn s).pass.mark = s.pass.mark
      ∧ (beginReturn s).pass.handedOver = s.pass.handedOver ∧ (beginReturn s).ladder = s.ladder
      ∧ (beginReturn s).lamps = s.lamps ∧ (beginReturn s).intake = s.intake ∧ (beginReturn s).merge = s.merge
      ∧ (beginReturn s).conv = s.conv ∧ (beginReturn s).cal = s.cal ∧ (beginReturn s).motion.stop = s.motion.stop
      ∧ (beginReturn s).motion.unsure = s.motion.unsure ∧ (beginReturn s).zones = s.zones ∧ (beginReturn s).out = s.out
      ∧ (beginReturn s).faults = s.faults ∧ (beginReturn s).params = s.params ∧ (beginReturn s).time = s.time
      ∧ (beginReturn s).link = s.link ∧ (beginReturn s).platePresent = s.platePresent ∧ (beginReturn s).now = s.now
      ∧ (beginReturn s).drawn = s.drawn ∧ (beginReturn s).pending = s.pending := by
  unfold beginReturn
  (try dsimp only) <;> (repeat' split) <;> simp

@[simp] theorem enterReturning_frame (s : State) :
    (enterReturning s).queue = s.queue ∧ (enterReturning s).pass.job = s.pass.job ∧ (enterReturning s).pass.tile = s.pass.tile
      ∧ (enterReturning s).pass.mark = s.pass.mark ∧ (enterReturning s).pass.handedOver = s.pass.handedOver
      ∧ (enterReturning s).ladder = s.ladder ∧ (enterReturning s).lamps = s.lamps ∧ (enterReturning s).intake = s.intake
      ∧ (enterReturning s).merge = s.merge ∧ (enterReturning s).conv = s.conv ∧ (enterReturning s).cal = s.cal
      ∧ (enterReturning s).motion.stop = s.motion.stop ∧ (enterReturning s).motion.unsure = s.motion.unsure
      ∧ (enterReturning s).zones = s.zones ∧ (enterReturning s).out = s.out ∧ (enterReturning s).faults = s.faults
      ∧ (enterReturning s).params = s.params ∧ (enterReturning s).time = s.time ∧ (enterReturning s).link = s.link
      ∧ (enterReturning s).platePresent = s.platePresent ∧ (enterReturning s).now = s.now ∧ (enterReturning s).drawn = s.drawn
      ∧ (enterReturning s).pending = s.pending := by
  unfold enterReturning
  (try dsimp only) <;> (repeat' split) <;> simp

@[simp] theorem enterPaused_frame (point : ResumePoint) (s : State) :
    (enterPaused point s).queue = s.queue ∧ (enterPaused point s).pass.job = s.pass.job
      ∧ (enterPaused point s).pass.plate = s.pass.plate ∧ (enterPaused point s).pass.loadIssued = s.pass.loadIssued
      ∧ (enterPaused point s).pass.bank = s.pass.bank ∧ (enterPaused point s).pass.banksUsed = s.pass.banksUsed
      ∧ (enterPaused point s).pass.walkPos = s.pass.walkPos ∧ (enterPaused point s).pass.tile = s.pass.tile
      ∧ (enterPaused point s).pass.mark = s.pass.mark ∧ (enterPaused point s).pass.handedOver = s.pass.handedOver
      ∧ (enterPaused point s).pass.cancelPending = s.pass.cancelPending ∧ (enterPaused point s).pass.stale = s.pass.stale
      ∧ (enterPaused point s).pass.counts = s.pass.counts ∧ (enterPaused point s).ladder = s.ladder
      ∧ (enterPaused point s).lamps = s.lamps ∧ (enterPaused point s).intake = s.intake ∧ (enterPaused point s).merge = s.merge
      ∧ (enterPaused point s).conv = s.conv ∧ (enterPaused point s).cal = s.cal ∧ (enterPaused point s).motion = s.motion
      ∧ (enterPaused point s).zones = s.zones ∧ (enterPaused point s).out = s.out ∧ (enterPaused point s).stats = s.stats
      ∧ (enterPaused point s).faults = s.faults ∧ (enterPaused point s).params = s.params ∧ (enterPaused point s).time = s.time
      ∧ (enterPaused point s).link = s.link ∧ (enterPaused point s).platePresent = s.platePresent
      ∧ (enterPaused point s).now = s.now ∧ (enterPaused point s).drawn = s.drawn ∧ (enterPaused point s).pending = s.pending := by
  unfold enterPaused
  (try dsimp only) <;> (repeat' split) <;> simp

@[simp] theorem takeTile_frame (j : JobInHand) (s : State) :
    (takeTile j s).queue = s.queue ∧ (takeTile j s).pass.job = s.pass.job ∧ (takeTile j s).pass.plate = s.pass.plate
      ∧ (takeTile j s).pass.loadIssued = s.pass.loadIssued ∧ (takeTile j s).pass.bank = s.pass.bank
      ∧ (takeTile j s).pass.banksUsed = s.pass.banksUsed ∧ (takeTile j s).pass.mark = s.pass.mark
      ∧ (takeTile j s).pass.handedOver = s.pass.handedOver ∧ (takeTile j s).pass.budget = s.pass.budget
      ∧ (takeTile j s).pass.pausePending = s.pass.pausePending ∧ (takeTile j s).pass.cancelPending = s.pass.cancelPending
      ∧ (takeTile j s).pass.resumePoint = s.pass.resumePoint ∧ (takeTile j s).pass.stale = s.pass.stale
      ∧ (takeTile j s).pass.counts = s.pass.counts ∧ (takeTile j s).ladder = s.ladder ∧ (takeTile j s).lamps = s.lamps
      ∧ (takeTile j s).intake = s.intake ∧ (takeTile j s).merge = s.merge ∧ (takeTile j s).conv = s.conv
      ∧ (takeTile j s).cal = s.cal ∧ (takeTile j s).motion = s.motion ∧ (takeTile j s).zones = s.zones
      ∧ (takeTile j s).out = s.out ∧ (takeTile j s).stats = s.stats ∧ (takeTile j s).faults = s.faults
      ∧ (takeTile j s).params = s.params ∧ (takeTile j s).time = s.time ∧ (takeTile j s).link = s.link
      ∧ (takeTile j s).platePresent = s.platePresent ∧ (takeTile j s).now = s.now ∧ (takeTile j s).drawn = s.drawn
      ∧ (takeTile j s).pending = s.pending := by
  unfold takeTile
  (try dsimp only) <;> (repeat' split) <;> simp

@[simp] theorem decideRecord_frame (j : JobInHand) (status : TileStatus) (s : State) :
    (decideRecord j status s).queue = s.queue ∧ (decideRecord j status s).pass.state = s.pass.state
      ∧ (decideRecord j status s).pass.job = s.pass.job ∧ (decideRecord j status s).pass.mark = s.pass.mark
      ∧ (decideRecord j status s).pass.handedOver = s.pass.handedOver ∧ (decideRecord j status s).ladder = s.ladder
      ∧ (decideRecord j status s).lamps = s.lamps ∧ (decideRecord j status s).intake = s.intake
      ∧ (decideRecord j status s).merge = s.merge ∧ (decideRecord j status s).conv = s.conv
      ∧ (decideRecord j status s).cal = s.cal ∧ (decideRecord j status s).motion = s.motion
      ∧ (decideRecord j status s).zones = s.zones ∧ (decideRecord j status s).stats.histState = s.stats.histState
      ∧ (decideRecord j status s).faults = s.faults ∧ (decideRecord j status s).params = s.params
      ∧ (decideRecord j status s).time = s.time ∧ (decideRecord j status s).link.state = s.link.state
      ∧ (decideRecord j status s).link.intake = s.link.intake ∧ (decideRecord j status s).link.replies = s.link.replies
      ∧ (decideRecord j status s).link.pipe = s.link.pipe ∧ (decideRecord j status s).link.cause = s.link.cause
      ∧ (decideRecord j status s).platePresent = s.platePresent ∧ (decideRecord j status s).now = s.now
      ∧ (decideRecord j status s).drawn = s.drawn ∧ (decideRecord j status s).pending = s.pending := by
  unfold decideRecord
  (try dsimp only) <;> (repeat' split) <;> simp

@[simp] theorem boundaryLoop_frame (n : Nat) (s : State) :
    (boundaryLoop n s).queue = s.queue ∧ (boundaryLoop n s).pass.job = s.pass.job ∧ (boundaryLoop n s).pass.mark = s.pass.mark
      ∧ (boundaryLoop n s).pass.handedOver = s.pass.handedOver ∧ (boundaryLoop n s).ladder = s.ladder
      ∧ (boundaryLoop n s).lamps = s.lamps ∧ (boundaryLoop n s).intake = s.intake ∧ (boundaryLoop n s).merge = s.merge
      ∧ (boundaryLoop n s).conv = s.conv ∧ (boundaryLoop n s).cal = s.cal ∧ (boundaryLoop n s).motion.stop = s.motion.stop
      ∧ (boundaryLoop n s).motion.unsure = s.motion.unsure ∧ (boundaryLoop n s).faults.kinds = s.faults.kinds
      ∧ (boundaryLoop n s).faults.locked = s.faults.locked ∧ (boundaryLoop n s).faults.jobMark = s.faults.jobMark
      ∧ (boundaryLoop n s).params = s.params ∧ (boundaryLoop n s).time = s.time ∧ (boundaryLoop n s).link.state = s.link.state
      ∧ (boundaryLoop n s).link.intake = s.link.intake ∧ (boundaryLoop n s).link.replies = s.link.replies
      ∧ (boundaryLoop n s).link.pipe = s.link.pipe ∧ (boundaryLoop n s).link.cause = s.link.cause
      ∧ (boundaryLoop n s).platePresent = s.platePresent ∧ (boundaryLoop n s).now = s.now ∧ (boundaryLoop n s).drawn = s.drawn
      ∧ (boundaryLoop n s).pending = s.pending := by
  induction n generalizing s with
  | zero => simp [boundaryLoop]
  | succ n ih =>
    unfold boundaryLoop
    (try dsimp only) <;> (repeat' split) <;> simp [ih]

@[simp] theorem boundary_frame (s : State) :
    (boundary s).queue = s.queue ∧ (boundary s).pass.job = s.pass.job ∧ (boundary s).pass.mark = s.pass.mark
      ∧ (boundary s).pass.handedOver = s.pass.handedOver ∧ (boundary s).ladder = s.ladder ∧ (boundary s).lamps = s.lamps
      ∧ (boundary s).intake = s.intake ∧ (boundary s).merge = s.merge ∧ (boundary s).conv = s.conv ∧ (boundary s).cal = s.cal
      ∧ (boundary s).motion.stop = s.motion.stop ∧ (boundary s).motion.unsure = s.motion.unsure
      ∧ (boundary s).faults.kinds = s.faults.kinds ∧ (boundary s).faults.locked = s.faults.locked
      ∧ (boundary s).faults.jobMark = s.faults.jobMark ∧ (boundary s).params = s.params ∧ (boundary s).time = s.time
      ∧ (boundary s).link.state = s.link.state ∧ (boundary s).link.intake = s.link.intake
      ∧ (boundary s).link.replies = s.link.replies ∧ (boundary s).link.pipe = s.link.pipe
      ∧ (boundary s).link.cause = s.link.cause ∧ (boundary s).platePresent = s.platePresent ∧ (boundary s).now = s.now
      ∧ (boundary s).drawn = s.drawn ∧ (boundary s).pending = s.pending := by
  unfold boundary
  (try dsimp only) <;> (repeat' split) <;> simp

@[simp] theorem afterSettle_frame (dest : SettleTo) (s : State) :
    (afterSettle dest s).queue.next = s.queue.next ∧ (afterSettle dest s).ladder = s.ladder
      ∧ (afterSettle dest s).lamps = s.lamps ∧ (afterSettle dest s).intake = s.intake ∧ (afterSettle dest s).merge = s.merge
      ∧ (afterSettle dest s).conv = s.conv ∧ (afterSettle dest s).cal.cal = s.cal.cal
      ∧ (afterSettle dest s).motion.stop = s.motion.stop ∧ (afterSettle dest s).motion.unsure = s.motion.unsure
      ∧ (afterSettle dest s).faults.locked = s.faults.locked ∧ (afterSettle dest s).params = s.params
      ∧ (afterSettle dest s).time = s.time ∧ (afterSettle dest s).link.state = s.link.state
      ∧ (afterSettle dest s).link.intake = s.link.intake ∧ (afterSettle dest s).link.replies = s.link.replies
      ∧ (afterSettle dest s).link.pipe = s.link.pipe ∧ (afterSettle dest s).link.cause = s.link.cause
      ∧ (afterSettle dest s).platePresent = s.platePresent ∧ (afterSettle dest s).now = s.now
      ∧ (afterSettle dest s).pending = s.pending := by
  unfold afterSettle
  (try dsimp only) <;> (repeat' split) <;> simp

@[simp] theorem settleNow_frame (dest : SettleTo) (s : State) :
    (settleNow dest s).queue.next = s.queue.next ∧ (settleNow dest s).lamps = s.lamps ∧ (settleNow dest s).intake = s.intake
      ∧ (settleNow dest s).conv = s.conv ∧ (settleNow dest s).cal.cal = s.cal.cal
      ∧ (settleNow dest s).motion.stop = s.motion.stop ∧ (settleNow dest s).motion.unsure = s.motion.unsure
      ∧ (settleNow dest s).faults.locked = s.faults.locked ∧ (settleNow dest s).params = s.params
      ∧ (settleNow dest s).time = s.time ∧ (settleNow dest s).link.state = s.link.state
      ∧ (settleNow dest s).link.intake = s.link.intake ∧ (settleNow dest s).link.replies = s.link.replies
      ∧ (settleNow dest s).link.pipe = s.link.pipe ∧ (settleNow dest s).link.cause = s.link.cause
      ∧ (settleNow dest s).platePresent = s.platePresent ∧ (settleNow dest s).now = s.now
      ∧ (settleNow dest s).pending = s.pending := by
  unfold settleNow
  (try dsimp only) <;> (repeat' split) <;> simp

@[simp] theorem handOver_frame (l : Ladder) (s : State) :
    (handOver l s).queue = s.queue ∧ (handOver l s).pass.job = s.pass.job ∧ (handOver l s).pass.mark = s.pass.mark
      ∧ (handOver l s).lamps = s.lamps ∧ (handOver l s).intake = s.intake ∧ (handOver l s).conv = s.conv
      ∧ (handOver l s).cal = s.cal ∧ (handOver l s).motion.stop = s.motion.stop ∧ (handOver l s).motion.unsure = s.motion.unsure
      ∧ (handOver l s).faults.kinds = s.faults.kinds ∧ (handOver l s).faults.locked = s.faults.locked
      ∧ (handOver l s).faults.jobMark = s.faults.jobMark ∧ (handOver l s).params = s.params ∧ (handOver l s).time = s.time
      ∧ (handOver l s).link.state = s.link.state ∧ (handOver l s).link.intake = s.link.intake
      ∧ (handOver l s).link.replies = s.link.replies ∧ (handOver l s).link.pipe = s.link.pipe
      ∧ (handOver l s).link.cause = s.link.cause ∧ (handOver l s).platePresent = s.platePresent ∧ (handOver l s).now = s.now
      ∧ (handOver l s).drawn = s.drawn ∧ (handOver l s).pending = s.pending := by
  unfold handOver
  (try dsimp only) <;> (repeat' split) <;> simp

@[simp] theorem ladderDone_frame (l : Ladder) (s : State) :
    (ladderDone l s).queue.next = s.queue.next ∧ (ladderDone l s).lamps = s.lamps ∧ (ladderDone l s).intake = s.intake
      ∧ (ladderDone l s).conv = s.conv ∧ (ladderDone l s).cal.cal = s.cal.cal ∧ (ladderDone l s).motion.stop = s.motion.stop
      ∧ (ladderDone l s).motion.unsure = s.motion.unsure ∧ (ladderDone l s).faults.locked = s.faults.locked
      ∧ (ladderDone l s).params = s.params ∧ (ladderDone l s).time = s.time ∧ (ladderDone l s).link.state = s.link.state
      ∧ (ladderDone l s).link.intake = s.link.intake ∧ (ladderDone l s).link.replies = s.link.replies
      ∧ (ladderDone l s).link.pipe = s.link.pipe ∧ (ladderDone l s).link.cause = s.link.cause
      ∧ (ladderDone l s).platePresent = s.platePresent ∧ (ladderDone l s).now = s.now ∧ (ladderDone l s).pending = s.pending := by
  unfold ladderDone
  (try dsimp only) <;> (repeat' split) <;> simp

@[simp] theorem progress_frame (s : State) :
    (progress s).queue.next = s.queue.next ∧ (progress s).lamps = s.lamps ∧ (progress s).intake = s.intake
      ∧ (progress s).conv = s.conv ∧ (progress s).cal.cal = s.cal.cal ∧ (progress s).motion.stop = s.motion.stop
      ∧ (progress s).motion.unsure = s.motion.unsure ∧ (progress s).faults.locked = s.faults.locked
      ∧ (progress s).params = s.params ∧ (progress s).time = s.time ∧ (progress s).link.state = s.link.state
      ∧ (progress s).link.intake = s.link.intake ∧ (progress s).link.replies = s.link.replies
      ∧ (progress s).link.pipe = s.link.pipe ∧ (progress s).link.cause = s.link.cause
      ∧ (progress s).platePresent = s.platePresent ∧ (progress s).now = s.now ∧ (progress s).pending = s.pending := by
  unfold progress
  (try dsimp only) <;> (repeat' split) <;> simp

@[simp] theorem settle_frame (dest : SettleTo) (s : State) :
    (settle dest s).queue.next = s.queue.next ∧ (settle dest s).lamps = s.lamps ∧ (settle dest s).intake = s.intake
      ∧ (settle dest s).conv = s.conv ∧ (settle dest s).cal.cal = s.cal.cal ∧ (settle dest s).motion.stop = s.motion.stop
      ∧ (settle dest s).motion.unsure = s.motion.unsure ∧ (settle dest s).faults.locked = s.faults.locked
      ∧ (settle dest s).params = s.params ∧ (settle dest s).time = s.time ∧ (settle dest s).link.state = s.link.state
      ∧ (settle dest s).link.intake = s.link.intake ∧ (settle dest s).link.replies = s.link.replies
      ∧ (settle dest s).link.pipe = s.link.pipe ∧ (settle dest s).link.cause = s.link.cause
      ∧ (settle dest s).platePresent = s.platePresent ∧ (settle dest s).now = s.now ∧ (settle dest s).pending = s.pending := by
  unfold settle
  (try dsimp only) <;> (repeat' split) <;> simp

@[simp] theorem setMark_frame (m : Mark) (s : State) :
    (setMark m s).queue = s.queue ∧ (setMark m s).pass.state = s.pass.state ∧ (setMark m s).pass.job = s.pass.job
      ∧ (setMark m s).pass.plate = s.pass.plate ∧ (setMark m s).pass.loadIssued = s.pass.loadIssued
      ∧ (setMark m s).pass.bank = s.pass.bank ∧ (setMark m s).pass.banksUsed = s.pass.banksUsed
      ∧ (setMark m s).pass.walkPos = s.pass.walkPos ∧ (setMark m s).pass.tile = s.pass.tile
      ∧ (setMark m s).pass.handedOver = s.pass.handedOver ∧ (setMark m s).pass.budget = s.pass.budget
      ∧ (setMark m s).pass.pausePending = s.pass.pausePending ∧ (setMark m s).pass.cancelPending = s.pass.cancelPending
      ∧ (setMark m s).pass.resumePoint = s.pass.resumePoint ∧ (setMark m s).pass.stale = s.pass.stale
      ∧ (setMark m s).pass.counts = s.pass.counts ∧ (setMark m s).ladder = s.ladder ∧ (setMark m s).lamps = s.lamps
      ∧ (setMark m s).intake = s.intake ∧ (setMark m s).merge = s.merge ∧ (setMark m s).conv = s.conv
      ∧ (setMark m s).cal = s.cal ∧ (setMark m s).motion = s.motion ∧ (setMark m s).zones = s.zones ∧ (setMark m s).out = s.out
      ∧ (setMark m s).stats = s.stats ∧ (setMark m s).faults = s.faults ∧ (setMark m s).params = s.params
      ∧ (setMark m s).time = s.time ∧ (setMark m s).link = s.link ∧ (setMark m s).platePresent = s.platePresent
      ∧ (setMark m s).now = s.now ∧ (setMark m s).drawn = s.drawn ∧ (setMark m s).pending = s.pending := by
  unfold setMark
  (try dsimp only) <;> (repeat' split) <;> simp

@[simp] theorem markUnlessSet_frame (m : Mark) (s : State) :
    (markUnlessSet m s).queue = s.queue ∧ (markUnlessSet m s).pass.state = s.pass.state
      ∧ (markUnlessSet m s).pass.job = s.pass.job ∧ (markUnlessSet m s).pass.plate = s.pass.plate
      ∧ (markUnlessSet m s).pass.loadIssued = s.pass.loadIssued ∧ (markUnlessSet m s).pass.bank = s.pass.bank
      ∧ (markUnlessSet m s).pass.banksUsed = s.pass.banksUsed ∧ (markUnlessSet m s).pass.walkPos = s.pass.walkPos
      ∧ (markUnlessSet m s).pass.tile = s.pass.tile ∧ (markUnlessSet m s).pass.handedOver = s.pass.handedOver
      ∧ (markUnlessSet m s).pass.budget = s.pass.budget ∧ (markUnlessSet m s).pass.pausePending = s.pass.pausePending
      ∧ (markUnlessSet m s).pass.cancelPending = s.pass.cancelPending
      ∧ (markUnlessSet m s).pass.resumePoint = s.pass.resumePoint ∧ (markUnlessSet m s).pass.stale = s.pass.stale
      ∧ (markUnlessSet m s).pass.counts = s.pass.counts ∧ (markUnlessSet m s).ladder = s.ladder
      ∧ (markUnlessSet m s).lamps = s.lamps ∧ (markUnlessSet m s).intake = s.intake ∧ (markUnlessSet m s).merge = s.merge
      ∧ (markUnlessSet m s).conv = s.conv ∧ (markUnlessSet m s).cal = s.cal ∧ (markUnlessSet m s).motion = s.motion
      ∧ (markUnlessSet m s).zones = s.zones ∧ (markUnlessSet m s).out = s.out ∧ (markUnlessSet m s).stats = s.stats
      ∧ (markUnlessSet m s).faults = s.faults ∧ (markUnlessSet m s).params = s.params ∧ (markUnlessSet m s).time = s.time
      ∧ (markUnlessSet m s).link = s.link ∧ (markUnlessSet m s).platePresent = s.platePresent ∧ (markUnlessSet m s).now = s.now
      ∧ (markUnlessSet m s).drawn = s.drawn ∧ (markUnlessSet m s).pending = s.pending := by
  unfold markUnlessSet
  (try dsimp only) <;> (repeat' split) <;> simp

@[simp] theorem leavePlate_frame (s : State) :
    (leavePlate s).queue = s.queue ∧ (leavePlate s).pass.state = s.pass.state ∧ (leavePlate s).pass.job = s.pass.job
      ∧ (leavePlate s).pass.loadIssued = s.pass.loadIssued ∧ (leavePlate s).pass.bank = s.pass.bank
      ∧ (leavePlate s).pass.banksUsed = s.pass.banksUsed ∧ (leavePlate s).pass.walkPos = s.pass.walkPos
      ∧ (leavePlate s).pass.tile = s.pass.tile ∧ (leavePlate s).pass.mark = s.pass.mark
      ∧ (leavePlate s).pass.handedOver = s.pass.handedOver ∧ (leavePlate s).pass.budget = s.pass.budget
      ∧ (leavePlate s).pass.pausePending = s.pass.pausePending ∧ (leavePlate s).pass.cancelPending = s.pass.cancelPending
      ∧ (leavePlate s).pass.resumePoint = s.pass.resumePoint ∧ (leavePlate s).pass.stale = s.pass.stale
      ∧ (leavePlate s).pass.counts = s.pass.counts ∧ (leavePlate s).ladder = s.ladder ∧ (leavePlate s).lamps = s.lamps
      ∧ (leavePlate s).intake = s.intake ∧ (leavePlate s).merge = s.merge ∧ (leavePlate s).conv = s.conv
      ∧ (leavePlate s).cal = s.cal ∧ (leavePlate s).motion = s.motion ∧ (leavePlate s).zones = s.zones
      ∧ (leavePlate s).out = s.out ∧ (leavePlate s).stats = s.stats ∧ (leavePlate s).faults = s.faults
      ∧ (leavePlate s).params = s.params ∧ (leavePlate s).time = s.time ∧ (leavePlate s).link = s.link
      ∧ (leavePlate s).platePresent = s.platePresent ∧ (leavePlate s).now = s.now ∧ (leavePlate s).drawn = s.drawn
      ∧ (leavePlate s).pending = s.pending := by
  unfold leavePlate
  (try dsimp only) <;> (repeat' split) <;> simp

@[simp] theorem enterFinishing_frame (s : State) :
    (enterFinishing s).queue = s.queue ∧ (enterFinishing s).pass.job = s.pass.job ∧ (enterFinishing s).pass.plate = s.pass.plate
      ∧ (enterFinishing s).pass.loadIssued = s.pass.loadIssued ∧ (enterFinishing s).pass.bank = s.pass.bank
      ∧ (enterFinishing s).pass.banksUsed = s.pass.banksUsed ∧ (enterFinishing s).pass.walkPos = s.pass.walkPos
      ∧ (enterFinishing s).pass.tile = s.pass.tile ∧ (enterFinishing s).pass.mark = s.pass.mark
      ∧ (enterFinishing s).pass.handedOver = s.pass.handedOver ∧ (enterFinishing s).pass.budget = s.pass.budget
      ∧ (enterFinishing s).pass.pausePending = s.pass.pausePending
      ∧ (enterFinishing s).pass.cancelPending = s.pass.cancelPending ∧ (enterFinishing s).pass.resumePoint = s.pass.resumePoint
      ∧ (enterFinishing s).pass.stale = s.pass.stale ∧ (enterFinishing s).pass.counts = s.pass.counts
      ∧ (enterFinishing s).ladder = s.ladder ∧ (enterFinishing s).lamps = s.lamps ∧ (enterFinishing s).intake = s.intake
      ∧ (enterFinishing s).merge = s.merge ∧ (enterFinishing s).conv = s.conv ∧ (enterFinishing s).cal = s.cal
      ∧ (enterFinishing s).motion = s.motion ∧ (enterFinishing s).zones = s.zones ∧ (enterFinishing s).out = s.out
      ∧ (enterFinishing s).stats = s.stats ∧ (enterFinishing s).faults = s.faults ∧ (enterFinishing s).params = s.params
      ∧ (enterFinishing s).time = s.time ∧ (enterFinishing s).link = s.link ∧ (enterFinishing s).platePresent = s.platePresent
      ∧ (enterFinishing s).now = s.now ∧ (enterFinishing s).drawn = s.drawn ∧ (enterFinishing s).pending = s.pending := by
  unfold enterFinishing
  (try dsimp only) <;> (repeat' split) <;> simp

@[simp] theorem endHome_frame (result : HomeResult) (kind : Option FaultKind) (s : State) :
    (endHome result kind s).queue = s.queue ∧ (endHome result kind s).pass = s.pass ∧ (endHome result kind s).ladder = s.ladder
      ∧ (endHome result kind s).lamps = s.lamps ∧ (endHome result kind s).intake = s.intake
      ∧ (endHome result kind s).merge = s.merge ∧ (endHome result kind s).conv = s.conv ∧ (endHome result kind s).cal = s.cal
      ∧ (endHome result kind s).motion.nextNumber = s.motion.nextNumber ∧ (endHome result kind s).motion.order = s.motion.order
      ∧ (endHome result kind s).motion.stop = s.motion.stop ∧ (endHome result kind s).motion.unsure = s.motion.unsure
      ∧ (endHome result kind s).motion.position = s.motion.position ∧ (endHome result kind s).motion.expect = s.motion.expect
      ∧ (endHome result kind s).motion.discarded = s.motion.discarded ∧ (endHome result kind s).motion.last = s.motion.last
      ∧ (endHome result kind s).motion.waiting = s.motion.waiting ∧ (endHome result kind s).motion.sent = s.motion.sent
      ∧ (endHome result kind s).zones = s.zones ∧ (endHome result kind s).out = s.out ∧ (endHome result kind s).stats = s.stats
      ∧ (endHome result kind s).faults = s.faults ∧ (endHome result kind s).params = s.params
      ∧ (endHome result kind s).time = s.time ∧ (endHome result kind s).link.state = s.link.state
      ∧ (endHome result kind s).link.intake = s.link.intake ∧ (endHome result kind s).link.replies = s.link.replies
      ∧ (endHome result kind s).link.pipe = s.link.pipe ∧ (endHome result kind s).link.cause = s.link.cause
      ∧ (endHome result kind s).platePresent = s.platePresent ∧ (endHome result kind s).now = s.now
      ∧ (endHome result kind s).drawn = s.drawn ∧ (endHome result kind s).pending = s.pending := by
  unfold endHome
  (try dsimp only) <;> (repeat' split) <;> simp

@[simp] theorem haltTile_frame (s : State) :
    (haltTile s).queue.next = s.queue.next ∧ (haltTile s).lamps = s.lamps ∧ (haltTile s).intake = s.intake
      ∧ (haltTile s).conv = s.conv ∧ (haltTile s).cal.cal = s.cal.cal ∧ (haltTile s).motion.stop = s.motion.stop
      ∧ (haltTile s).motion.unsure = s.motion.unsure ∧ (haltTile s).faults.locked = s.faults.locked
      ∧ (haltTile s).params = s.params ∧ (haltTile s).time = s.time ∧ (haltTile s).link.state = s.link.state
      ∧ (haltTile s).link.intake = s.link.intake ∧ (haltTile s).link.replies = s.link.replies
      ∧ (haltTile s).link.pipe = s.link.pipe ∧ (haltTile s).link.cause = s.link.cause
      ∧ (haltTile s).platePresent = s.platePresent ∧ (haltTile s).now = s.now ∧ (haltTile s).pending = s.pending := by
  unfold haltTile
  (try dsimp only) <;> (repeat' split) <;> simp

@[simp] theorem halt_frame (kind : FaultKind) (injected : Bool) (s : State) :
    (halt kind injected s).queue.next = s.queue.next ∧ (halt kind injected s).lamps.line = s.lamps.line
      ∧ (halt kind injected s).intake.rx = s.intake.rx ∧ (halt kind injected s).intake.discarded = s.intake.discarded
      ∧ (halt kind injected s).conv = s.conv ∧ (halt kind injected s).motion.unsure = s.motion.unsure
      ∧ (halt kind injected s).faults.locked = s.faults.locked ∧ (halt kind injected s).params = s.params
      ∧ (halt kind injected s).time = s.time ∧ (halt kind injected s).link.state = s.link.state
      ∧ (halt kind injected s).link.intake = s.link.intake ∧ (halt kind injected s).link.replies = s.link.replies
      ∧ (halt kind injected s).link.pipe = s.link.pipe ∧ (halt kind injected s).link.cause = s.link.cause
      ∧ (halt kind injected s).platePresent = s.platePresent ∧ (halt kind injected s).now = s.now
      ∧ (halt kind injected s).pending = s.pending := by
  unfold halt
  (try dsimp only) <;> (repeat' split) <;> simp

@[simp] theorem haltNext_frame (s : State) :
    (haltNext s).queue.next = s.queue.next ∧ (haltNext s).lamps.line = s.lamps.line ∧ (haltNext s).intake.rx = s.intake.rx
      ∧ (haltNext s).intake.discarded = s.intake.discarded ∧ (haltNext s).conv = s.conv
      ∧ (haltNext s).motion.unsure = s.motion.unsure ∧ (haltNext s).faults.locked = s.faults.locked
      ∧ (haltNext s).params = s.params ∧ (haltNext s).time = s.time ∧ (haltNext s).link.state = s.link.state
      ∧ (haltNext s).link.intake = s.link.intake ∧ (haltNext s).link.replies = s.link.replies
      ∧ (haltNext s).link.pipe = s.link.pipe ∧ (haltNext s).link.cause = s.link.cause
      ∧ (haltNext s).platePresent = s.platePresent ∧ (haltNext s).now = s.now ∧ (haltNext s).pending = s.pending := by
  unfold haltNext
  (try dsimp only) <;> (repeat' split) <;> simp

/-- The oldest escalation that waits is taken, and the others wait on. -/
theorem haltNext_of_cons (s : State) (e : FaultKind × Bool) (rest : List (FaultKind × Bool)) (h : s.faults.escalations = e :: rest) :
    haltNext s = halt e.1 e.2 { s with faults.escalations := rest } := by
  unfold haltNext
  split
  · simp_all
  · next h' => rw [h] at h'; cases h'; rfl

@[simp] theorem takeAhead_frame (s : State) :
    (takeAhead s).queue.next = s.queue.next ∧ (takeAhead s).lamps.line = s.lamps.line ∧ (takeAhead s).intake.rx = s.intake.rx
      ∧ (takeAhead s).intake.discarded = s.intake.discarded ∧ (takeAhead s).conv = s.conv
      ∧ (takeAhead s).motion.unsure = s.motion.unsure ∧ (takeAhead s).faults.locked = s.faults.locked
      ∧ (takeAhead s).params = s.params ∧ (takeAhead s).time = s.time ∧ (takeAhead s).link.state = s.link.state
      ∧ (takeAhead s).link.intake = s.link.intake ∧ (takeAhead s).link.replies = s.link.replies
      ∧ (takeAhead s).link.pipe = s.link.pipe ∧ (takeAhead s).link.cause = s.link.cause
      ∧ (takeAhead s).platePresent = s.platePresent ∧ (takeAhead s).now = s.now ∧ (takeAhead s).pending = s.pending := by
  unfold takeAhead
  (try dsimp only) <;> (repeat' split) <;> simp

/-- A FAULT_TAKEN of fault `n` to come lets that one be recorded before its action, and leaves the others. -/
theorem recordAhead_getD (n k : Nat) (as : List Ahead) :
    (recordAhead n as)[k]?.getD .no = if k = n then (as[k]?.getD .no).record else as[k]?.getD .no := by
  induction n, as using recordAhead.induct generalizing k with
  | case1 => cases k <;> simp [recordAhead, Ahead.record]
  | case2 a as => cases k <;> simp [recordAhead]
  | case3 n ih => cases k <;> simp [recordAhead, ih]
  | case4 n a as ih => cases k <;> simp [recordAhead, ih]

/-- A HALT_ESCALATION with none waiting acts on the last entry alone. -/
@[simp] theorem escalateAhead_append (as : List Ahead) (a : Ahead) : escalateAhead (as ++ [a]) = as ++ [a.escalate] := by
  induction as with
  | nil => rfl
  | cons b bs ih => cases bs <;> simp_all [escalateAhead]

/-- With nothing let come before the action, nothing does. -/
@[simp] theorem takeAhead_of_none (s : State) (h : s.faults.ahead = []) : takeAhead s = s := by
  simp [takeAhead, h]

/-- A fault passed over is not recorded, and the next one is next in turn. -/
theorem takeAhead_over (s : State) (rest : List Ahead) (h : s.faults.ahead = .no :: rest) :
    takeAhead s = { s with faults.ahead := rest } := by
  simp [takeAhead, h]

/-- The fault just raised is recorded whole before the action, and, where its escalation may come too, the oldest one is taken. -/
theorem takeAhead_raised (s : State) (l : List Raised) (r : Raised) (a : Ahead) (rest : List Ahead)
    (h : s.faults.raised = l ++ [r]) (ha : s.faults.ahead = a :: rest) (hn : a ≠ .no) :
    takeAhead s =
      (let t := (recordFault r.kind r.ctx false { s with faults.ahead := rest, faults.raised := l }).1
       if a = .halted then haltNext t else t) := by
  have hr : takeRaised (s.faults.raised.length - 1) { s with faults.ahead := rest }
      = (recordFault r.kind r.ctx false { s with faults.ahead := rest, faults.raised := l }).1 := by
    simp [takeRaised, h, List.eraseIdx_append_of_length_le]
  unfold takeAhead
  rw [ha]
  dsimp only
  rw [hr]
  cases a
  · exact absurd rfl hn
  · rfl
  · rfl

/-- An unmasked FATAL fault just raised, its escalation let come before the action and no other waiting: the pass is halted by it, with
the fault recorded, before the action. -/
theorem takeAhead_halts (s : State) (l : List Raised) (r : Raised) (rest : List Ahead) (h : s.faults.raised = l ++ [r])
    (ha : s.faults.ahead = .halted :: rest) (he : s.faults.escalations = []) (hm : (s.kind r.kind).masked = false)
    (hs : (s.kind r.kind).severity = .fatal) :
    takeAhead s =
      (let t := (recordFault r.kind r.ctx false { s with faults.ahead := rest, faults.raised := l }).1
       halt r.kind false { t with faults.escalations := [] }) := by
  have ht : (recordFault r.kind r.ctx false { s with faults.ahead := rest, faults.raised := l }).1.faults.escalations
      = [(r.kind, false)] :=
    (recordFault_escalates r.kind r.ctx false { s with faults.ahead := rest, faults.raised := l } hm hs).trans (by simp [he])
  rw [takeAhead_raised s l r .halted rest h ha (by decide)]
  have hn : ∀ t : State, t.faults.escalations = [(r.kind, false)] →
      (if Ahead.halted = .halted then haltNext t else t) = halt r.kind false { t with faults.escalations := [] } := by
    intro t h
    rw [if_pos rfl, haltNext_of_cons t _ _ h]
  exact hn _ ht

@[simp] theorem takeGuards_frame (n : Nat) (s : State) :
    (takeGuards n s).queue.next = s.queue.next ∧ (takeGuards n s).lamps.line = s.lamps.line
      ∧ (takeGuards n s).intake.rx = s.intake.rx ∧ (takeGuards n s).intake.discarded = s.intake.discarded
      ∧ (takeGuards n s).conv = s.conv ∧ (takeGuards n s).motion.unsure = s.motion.unsure
      ∧ (takeGuards n s).faults.locked = s.faults.locked ∧ (takeGuards n s).params = s.params
      ∧ (takeGuards n s).time = s.time ∧ (takeGuards n s).link.state = s.link.state
      ∧ (takeGuards n s).link.intake = s.link.intake ∧ (takeGuards n s).link.replies = s.link.replies
      ∧ (takeGuards n s).link.pipe = s.link.pipe ∧ (takeGuards n s).link.cause = s.link.cause
      ∧ (takeGuards n s).platePresent = s.platePresent ∧ (takeGuards n s).now = s.now ∧ (takeGuards n s).pending = s.pending := by
  induction n generalizing s with
  | zero => simp [takeGuards]
  | succ n ih =>
    unfold takeGuards
    (repeat' split) <;> simp [ih]

@[simp] theorem takeGuard_frame (s : State) :
    (takeGuard s).queue.next = s.queue.next ∧ (takeGuard s).lamps.line = s.lamps.line
      ∧ (takeGuard s).intake.rx = s.intake.rx ∧ (takeGuard s).intake.discarded = s.intake.discarded
      ∧ (takeGuard s).conv = s.conv ∧ (takeGuard s).motion.unsure = s.motion.unsure
      ∧ (takeGuard s).faults.locked = s.faults.locked ∧ (takeGuard s).params = s.params ∧ (takeGuard s).time = s.time
      ∧ (takeGuard s).link.state = s.link.state ∧ (takeGuard s).link.intake = s.link.intake
      ∧ (takeGuard s).link.replies = s.link.replies ∧ (takeGuard s).link.pipe = s.link.pipe
      ∧ (takeGuard s).link.cause = s.link.cause ∧ (takeGuard s).platePresent = s.platePresent ∧ (takeGuard s).now = s.now
      ∧ (takeGuard s).pending = s.pending := by
  simp [takeGuard]

@[simp] theorem takeGuard_of_none (s : State) (h : s.faults.ahead = []) : takeGuard s = s := by
  simp [takeGuard, h, takeGuards]

@[simp] theorem darkenAndStop_frame (s : State) :
    (darkenAndStop s).queue = s.queue ∧ (darkenAndStop s).pass = s.pass ∧ (darkenAndStop s).lamps.line = s.lamps.line
      ∧ (darkenAndStop s).intake.rx = s.intake.rx ∧ (darkenAndStop s).intake.discarded = s.intake.discarded
      ∧ (darkenAndStop s).conv = s.conv ∧ (darkenAndStop s).cal = s.cal ∧ (darkenAndStop s).motion.unsure = s.motion.unsure
      ∧ (darkenAndStop s).faults = s.faults ∧ (darkenAndStop s).params = s.params ∧ (darkenAndStop s).time = s.time
      ∧ (darkenAndStop s).link = s.link ∧ (darkenAndStop s).platePresent = s.platePresent ∧ (darkenAndStop s).now = s.now
      ∧ (darkenAndStop s).pending = s.pending := by
  unfold darkenAndStop
  (try dsimp only) <;> (repeat' split) <;> simp

@[simp] theorem fatalLeave_frame (s : State) :
    (fatalLeave s).queue.next = s.queue.next ∧ (fatalLeave s).lamps.line = s.lamps.line
      ∧ (fatalLeave s).intake.rx = s.intake.rx ∧ (fatalLeave s).intake.discarded = s.intake.discarded
      ∧ (fatalLeave s).conv = s.conv ∧ (fatalLeave s).cal.cal = s.cal.cal ∧ (fatalLeave s).motion.unsure = s.motion.unsure
      ∧ (fatalLeave s).faults.locked = s.faults.locked ∧ (fatalLeave s).params = s.params ∧ (fatalLeave s).time = s.time
      ∧ (fatalLeave s).link.state = s.link.state ∧ (fatalLeave s).link.intake = s.link.intake
      ∧ (fatalLeave s).link.replies = s.link.replies ∧ (fatalLeave s).link.pipe = s.link.pipe
      ∧ (fatalLeave s).link.cause = s.link.cause ∧ (fatalLeave s).platePresent = s.platePresent ∧ (fatalLeave s).now = s.now
      ∧ (fatalLeave s).pending = s.pending := by
  unfold fatalLeave
  (try dsimp only) <;> (repeat' split) <;> simp

@[simp] theorem noLight_frame (s : State) :
    (noLight s).queue.next = s.queue.next ∧ (noLight s).lamps = s.lamps ∧ (noLight s).intake.rx = s.intake.rx
      ∧ (noLight s).intake.discarded = s.intake.discarded ∧ (noLight s).conv = s.conv ∧ (noLight s).cal.cal = s.cal.cal
      ∧ (noLight s).motion.stop = s.motion.stop ∧ (noLight s).motion.unsure = s.motion.unsure
      ∧ (noLight s).faults.locked = s.faults.locked ∧ (noLight s).params = s.params ∧ (noLight s).time = s.time
      ∧ (noLight s).link.state = s.link.state ∧ (noLight s).link.intake = s.link.intake
      ∧ (noLight s).link.replies = s.link.replies ∧ (noLight s).link.pipe = s.link.pipe
      ∧ (noLight s).link.cause = s.link.cause ∧ (noLight s).platePresent = s.platePresent ∧ (noLight s).now = s.now
      ∧ (noLight s).pending = s.pending := by
  unfold noLight
  (try dsimp only) <;> (repeat' split) <;> simp

@[simp] theorem plateSense_frame (s : State) :
    (plateSense s).queue.next = s.queue.next ∧ (plateSense s).lamps.line = s.lamps.line
      ∧ (plateSense s).intake.rx = s.intake.rx ∧ (plateSense s).intake.discarded = s.intake.discarded
      ∧ (plateSense s).conv = s.conv ∧ (plateSense s).motion.unsure = s.motion.unsure
      ∧ (plateSense s).faults.locked = s.faults.locked ∧ (plateSense s).params = s.params ∧ (plateSense s).time = s.time
      ∧ (plateSense s).link.state = s.link.state ∧ (plateSense s).link.intake = s.link.intake
      ∧ (plateSense s).link.replies = s.link.replies ∧ (plateSense s).link.pipe = s.link.pipe
      ∧ (plateSense s).link.cause = s.link.cause ∧ (plateSense s).platePresent = s.platePresent ∧ (plateSense s).now = s.now
      ∧ (plateSense s).pending = s.pending := by
  unfold plateSense
  (try dsimp only) <;> (repeat' split) <;> simp

@[simp] theorem motionFatal_frame (kind : FaultKind) (requester : Requester) (s : State) :
    (motionFatal kind requester s).queue.next = s.queue.next ∧ (motionFatal kind requester s).lamps.line = s.lamps.line
      ∧ (motionFatal kind requester s).intake.rx = s.intake.rx
      ∧ (motionFatal kind requester s).intake.discarded = s.intake.discarded ∧ (motionFatal kind requester s).conv = s.conv
      ∧ (motionFatal kind requester s).faults.locked = s.faults.locked ∧ (motionFatal kind requester s).params = s.params
      ∧ (motionFatal kind requester s).time = s.time ∧ (motionFatal kind requester s).link.state = s.link.state
      ∧ (motionFatal kind requester s).link.intake = s.link.intake
      ∧ (motionFatal kind requester s).link.replies = s.link.replies ∧ (motionFatal kind requester s).link.pipe = s.link.pipe
      ∧ (motionFatal kind requester s).link.cause = s.link.cause
      ∧ (motionFatal kind requester s).platePresent = s.platePresent ∧ (motionFatal kind requester s).now = s.now
      ∧ (motionFatal kind requester s).pending = s.pending := by
  unfold motionFatal
  (try dsimp only) <;> (repeat' split) <;> simp

@[simp] theorem runBudget_frame (s : State) :
    (runBudget s).queue = s.queue ∧ (runBudget s).pass.state = s.pass.state ∧ (runBudget s).pass.job = s.pass.job
      ∧ (runBudget s).pass.plate = s.pass.plate ∧ (runBudget s).pass.loadIssued = s.pass.loadIssued
      ∧ (runBudget s).pass.bank = s.pass.bank ∧ (runBudget s).pass.banksUsed = s.pass.banksUsed
      ∧ (runBudget s).pass.walkPos = s.pass.walkPos ∧ (runBudget s).pass.tile = s.pass.tile
      ∧ (runBudget s).pass.mark = s.pass.mark ∧ (runBudget s).pass.handedOver = s.pass.handedOver
      ∧ (runBudget s).pass.pausePending = s.pass.pausePending ∧ (runBudget s).pass.cancelPending = s.pass.cancelPending
      ∧ (runBudget s).pass.resumePoint = s.pass.resumePoint ∧ (runBudget s).pass.stale = s.pass.stale
      ∧ (runBudget s).pass.counts = s.pass.counts ∧ (runBudget s).ladder = s.ladder ∧ (runBudget s).lamps = s.lamps
      ∧ (runBudget s).intake = s.intake ∧ (runBudget s).merge = s.merge ∧ (runBudget s).conv = s.conv
      ∧ (runBudget s).cal = s.cal ∧ (runBudget s).motion = s.motion ∧ (runBudget s).zones = s.zones ∧ (runBudget s).out = s.out
      ∧ (runBudget s).stats = s.stats ∧ (runBudget s).faults = s.faults ∧ (runBudget s).params = s.params
      ∧ (runBudget s).time = s.time ∧ (runBudget s).link = s.link ∧ (runBudget s).platePresent = s.platePresent
      ∧ (runBudget s).now = s.now ∧ (runBudget s).drawn = s.drawn ∧ (runBudget s).pending = s.pending := by
  unfold runBudget
  (try dsimp only) <;> (repeat' split) <;> simp

@[simp] theorem resumePaused_frame (s : State) :
    (resumePaused s).queue.next = s.queue.next ∧ (resumePaused s).lamps.line = s.lamps.line
      ∧ (resumePaused s).intake.rx = s.intake.rx ∧ (resumePaused s).intake.discarded = s.intake.discarded
      ∧ (resumePaused s).conv = s.conv ∧ (resumePaused s).motion.unsure = s.motion.unsure
      ∧ (resumePaused s).faults.locked = s.faults.locked ∧ (resumePaused s).params = s.params ∧ (resumePaused s).time = s.time
      ∧ (resumePaused s).link.state = s.link.state ∧ (resumePaused s).link.intake = s.link.intake
      ∧ (resumePaused s).link.replies = s.link.replies ∧ (resumePaused s).link.pipe = s.link.pipe
      ∧ (resumePaused s).link.cause = s.link.cause ∧ (resumePaused s).platePresent = s.platePresent
      ∧ (resumePaused s).now = s.now ∧ (resumePaused s).pending = s.pending := by
  unfold resumePaused
  (try dsimp only) <;> (repeat' split) <;> simp

@[simp] theorem clearTile_frame (s : State) :
    (clearTile s).queue = s.queue ∧ (clearTile s).pass.state = s.pass.state ∧ (clearTile s).pass.job = s.pass.job
      ∧ (clearTile s).pass.mark = s.pass.mark ∧ (clearTile s).pass.handedOver = s.pass.handedOver
      ∧ (clearTile s).lamps = s.lamps ∧ (clearTile s).intake = s.intake ∧ (clearTile s).conv = s.conv
      ∧ (clearTile s).cal = s.cal ∧ (clearTile s).motion = s.motion ∧ (clearTile s).zones = s.zones
      ∧ (clearTile s).stats.histState = s.stats.histState ∧ (clearTile s).faults = s.faults ∧ (clearTile s).params = s.params
      ∧ (clearTile s).time = s.time ∧ (clearTile s).link.state = s.link.state ∧ (clearTile s).link.intake = s.link.intake
      ∧ (clearTile s).link.replies = s.link.replies ∧ (clearTile s).link.pipe = s.link.pipe
      ∧ (clearTile s).link.cause = s.link.cause ∧ (clearTile s).platePresent = s.platePresent ∧ (clearTile s).now = s.now
      ∧ (clearTile s).drawn = s.drawn ∧ (clearTile s).pending = s.pending := by
  unfold clearTile
  (try dsimp only) <;> (repeat' split) <;> simp

@[simp] theorem clearHaltJob_frame (ret : Bool) (s : State) :
    (clearHaltJob ret s).queue.next = s.queue.next ∧ (clearHaltJob ret s).lamps = s.lamps
      ∧ (clearHaltJob ret s).intake = s.intake ∧ (clearHaltJob ret s).conv = s.conv
      ∧ (clearHaltJob ret s).cal.cal = s.cal.cal ∧ (clearHaltJob ret s).motion.stop = s.motion.stop
      ∧ (clearHaltJob ret s).motion.unsure = s.motion.unsure ∧ (clearHaltJob ret s).zones = s.zones
      ∧ (clearHaltJob ret s).faults.locked = s.faults.locked ∧ (clearHaltJob ret s).params = s.params
      ∧ (clearHaltJob ret s).time = s.time ∧ (clearHaltJob ret s).link.state = s.link.state
      ∧ (clearHaltJob ret s).link.intake = s.link.intake ∧ (clearHaltJob ret s).link.replies = s.link.replies
      ∧ (clearHaltJob ret s).link.pipe = s.link.pipe ∧ (clearHaltJob ret s).link.cause = s.link.cause
      ∧ (clearHaltJob ret s).platePresent = s.platePresent ∧ (clearHaltJob ret s).now = s.now
      ∧ (clearHaltJob ret s).pending = s.pending := by
  unfold clearHaltJob
  (try dsimp only) <;> (repeat' split) <;> simp

/-! ### Queue.lean -/

@[simp] theorem cancelQueued_frame (j : QueueJob) (s : State) :
    (cancelQueued j s).queue.run = s.queue.run ∧ (cancelQueued j s).queue.next = s.queue.next ∧ (cancelQueued j s).pass = s.pass
      ∧ (cancelQueued j s).ladder = s.ladder ∧ (cancelQueued j s).lamps = s.lamps ∧ (cancelQueued j s).intake = s.intake
      ∧ (cancelQueued j s).merge = s.merge ∧ (cancelQueued j s).conv = s.conv ∧ (cancelQueued j s).cal = s.cal
      ∧ (cancelQueued j s).motion = s.motion ∧ (cancelQueued j s).zones = s.zones ∧ (cancelQueued j s).out = s.out
      ∧ (cancelQueued j s).stats = s.stats ∧ (cancelQueued j s).faults = s.faults ∧ (cancelQueued j s).params = s.params
      ∧ (cancelQueued j s).time = s.time ∧ (cancelQueued j s).link.state = s.link.state
      ∧ (cancelQueued j s).link.intake = s.link.intake ∧ (cancelQueued j s).link.replies = s.link.replies
      ∧ (cancelQueued j s).link.pipe = s.link.pipe ∧ (cancelQueued j s).link.cause = s.link.cause
      ∧ (cancelQueued j s).platePresent = s.platePresent ∧ (cancelQueued j s).now = s.now ∧ (cancelQueued j s).drawn = s.drawn
      ∧ (cancelQueued j s).pending = s.pending := by
  unfold cancelQueued
  (try dsimp only) <;> (repeat' split) <;> simp

@[simp] theorem takeCancel_frame (s : State) :
    (takeCancel s).queue = s.queue ∧ (takeCancel s).pass.state = s.pass.state ∧ (takeCancel s).pass.job = s.pass.job
      ∧ (takeCancel s).pass.tile = s.pass.tile ∧ (takeCancel s).pass.handedOver = s.pass.handedOver
      ∧ (takeCancel s).ladder = s.ladder ∧ (takeCancel s).lamps = s.lamps ∧ (takeCancel s).intake = s.intake
      ∧ (takeCancel s).merge = s.merge ∧ (takeCancel s).conv = s.conv ∧ (takeCancel s).cal = s.cal
      ∧ (takeCancel s).motion = s.motion ∧ (takeCancel s).zones = s.zones ∧ (takeCancel s).out = s.out
      ∧ (takeCancel s).stats = s.stats ∧ (takeCancel s).faults = s.faults ∧ (takeCancel s).params = s.params
      ∧ (takeCancel s).time = s.time ∧ (takeCancel s).link = s.link ∧ (takeCancel s).platePresent = s.platePresent
      ∧ (takeCancel s).now = s.now ∧ (takeCancel s).drawn = s.drawn ∧ (takeCancel s).pending = s.pending := by
  unfold takeCancel
  (try dsimp only) <;> (repeat' split) <;> simp

@[simp] theorem bankChoice_frame (j : JobInHand) (s : State) :
    (bankChoice j s).queue.next = s.queue.next ∧ (bankChoice j s).ladder = s.ladder ∧ (bankChoice j s).lamps = s.lamps
      ∧ (bankChoice j s).intake = s.intake ∧ (bankChoice j s).merge = s.merge ∧ (bankChoice j s).conv = s.conv
      ∧ (bankChoice j s).cal.cal = s.cal.cal ∧ (bankChoice j s).motion.stop = s.motion.stop
      ∧ (bankChoice j s).motion.unsure = s.motion.unsure ∧ (bankChoice j s).zones = s.zones ∧ (bankChoice j s).out = s.out
      ∧ (bankChoice j s).faults.locked = s.faults.locked ∧ (bankChoice j s).params = s.params
      ∧ (bankChoice j s).time = s.time ∧ (bankChoice j s).link.state = s.link.state
      ∧ (bankChoice j s).link.intake = s.link.intake ∧ (bankChoice j s).link.replies = s.link.replies
      ∧ (bankChoice j s).link.pipe = s.link.pipe ∧ (bankChoice j s).link.cause = s.link.cause
      ∧ (bankChoice j s).platePresent = s.platePresent ∧ (bankChoice j s).now = s.now ∧ (bankChoice j s).pending = s.pending := by
  unfold bankChoice
  (try dsimp only) <;> (repeat' split) <;> simp

@[simp] theorem prepCheck_frame (s : State) :
    (prepCheck s).queue.next = s.queue.next ∧ (prepCheck s).lamps.line = s.lamps.line ∧ (prepCheck s).intake.rx = s.intake.rx
      ∧ (prepCheck s).intake.discarded = s.intake.discarded ∧ (prepCheck s).conv = s.conv
      ∧ (prepCheck s).motion.unsure = s.motion.unsure ∧ (prepCheck s).faults.locked = s.faults.locked
      ∧ (prepCheck s).params = s.params ∧ (prepCheck s).time = s.time ∧ (prepCheck s).link.state = s.link.state
      ∧ (prepCheck s).link.intake = s.link.intake ∧ (prepCheck s).link.replies = s.link.replies
      ∧ (prepCheck s).link.pipe = s.link.pipe ∧ (prepCheck s).link.cause = s.link.cause
      ∧ (prepCheck s).platePresent = s.platePresent ∧ (prepCheck s).now = s.now ∧ (prepCheck s).pending = s.pending := by
  unfold prepCheck
  (try dsimp only) <;> (repeat' split) <;> simp

@[simp] theorem prepare_frame (j : JobInHand) (s : State) :
    (prepare j s).queue = s.queue ∧ (prepare j s).ladder = s.ladder ∧ (prepare j s).lamps = s.lamps
      ∧ (prepare j s).intake = s.intake ∧ (prepare j s).merge = s.merge ∧ (prepare j s).conv = s.conv
      ∧ (prepare j s).cal.flatA = s.cal.flatA ∧ (prepare j s).cal.flatB = s.cal.flatB ∧ (prepare j s).cal.cal = s.cal.cal
      ∧ (prepare j s).motion = s.motion ∧ (prepare j s).zones = s.zones ∧ (prepare j s).out = s.out
      ∧ (prepare j s).stats = s.stats ∧ (prepare j s).faults.kinds = s.faults.kinds
      ∧ (prepare j s).faults.corrected = s.faults.corrected ∧ (prepare j s).faults.serious = s.faults.serious
      ∧ (prepare j s).faults.locked = s.faults.locked ∧ (prepare j s).faults.raised = s.faults.raised
      ∧ (prepare j s).faults.escalations = s.faults.escalations ∧ (prepare j s).params = s.params ∧ (prepare j s).time = s.time
      ∧ (prepare j s).link = s.link ∧ (prepare j s).platePresent = s.platePresent ∧ (prepare j s).now = s.now
      ∧ (prepare j s).drawn = s.drawn ∧ (prepare j s).pending = s.pending := by
  unfold prepare
  (try dsimp only) <;> (repeat' split) <;> simp

/-! ### Orders.lean -/

@[simp] theorem enterLoading_frame (s : State) :
    (enterLoading s).queue = s.queue ∧ (enterLoading s).pass.job = s.pass.job ∧ (enterLoading s).pass.tile = s.pass.tile
      ∧ (enterLoading s).pass.mark = s.pass.mark ∧ (enterLoading s).pass.handedOver = s.pass.handedOver
      ∧ (enterLoading s).ladder = s.ladder ∧ (enterLoading s).lamps = s.lamps ∧ (enterLoading s).intake = s.intake
      ∧ (enterLoading s).merge = s.merge ∧ (enterLoading s).conv = s.conv ∧ (enterLoading s).cal = s.cal
      ∧ (enterLoading s).motion.stop = s.motion.stop ∧ (enterLoading s).motion.unsure = s.motion.unsure
      ∧ (enterLoading s).zones = s.zones ∧ (enterLoading s).out = s.out ∧ (enterLoading s).faults = s.faults
      ∧ (enterLoading s).params = s.params ∧ (enterLoading s).time = s.time ∧ (enterLoading s).link = s.link
      ∧ (enterLoading s).platePresent = s.platePresent ∧ (enterLoading s).now = s.now ∧ (enterLoading s).drawn = s.drawn
      ∧ (enterLoading s).pending = s.pending := by
  unfold enterLoading
  (try dsimp only) <;> (repeat' split) <;> simp

@[simp] theorem preparingDone_frame (s : State) :
    (preparingDone s).queue.next = s.queue.next ∧ (preparingDone s).lamps.line = s.lamps.line
      ∧ (preparingDone s).intake.rx = s.intake.rx ∧ (preparingDone s).intake.discarded = s.intake.discarded
      ∧ (preparingDone s).conv = s.conv ∧ (preparingDone s).motion.unsure = s.motion.unsure
      ∧ (preparingDone s).faults.locked = s.faults.locked ∧ (preparingDone s).params = s.params
      ∧ (preparingDone s).time = s.time ∧ (preparingDone s).link.state = s.link.state
      ∧ (preparingDone s).link.intake = s.link.intake ∧ (preparingDone s).link.replies = s.link.replies
      ∧ (preparingDone s).link.pipe = s.link.pipe ∧ (preparingDone s).link.cause = s.link.cause
      ∧ (preparingDone s).platePresent = s.platePresent ∧ (preparingDone s).now = s.now
      ∧ (preparingDone s).pending = s.pending := by
  unfold preparingDone
  (try dsimp only) <;> (repeat' split) <;> simp

@[simp] theorem loadDone_frame (s : State) :
    (loadDone s).queue.next = s.queue.next ∧ (loadDone s).lamps.line = s.lamps.line ∧ (loadDone s).intake.rx = s.intake.rx
      ∧ (loadDone s).intake.discarded = s.intake.discarded ∧ (loadDone s).conv = s.conv
      ∧ (loadDone s).motion.unsure = s.motion.unsure ∧ (loadDone s).faults.locked = s.faults.locked
      ∧ (loadDone s).params = s.params ∧ (loadDone s).time = s.time ∧ (loadDone s).link.state = s.link.state
      ∧ (loadDone s).link.intake = s.link.intake ∧ (loadDone s).link.replies = s.link.replies
      ∧ (loadDone s).link.pipe = s.link.pipe ∧ (loadDone s).link.cause = s.link.cause
      ∧ (loadDone s).platePresent = s.platePresent ∧ (loadDone s).now = s.now ∧ (loadDone s).pending = s.pending := by
  unfold loadDone
  (try dsimp only) <;> (repeat' split) <;> simp

@[simp] theorem loadEmpty_frame (s : State) :
    (loadEmpty s).queue.next = s.queue.next ∧ (loadEmpty s).lamps.line = s.lamps.line ∧ (loadEmpty s).intake.rx = s.intake.rx
      ∧ (loadEmpty s).intake.discarded = s.intake.discarded ∧ (loadEmpty s).conv = s.conv
      ∧ (loadEmpty s).motion.unsure = s.motion.unsure ∧ (loadEmpty s).faults.locked = s.faults.locked
      ∧ (loadEmpty s).params = s.params ∧ (loadEmpty s).time = s.time ∧ (loadEmpty s).link.state = s.link.state
      ∧ (loadEmpty s).link.intake = s.link.intake ∧ (loadEmpty s).link.replies = s.link.replies
      ∧ (loadEmpty s).link.pipe = s.link.pipe ∧ (loadEmpty s).link.cause = s.link.cause
      ∧ (loadEmpty s).platePresent = s.platePresent ∧ (loadEmpty s).now = s.now ∧ (loadEmpty s).pending = s.pending := by
  unfold loadEmpty
  (try dsimp only) <;> (repeat' split) <;> simp

@[simp] theorem tileMoved_frame (s : State) :
    (tileMoved s).queue.next = s.queue.next ∧ (tileMoved s).lamps = s.lamps ∧ (tileMoved s).intake = s.intake
      ∧ (tileMoved s).conv = s.conv ∧ (tileMoved s).cal.cal = s.cal.cal ∧ (tileMoved s).motion.stop = s.motion.stop
      ∧ (tileMoved s).motion.unsure = s.motion.unsure ∧ (tileMoved s).faults.locked = s.faults.locked
      ∧ (tileMoved s).params = s.params ∧ (tileMoved s).time = s.time ∧ (tileMoved s).link.state = s.link.state
      ∧ (tileMoved s).link.intake = s.link.intake ∧ (tileMoved s).link.replies = s.link.replies
      ∧ (tileMoved s).link.pipe = s.link.pipe ∧ (tileMoved s).link.cause = s.link.cause
      ∧ (tileMoved s).platePresent = s.platePresent ∧ (tileMoved s).now = s.now ∧ (tileMoved s).pending = s.pending := by
  unfold tileMoved
  (try dsimp only) <;> (repeat' split) <;> simp

@[simp] theorem returnDone_frame (s : State) :
    (returnDone s).queue.next = s.queue.next ∧ (returnDone s).lamps.line = s.lamps.line
      ∧ (returnDone s).intake.rx = s.intake.rx ∧ (returnDone s).intake.discarded = s.intake.discarded
      ∧ (returnDone s).conv = s.conv ∧ (returnDone s).motion.unsure = s.motion.unsure
      ∧ (returnDone s).faults.locked = s.faults.locked ∧ (returnDone s).params = s.params ∧ (returnDone s).time = s.time
      ∧ (returnDone s).link.state = s.link.state ∧ (returnDone s).link.intake = s.link.intake
      ∧ (returnDone s).link.replies = s.link.replies ∧ (returnDone s).link.pipe = s.link.pipe
      ∧ (returnDone s).link.cause = s.link.cause ∧ (returnDone s).platePresent = s.platePresent ∧ (returnDone s).now = s.now
      ∧ (returnDone s).pending = s.pending := by
  unfold returnDone
  (try dsimp only) <;> (repeat' split) <;> simp

@[simp] theorem returningDone_frame (s : State) :
    (returningDone s).queue.next = s.queue.next ∧ (returningDone s).lamps.line = s.lamps.line
      ∧ (returningDone s).intake.rx = s.intake.rx ∧ (returningDone s).intake.discarded = s.intake.discarded
      ∧ (returningDone s).conv = s.conv ∧ (returningDone s).motion.unsure = s.motion.unsure
      ∧ (returningDone s).faults.locked = s.faults.locked ∧ (returningDone s).params = s.params
      ∧ (returningDone s).time = s.time ∧ (returningDone s).link.state = s.link.state
      ∧ (returningDone s).link.intake = s.link.intake ∧ (returningDone s).link.replies = s.link.replies
      ∧ (returningDone s).link.pipe = s.link.pipe ∧ (returningDone s).link.cause = s.link.cause
      ∧ (returningDone s).platePresent = s.platePresent ∧ (returningDone s).now = s.now
      ∧ (returningDone s).pending = s.pending := by
  unfold returningDone
  (try dsimp only) <;> (repeat' split) <;> simp

@[simp] theorem passOrderDone_frame (s : State) :
    (passOrderDone s).queue.next = s.queue.next ∧ (passOrderDone s).lamps.line = s.lamps.line
      ∧ (passOrderDone s).intake.rx = s.intake.rx ∧ (passOrderDone s).intake.discarded = s.intake.discarded
      ∧ (passOrderDone s).conv = s.conv ∧ (passOrderDone s).motion.unsure = s.motion.unsure
      ∧ (passOrderDone s).faults.locked = s.faults.locked ∧ (passOrderDone s).params = s.params
      ∧ (passOrderDone s).time = s.time ∧ (passOrderDone s).link.state = s.link.state
      ∧ (passOrderDone s).link.intake = s.link.intake ∧ (passOrderDone s).link.replies = s.link.replies
      ∧ (passOrderDone s).link.pipe = s.link.pipe ∧ (passOrderDone s).link.cause = s.link.cause
      ∧ (passOrderDone s).platePresent = s.platePresent ∧ (passOrderDone s).now = s.now
      ∧ (passOrderDone s).pending = s.pending := by
  unfold passOrderDone
  (try dsimp only) <;> (repeat' split) <;> simp

@[simp] theorem orderDone_frame (o : Order) (s : State) :
    (orderDone o s).queue.next = s.queue.next ∧ (orderDone o s).lamps.line = s.lamps.line
      ∧ (orderDone o s).intake.rx = s.intake.rx ∧ (orderDone o s).intake.discarded = s.intake.discarded
      ∧ (orderDone o s).conv = s.conv ∧ (orderDone o s).faults.locked = s.faults.locked ∧ (orderDone o s).params = s.params
      ∧ (orderDone o s).time = s.time ∧ (orderDone o s).link.state = s.link.state
      ∧ (orderDone o s).link.intake = s.link.intake ∧ (orderDone o s).link.replies = s.link.replies
      ∧ (orderDone o s).link.pipe = s.link.pipe ∧ (orderDone o s).link.cause = s.link.cause
      ∧ (orderDone o s).platePresent = s.platePresent ∧ (orderDone o s).now = s.now ∧ (orderDone o s).pending = s.pending := by
  unfold orderDone
  (try dsimp only) <;> (repeat' split) <;> simp

@[simp] theorem takeReport_frame (kind : ReportKind) (number : Nat) (s : State) :
    (takeReport kind number s).queue.next = s.queue.next ∧ (takeReport kind number s).lamps.line = s.lamps.line
      ∧ (takeReport kind number s).intake.rx = s.intake.rx ∧ (takeReport kind number s).intake.discarded = s.intake.discarded
      ∧ (takeReport kind number s).conv = s.conv ∧ (takeReport kind number s).faults.locked = s.faults.locked
      ∧ (takeReport kind number s).params = s.params ∧ (takeReport kind number s).time = s.time
      ∧ (takeReport kind number s).link.state = s.link.state ∧ (takeReport kind number s).link.intake = s.link.intake
      ∧ (takeReport kind number s).link.replies = s.link.replies ∧ (takeReport kind number s).link.pipe = s.link.pipe
      ∧ (takeReport kind number s).link.cause = s.link.cause ∧ (takeReport kind number s).platePresent = s.platePresent
      ∧ (takeReport kind number s).now = s.now ∧ (takeReport kind number s).pending = s.pending := by
  unfold takeReport
  (try dsimp only) <;> (repeat' split) <;> simp

@[simp] theorem assemble_frame (b : RxByte) (s : State) :
    (assemble b s).1.queue = s.queue ∧ (assemble b s).1.pass = s.pass ∧ (assemble b s).1.ladder = s.ladder ∧ (assemble b
      s).1.lamps = s.lamps ∧ (assemble b s).1.intake = s.intake ∧ (assemble b s).1.merge = s.merge ∧ (assemble b
      s).1.conv = s.conv ∧ (assemble b s).1.cal = s.cal ∧ (assemble b s).1.zones = s.zones ∧ (assemble b s).1.out =
      s.out ∧ (assemble b s).1.stats = s.stats ∧ (assemble b s).1.faults = s.faults ∧ (assemble b s).1.params = s.params
      ∧ (assemble b s).1.time = s.time ∧ (assemble b s).1.link = s.link ∧ (assemble b s).1.platePresent = s.platePresent
      ∧ (assemble b s).1.now = s.now ∧ (assemble b s).1.drawn = s.drawn ∧ (assemble b s).1.pending = s.pending := by
  unfold assemble
  (try dsimp only) <;> (repeat' split) <;> simp

@[simp] theorem takeByte_frame (s : State) (b : RxByte) :
    (takeByte s b).queue.next = s.queue.next ∧ (takeByte s b).lamps.line = s.lamps.line
      ∧ (takeByte s b).intake.rx = s.intake.rx ∧ (takeByte s b).intake.discarded = s.intake.discarded
      ∧ (takeByte s b).conv = s.conv ∧ (takeByte s b).faults.locked = s.faults.locked ∧ (takeByte s b).params = s.params
      ∧ (takeByte s b).time = s.time ∧ (takeByte s b).link.state = s.link.state ∧ (takeByte s b).link.intake = s.link.intake
      ∧ (takeByte s b).link.replies = s.link.replies ∧ (takeByte s b).link.pipe = s.link.pipe
      ∧ (takeByte s b).link.cause = s.link.cause ∧ (takeByte s b).platePresent = s.platePresent ∧ (takeByte s b).now = s.now
      ∧ (takeByte s b).pending = s.pending := by
  have h := assemble_frame b s
  unfold takeByte
  generalize assemble b s = r at h ⊢
  obtain ⟨t, _ | ⟨bytes, err⟩⟩ := r
  · simp only at h ⊢
    simp [h]
  · dsimp only at h ⊢
    split <;> simp [h]

/-! ### Capture.lean -/

@[simp] theorem loseRung_frame (rung started : Nat) (s : State) :
    (loseRung rung started s).queue.next = s.queue.next ∧ (loseRung rung started s).lamps.line = s.lamps.line
      ∧ (loseRung rung started s).intake.rx = s.intake.rx ∧ (loseRung rung started s).intake.discarded = s.intake.discarded
      ∧ (loseRung rung started s).conv = s.conv ∧ (loseRung rung started s).motion.unsure = s.motion.unsure
      ∧ (loseRung rung started s).faults.locked = s.faults.locked ∧ (loseRung rung started s).params = s.params
      ∧ (loseRung rung started s).time = s.time ∧ (loseRung rung started s).link.state = s.link.state
      ∧ (loseRung rung started s).link.intake = s.link.intake ∧ (loseRung rung started s).link.replies = s.link.replies
      ∧ (loseRung rung started s).link.pipe = s.link.pipe ∧ (loseRung rung started s).link.cause = s.link.cause
      ∧ (loseRung rung started s).platePresent = s.platePresent ∧ (loseRung rung started s).now = s.now
      ∧ (loseRung rung started s).pending = s.pending := by
  unfold loseRung
  (try dsimp only) <;> (repeat' split) <;> simp

@[simp] theorem decideFailure_frame (bankFault : Bool) (r a started : Nat) (s : State) :
    (decideFailure bankFault r a started s).queue.next = s.queue.next
      ∧ (decideFailure bankFault r a started s).lamps.line = s.lamps.line
      ∧ (decideFailure bankFault r a started s).intake.rx = s.intake.rx
      ∧ (decideFailure bankFault r a started s).intake.discarded = s.intake.discarded
      ∧ (decideFailure bankFault r a started s).conv = s.conv
      ∧ (decideFailure bankFault r a started s).motion.unsure = s.motion.unsure
      ∧ (decideFailure bankFault r a started s).faults.locked = s.faults.locked
      ∧ (decideFailure bankFault r a started s).params = s.params ∧ (decideFailure bankFault r a started s).time = s.time
      ∧ (decideFailure bankFault r a started s).link.state = s.link.state
      ∧ (decideFailure bankFault r a started s).link.intake = s.link.intake
      ∧ (decideFailure bankFault r a started s).link.replies = s.link.replies
      ∧ (decideFailure bankFault r a started s).link.pipe = s.link.pipe
      ∧ (decideFailure bankFault r a started s).link.cause = s.link.cause
      ∧ (decideFailure bankFault r a started s).platePresent = s.platePresent
      ∧ (decideFailure bankFault r a started s).now = s.now ∧ (decideFailure bankFault r a started s).pending = s.pending := by
  unfold decideFailure
  (try dsimp only) <;> (repeat' split) <;> simp

@[simp] theorem failExposure_frame (bankFault : Bool) (s : State) :
    (failExposure bankFault s).queue.next = s.queue.next ∧ (failExposure bankFault s).lamps.line = s.lamps.line
      ∧ (failExposure bankFault s).intake.rx = s.intake.rx
      ∧ (failExposure bankFault s).intake.discarded = s.intake.discarded ∧ (failExposure bankFault s).conv = s.conv
      ∧ (failExposure bankFault s).motion.unsure = s.motion.unsure
      ∧ (failExposure bankFault s).faults.locked = s.faults.locked ∧ (failExposure bankFault s).params = s.params
      ∧ (failExposure bankFault s).time = s.time ∧ (failExposure bankFault s).link.state = s.link.state
      ∧ (failExposure bankFault s).link.intake = s.link.intake ∧ (failExposure bankFault s).link.replies = s.link.replies
      ∧ (failExposure bankFault s).link.pipe = s.link.pipe ∧ (failExposure bankFault s).link.cause = s.link.cause
      ∧ (failExposure bankFault s).platePresent = s.platePresent ∧ (failExposure bankFault s).now = s.now
      ∧ (failExposure bankFault s).pending = s.pending := by
  unfold failExposure
  (try dsimp only) <;> (repeat' split) <;> simp

@[simp] theorem exposureRanOut_frame (x : Exposure) (verdict : Verdict) (s : State) :
    (exposureRanOut x verdict s).queue.next = s.queue.next ∧ (exposureRanOut x verdict s).lamps.line = s.lamps.line
      ∧ (exposureRanOut x verdict s).intake.rx = s.intake.rx
      ∧ (exposureRanOut x verdict s).intake.discarded = s.intake.discarded ∧ (exposureRanOut x verdict s).conv = s.conv
      ∧ (exposureRanOut x verdict s).motion.unsure = s.motion.unsure
      ∧ (exposureRanOut x verdict s).faults.locked = s.faults.locked ∧ (exposureRanOut x verdict s).params = s.params
      ∧ (exposureRanOut x verdict s).time = s.time ∧ (exposureRanOut x verdict s).link.state = s.link.state
      ∧ (exposureRanOut x verdict s).link.intake = s.link.intake
      ∧ (exposureRanOut x verdict s).link.replies = s.link.replies ∧ (exposureRanOut x verdict s).link.pipe = s.link.pipe
      ∧ (exposureRanOut x verdict s).link.cause = s.link.cause ∧ (exposureRanOut x verdict s).platePresent = s.platePresent
      ∧ (exposureRanOut x verdict s).now = s.now ∧ (exposureRanOut x verdict s).pending = s.pending := by
  unfold exposureRanOut
  (try dsimp only) <;> (repeat' split) <;> simp

@[simp] theorem exposureFaulted_frame (purpose : Purpose) (s : State) :
    (exposureFaulted purpose s).queue.next = s.queue.next ∧ (exposureFaulted purpose s).lamps.line = s.lamps.line
      ∧ (exposureFaulted purpose s).intake.rx = s.intake.rx
      ∧ (exposureFaulted purpose s).intake.discarded = s.intake.discarded ∧ (exposureFaulted purpose s).conv = s.conv
      ∧ (exposureFaulted purpose s).motion.unsure = s.motion.unsure
      ∧ (exposureFaulted purpose s).faults.locked = s.faults.locked ∧ (exposureFaulted purpose s).params = s.params
      ∧ (exposureFaulted purpose s).time = s.time ∧ (exposureFaulted purpose s).link.state = s.link.state
      ∧ (exposureFaulted purpose s).link.intake = s.link.intake ∧ (exposureFaulted purpose s).link.replies = s.link.replies
      ∧ (exposureFaulted purpose s).link.pipe = s.link.pipe ∧ (exposureFaulted purpose s).link.cause = s.link.cause
      ∧ (exposureFaulted purpose s).platePresent = s.platePresent ∧ (exposureFaulted purpose s).now = s.now
      ∧ (exposureFaulted purpose s).pending = s.pending := by
  unfold exposureFaulted
  (try dsimp only) <;> (repeat' split) <;> simp

@[simp] theorem litFault_frame (bank : BankId) (x : Exposure) (s : State) :
    (litFault bank x s).queue.next = s.queue.next ∧ (litFault bank x s).lamps.line = s.lamps.line
      ∧ (litFault bank x s).intake.rx = s.intake.rx ∧ (litFault bank x s).intake.discarded = s.intake.discarded
      ∧ (litFault bank x s).conv = s.conv ∧ (litFault bank x s).motion.unsure = s.motion.unsure
      ∧ (litFault bank x s).faults.locked = s.faults.locked ∧ (litFault bank x s).params = s.params
      ∧ (litFault bank x s).time = s.time ∧ (litFault bank x s).link.state = s.link.state
      ∧ (litFault bank x s).link.intake = s.link.intake ∧ (litFault bank x s).link.replies = s.link.replies
      ∧ (litFault bank x s).link.pipe = s.link.pipe ∧ (litFault bank x s).link.cause = s.link.cause
      ∧ (litFault bank x s).platePresent = s.platePresent ∧ (litFault bank x s).now = s.now
      ∧ (litFault bank x s).pending = s.pending := by
  unfold litFault
  (try dsimp only) <;> (repeat' split) <;> simp

@[simp] theorem progressOn_frame (s : State) :
    (progressOn s).queue.next = s.queue.next ∧ (progressOn s).lamps.line = s.lamps.line
      ∧ (progressOn s).intake.rx = s.intake.rx ∧ (progressOn s).intake.discarded = s.intake.discarded
      ∧ (progressOn s).conv = s.conv ∧ (progressOn s).motion.unsure = s.motion.unsure
      ∧ (progressOn s).faults.locked = s.faults.locked ∧ (progressOn s).params = s.params ∧ (progressOn s).time = s.time
      ∧ (progressOn s).link.state = s.link.state ∧ (progressOn s).link.intake = s.link.intake
      ∧ (progressOn s).link.replies = s.link.replies ∧ (progressOn s).link.pipe = s.link.pipe
      ∧ (progressOn s).link.cause = s.link.cause ∧ (progressOn s).platePresent = s.platePresent ∧ (progressOn s).now = s.now
      ∧ (progressOn s).pending = s.pending := by
  simp [progressOn]

@[simp] theorem frameDiscarded_frame (i : SlotId) (d : Slot) (s : State) :
    (frameDiscarded i d s).queue.next = s.queue.next ∧ (frameDiscarded i d s).lamps.line = s.lamps.line
      ∧ (frameDiscarded i d s).intake.rx = s.intake.rx ∧ (frameDiscarded i d s).intake.discarded = s.intake.discarded
      ∧ (frameDiscarded i d s).conv = s.conv ∧ (frameDiscarded i d s).motion.unsure = s.motion.unsure
      ∧ (frameDiscarded i d s).faults.locked = s.faults.locked ∧ (frameDiscarded i d s).params = s.params
      ∧ (frameDiscarded i d s).time = s.time ∧ (frameDiscarded i d s).link.state = s.link.state
      ∧ (frameDiscarded i d s).link.intake = s.link.intake ∧ (frameDiscarded i d s).link.replies = s.link.replies
      ∧ (frameDiscarded i d s).link.pipe = s.link.pipe ∧ (frameDiscarded i d s).link.cause = s.link.cause
      ∧ (frameDiscarded i d s).platePresent = s.platePresent ∧ (frameDiscarded i d s).now = s.now
      ∧ (frameDiscarded i d s).pending = s.pending := by
  unfold frameDiscarded
  (try dsimp only) <;> (repeat' split) <;> simp

@[simp] theorem frameFailed_frame (i : SlotId) (d : Slot) (kind : FaultKind) (verdict : FrameVerdict) (s : State) :
    (frameFailed i d kind verdict s).queue.next = s.queue.next ∧ (frameFailed i d kind verdict s).lamps.line = s.lamps.line
      ∧ (frameFailed i d kind verdict s).intake.rx = s.intake.rx
      ∧ (frameFailed i d kind verdict s).intake.discarded = s.intake.discarded
      ∧ (frameFailed i d kind verdict s).conv = s.conv ∧ (frameFailed i d kind verdict s).motion.unsure = s.motion.unsure
      ∧ (frameFailed i d kind verdict s).faults.locked = s.faults.locked ∧ (frameFailed i d kind verdict s).params = s.params
      ∧ (frameFailed i d kind verdict s).time = s.time ∧ (frameFailed i d kind verdict s).link.state = s.link.state
      ∧ (frameFailed i d kind verdict s).link.intake = s.link.intake
      ∧ (frameFailed i d kind verdict s).link.replies = s.link.replies
      ∧ (frameFailed i d kind verdict s).link.pipe = s.link.pipe ∧ (frameFailed i d kind verdict s).link.cause = s.link.cause
      ∧ (frameFailed i d kind verdict s).platePresent = s.platePresent ∧ (frameFailed i d kind verdict s).now = s.now
      ∧ (frameFailed i d kind verdict s).pending = s.pending := by
  unfold frameFailed
  (try dsimp only) <;> (repeat' split) <;> simp

@[simp] theorem frameValid_frame (i : SlotId) (d : Slot) (s : State) :
    (frameValid i d s).queue.next = s.queue.next ∧ (frameValid i d s).lamps.line = s.lamps.line
      ∧ (frameValid i d s).intake.rx = s.intake.rx ∧ (frameValid i d s).intake.discarded = s.intake.discarded
      ∧ (frameValid i d s).conv = s.conv ∧ (frameValid i d s).motion.unsure = s.motion.unsure
      ∧ (frameValid i d s).faults.locked = s.faults.locked ∧ (frameValid i d s).params = s.params
      ∧ (frameValid i d s).time = s.time ∧ (frameValid i d s).link.state = s.link.state
      ∧ (frameValid i d s).link.intake = s.link.intake ∧ (frameValid i d s).link.replies = s.link.replies
      ∧ (frameValid i d s).link.pipe = s.link.pipe ∧ (frameValid i d s).link.cause = s.link.cause
      ∧ (frameValid i d s).platePresent = s.platePresent ∧ (frameValid i d s).now = s.now
      ∧ (frameValid i d s).pending = s.pending := by
  unfold frameValid
  (try dsimp only) <;> (repeat' split) <;> simp

@[simp] theorem judgeFrame_frame (i : SlotId) (broken : Bool) (s : State) :
    (judgeFrame i broken s).queue.next = s.queue.next ∧ (judgeFrame i broken s).lamps.line = s.lamps.line
      ∧ (judgeFrame i broken s).intake.rx = s.intake.rx ∧ (judgeFrame i broken s).intake.discarded = s.intake.discarded
      ∧ (judgeFrame i broken s).conv = s.conv ∧ (judgeFrame i broken s).motion.unsure = s.motion.unsure
      ∧ (judgeFrame i broken s).faults.locked = s.faults.locked ∧ (judgeFrame i broken s).params = s.params
      ∧ (judgeFrame i broken s).time = s.time ∧ (judgeFrame i broken s).link.state = s.link.state
      ∧ (judgeFrame i broken s).link.intake = s.link.intake ∧ (judgeFrame i broken s).link.replies = s.link.replies
      ∧ (judgeFrame i broken s).link.pipe = s.link.pipe ∧ (judgeFrame i broken s).link.cause = s.link.cause
      ∧ (judgeFrame i broken s).platePresent = s.platePresent ∧ (judgeFrame i broken s).now = s.now
      ∧ (judgeFrame i broken s).pending = s.pending := by
  unfold judgeFrame
  (try dsimp only) <;> (repeat' split) <;> simp

@[simp] theorem giveUpFrame_frame (i : SlotId) (m : Bool) (s : State) :
    (giveUpFrame i m s).queue = s.queue ∧ (giveUpFrame i m s).pass = s.pass ∧ (giveUpFrame i m s).ladder = s.ladder
      ∧ (giveUpFrame i m s).lamps = s.lamps ∧ (giveUpFrame i m s).intake.s1 = s.intake.s1
      ∧ (giveUpFrame i m s).intake.s2 = s.intake.s2 ∧ (giveUpFrame i m s).intake.discarded = s.intake.discarded
      ∧ (giveUpFrame i m s).intake.last = s.intake.last ∧ (giveUpFrame i m s).intake.validOrder = s.intake.validOrder
      ∧ (giveUpFrame i m s).merge = s.merge ∧ (giveUpFrame i m s).conv = s.conv ∧ (giveUpFrame i m s).cal = s.cal
      ∧ (giveUpFrame i m s).motion = s.motion ∧ (giveUpFrame i m s).zones = s.zones ∧ (giveUpFrame i m s).out = s.out
      ∧ (giveUpFrame i m s).stats = s.stats ∧ (giveUpFrame i m s).faults = s.faults
      ∧ (giveUpFrame i m s).params = s.params ∧ (giveUpFrame i m s).time = s.time
      ∧ (giveUpFrame i m s).link = s.link ∧ (giveUpFrame i m s).platePresent = s.platePresent ∧ (giveUpFrame i m s).now = s.now
      ∧ (giveUpFrame i m s).drawn = s.drawn ∧ (giveUpFrame i m s).pending = s.pending := by
  unfold giveUpFrame
  (try dsimp only) <;> (repeat' split) <;> simp

@[simp] theorem failedBankDue_frame (l : Ladder) (r a : Nat) (s : State) :
    (failedBankDue l r a s).queue.next = s.queue.next ∧ (failedBankDue l r a s).lamps.line = s.lamps.line
      ∧ (failedBankDue l r a s).intake.rx = s.intake.rx ∧ (failedBankDue l r a s).intake.discarded = s.intake.discarded
      ∧ (failedBankDue l r a s).conv = s.conv ∧ (failedBankDue l r a s).motion.unsure = s.motion.unsure
      ∧ (failedBankDue l r a s).faults.locked = s.faults.locked ∧ (failedBankDue l r a s).params = s.params
      ∧ (failedBankDue l r a s).time = s.time ∧ (failedBankDue l r a s).link.state = s.link.state
      ∧ (failedBankDue l r a s).link.intake = s.link.intake ∧ (failedBankDue l r a s).link.replies = s.link.replies
      ∧ (failedBankDue l r a s).link.pipe = s.link.pipe ∧ (failedBankDue l r a s).link.cause = s.link.cause
      ∧ (failedBankDue l r a s).platePresent = s.platePresent ∧ (failedBankDue l r a s).now = s.now
      ∧ (failedBankDue l r a s).pending = s.pending := by
  unfold failedBankDue
  (try dsimp only) <;> (repeat' split) <;> simp

@[simp] theorem claimPlane_frame (j : JobInHand) (t : Tile) (b : BankInUse) (i : PlaneId) (s : State) :
    (claimPlane j t b i s).queue = s.queue ∧ (claimPlane j t b i s).pass.state = s.pass.state
      ∧ (claimPlane j t b i s).pass.job = s.pass.job ∧ (claimPlane j t b i s).pass.plate = s.pass.plate
      ∧ (claimPlane j t b i s).pass.loadIssued = s.pass.loadIssued ∧ (claimPlane j t b i s).pass.bank = s.pass.bank
      ∧ (claimPlane j t b i s).pass.banksUsed = s.pass.banksUsed ∧ (claimPlane j t b i s).pass.walkPos = s.pass.walkPos
      ∧ (claimPlane j t b i s).pass.mark = s.pass.mark ∧ (claimPlane j t b i s).pass.handedOver = s.pass.handedOver
      ∧ (claimPlane j t b i s).pass.budget = s.pass.budget ∧ (claimPlane j t b i s).pass.pausePending = s.pass.pausePending
      ∧ (claimPlane j t b i s).pass.cancelPending = s.pass.cancelPending
      ∧ (claimPlane j t b i s).pass.resumePoint = s.pass.resumePoint ∧ (claimPlane j t b i s).pass.stale = s.pass.stale
      ∧ (claimPlane j t b i s).pass.counts = s.pass.counts ∧ (claimPlane j t b i s).lamps = s.lamps
      ∧ (claimPlane j t b i s).intake = s.intake ∧ (claimPlane j t b i s).conv = s.conv ∧ (claimPlane j t b i s).cal = s.cal
      ∧ (claimPlane j t b i s).motion = s.motion ∧ (claimPlane j t b i s).zones = s.zones ∧ (claimPlane j t b i s).out = s.out
      ∧ (claimPlane j t b i s).stats = s.stats ∧ (claimPlane j t b i s).faults = s.faults
      ∧ (claimPlane j t b i s).params = s.params ∧ (claimPlane j t b i s).time = s.time ∧ (claimPlane j t b i s).link = s.link
      ∧ (claimPlane j t b i s).platePresent = s.platePresent ∧ (claimPlane j t b i s).now = s.now
      ∧ (claimPlane j t b i s).drawn = s.drawn ∧ (claimPlane j t b i s).pending = s.pending := by
  unfold claimPlane
  (try dsimp only) <;> (repeat' split) <;> simp

@[simp] theorem rungMerged_frame (f : Flight) (s : State) :
    (rungMerged f s).queue = s.queue ∧ (rungMerged f s).pass.state = s.pass.state ∧ (rungMerged f s).pass.job = s.pass.job
      ∧ (rungMerged f s).pass.tile = s.pass.tile ∧ (rungMerged f s).pass.mark = s.pass.mark
      ∧ (rungMerged f s).pass.handedOver = s.pass.handedOver ∧ (rungMerged f s).lamps = s.lamps
      ∧ (rungMerged f s).intake = s.intake ∧ (rungMerged f s).conv = s.conv ∧ (rungMerged f s).cal.flatA = s.cal.flatA
      ∧ (rungMerged f s).cal.flatB = s.cal.flatB ∧ (rungMerged f s).cal.cal = s.cal.cal ∧ (rungMerged f s).motion = s.motion
      ∧ (rungMerged f s).zones = s.zones ∧ (rungMerged f s).out = s.out ∧ (rungMerged f s).stats.histState = s.stats.histState
      ∧ (rungMerged f s).faults.kinds = s.faults.kinds ∧ (rungMerged f s).faults.locked = s.faults.locked
      ∧ (rungMerged f s).faults.jobMark = s.faults.jobMark ∧ (rungMerged f s).params = s.params ∧ (rungMerged f s).time = s.time
      ∧ (rungMerged f s).link.state = s.link.state ∧ (rungMerged f s).link.intake = s.link.intake
      ∧ (rungMerged f s).link.replies = s.link.replies ∧ (rungMerged f s).link.pipe = s.link.pipe
      ∧ (rungMerged f s).link.cause = s.link.cause ∧ (rungMerged f s).platePresent = s.platePresent
      ∧ (rungMerged f s).now = s.now ∧ (rungMerged f s).drawn = s.drawn ∧ (rungMerged f s).pending = s.pending := by
  unfold rungMerged
  (try dsimp only) <;> (repeat' split) <;> simp

@[simp] theorem attentionPause_frame (attention : Bool) (s : State) :
    (attentionPause attention s).queue = s.queue ∧ (attentionPause attention s).pass.state = s.pass.state
      ∧ (attentionPause attention s).pass.job = s.pass.job ∧ (attentionPause attention s).pass.plate = s.pass.plate
      ∧ (attentionPause attention s).pass.loadIssued = s.pass.loadIssued ∧ (attentionPause attention s).pass.bank = s.pass.bank
      ∧ (attentionPause attention s).pass.banksUsed = s.pass.banksUsed
      ∧ (attentionPause attention s).pass.walkPos = s.pass.walkPos ∧ (attentionPause attention s).pass.tile = s.pass.tile
      ∧ (attentionPause attention s).pass.mark = s.pass.mark ∧ (attentionPause attention s).pass.handedOver = s.pass.handedOver
      ∧ (attentionPause attention s).pass.budget = s.pass.budget
      ∧ (attentionPause attention s).pass.cancelPending = s.pass.cancelPending
      ∧ (attentionPause attention s).pass.resumePoint = s.pass.resumePoint
      ∧ (attentionPause attention s).pass.stale = s.pass.stale ∧ (attentionPause attention s).pass.counts = s.pass.counts
      ∧ (attentionPause attention s).ladder = s.ladder ∧ (attentionPause attention s).lamps = s.lamps
      ∧ (attentionPause attention s).intake = s.intake ∧ (attentionPause attention s).merge = s.merge
      ∧ (attentionPause attention s).conv = s.conv ∧ (attentionPause attention s).cal = s.cal
      ∧ (attentionPause attention s).motion = s.motion ∧ (attentionPause attention s).zones = s.zones
      ∧ (attentionPause attention s).out = s.out ∧ (attentionPause attention s).stats = s.stats
      ∧ (attentionPause attention s).faults = s.faults ∧ (attentionPause attention s).params = s.params
      ∧ (attentionPause attention s).time = s.time ∧ (attentionPause attention s).link = s.link
      ∧ (attentionPause attention s).platePresent = s.platePresent ∧ (attentionPause attention s).now = s.now
      ∧ (attentionPause attention s).drawn = s.drawn ∧ (attentionPause attention s).pending = s.pending := by
  unfold attentionPause
  (try dsimp only) <;> (repeat' split) <;> simp

@[simp] theorem finishConversion_frame (c : Conversion) (fields : LadderFields) (s : State) :
    (finishConversion c fields s).queue.next = s.queue.next ∧ (finishConversion c fields s).ladder = s.ladder
      ∧ (finishConversion c fields s).lamps = s.lamps ∧ (finishConversion c fields s).intake = s.intake
      ∧ (finishConversion c fields s).cal.cal = s.cal.cal
      ∧ (finishConversion c fields s).motion.nextNumber = s.motion.nextNumber
      ∧ (finishConversion c fields s).motion.order = s.motion.order
      ∧ (finishConversion c fields s).motion.stop = s.motion.stop
      ∧ (finishConversion c fields s).motion.unsure = s.motion.unsure ∧ (finishConversion c fields s).zones = s.zones
      ∧ (finishConversion c fields s).faults.locked = s.faults.locked ∧ (finishConversion c fields s).params = s.params
      ∧ (finishConversion c fields s).time = s.time ∧ (finishConversion c fields s).link.state = s.link.state
      ∧ (finishConversion c fields s).link.intake = s.link.intake
      ∧ (finishConversion c fields s).link.replies = s.link.replies ∧ (finishConversion c fields s).link.pipe = s.link.pipe
      ∧ (finishConversion c fields s).link.cause = s.link.cause ∧ (finishConversion c fields s).platePresent = s.platePresent
      ∧ (finishConversion c fields s).now = s.now ∧ (finishConversion c fields s).pending = s.pending := by
  unfold finishConversion
  (try dsimp only) <;> (repeat' split) <;> simp

@[simp] theorem windUp_frame (s : State) :
    (windUp s).queue.next = s.queue.next ∧ (windUp s).lamps = s.lamps ∧ (windUp s).intake.rx = s.intake.rx
      ∧ (windUp s).intake.discarded = s.intake.discarded ∧ (windUp s).conv = s.conv ∧ (windUp s).cal.cal = s.cal.cal
      ∧ (windUp s).motion.stop = s.motion.stop ∧ (windUp s).motion.unsure = s.motion.unsure
      ∧ (windUp s).faults.locked = s.faults.locked ∧ (windUp s).params = s.params ∧ (windUp s).time = s.time
      ∧ (windUp s).link.state = s.link.state ∧ (windUp s).link.intake = s.link.intake
      ∧ (windUp s).link.replies = s.link.replies ∧ (windUp s).link.pipe = s.link.pipe ∧ (windUp s).link.cause = s.link.cause
      ∧ (windUp s).platePresent = s.platePresent ∧ (windUp s).now = s.now ∧ (windUp s).pending = s.pending := by
  unfold windUp
  (try dsimp only) <;> (repeat' split) <;> simp

/-! ### Params.lean -/

@[simp] theorem setTimeRes_frame (n : Nat) (s : State) :
    (setTimeRes n s).queue = s.queue ∧ (setTimeRes n s).pass = s.pass ∧ (setTimeRes n s).ladder = s.ladder
      ∧ (setTimeRes n s).lamps = s.lamps ∧ (setTimeRes n s).intake = s.intake ∧ (setTimeRes n s).merge = s.merge
      ∧ (setTimeRes n s).conv = s.conv ∧ (setTimeRes n s).cal = s.cal ∧ (setTimeRes n s).motion = s.motion
      ∧ (setTimeRes n s).zones = s.zones ∧ (setTimeRes n s).out = s.out ∧ (setTimeRes n s).stats = s.stats
      ∧ (setTimeRes n s).faults = s.faults ∧ (setTimeRes n s).time.count = s.time.count
      ∧ (setTimeRes n s).time.wraps = s.time.wraps ∧ (setTimeRes n s).link = s.link
      ∧ (setTimeRes n s).platePresent = s.platePresent ∧ (setTimeRes n s).now = s.now ∧ (setTimeRes n s).drawn = s.drawn
      ∧ (setTimeRes n s).pending = s.pending := by
  unfold setTimeRes
  (try dsimp only) <;> (repeat' split) <;> simp

@[simp] theorem setLevel_frame (bank : BankId) (n : Nat) (s : State) :
    (setLevel bank n s).queue = s.queue ∧ (setLevel bank n s).pass = s.pass ∧ (setLevel bank n s).ladder = s.ladder
      ∧ (setLevel bank n s).lamps = s.lamps ∧ (setLevel bank n s).intake = s.intake ∧ (setLevel bank n s).merge = s.merge
      ∧ (setLevel bank n s).conv = s.conv ∧ (setLevel bank n s).cal.cal = s.cal.cal ∧ (setLevel bank n s).motion = s.motion
      ∧ (setLevel bank n s).zones = s.zones ∧ (setLevel bank n s).out = s.out ∧ (setLevel bank n s).stats = s.stats
      ∧ (setLevel bank n s).faults = s.faults ∧ (setLevel bank n s).time = s.time ∧ (setLevel bank n s).link = s.link
      ∧ (setLevel bank n s).platePresent = s.platePresent ∧ (setLevel bank n s).now = s.now
      ∧ (setLevel bank n s).drawn = s.drawn ∧ (setLevel bank n s).pending = s.pending := by
  unfold setLevel
  (try dsimp only) <;> (repeat' split) <;> simp

/-! ### What the pass writes down -/

/-- A record changes the pass in its counts alone. -/
theorem writeRecord_pass (r : TileRecord) (notifyQuiet : Bool) (s : State) :
    (writeRecord r notifyQuiet s).pass = { s.pass with counts := s.pass.counts.count r } := by
  unfold writeRecord countStatus tileDone logNotices joinRing
  (try dsimp only) <;> (repeat' split) <;> simp

/-- The NOT_CAPTURED records of undecided tiles change the pass in that one count. -/
theorem recordUndecided_foldl_pass (j : JobInHand) (l : List Nat) (s : State) :
    (l.foldl (recordUndecided j) s).pass
      = { s.pass with counts := { s.pass.counts with notCaptured := s.pass.counts.notCaptured + l.length } } := by
  induction l generalizing s with
  | nil => rfl
  | cons o os ih =>
    rw [List.foldl_cons, ih, recordUndecided, writeRecord_pass]
    simp only [plainRecord, RecordCounts.count, List.length_cons, Nat.add_assoc, Nat.add_comm 1]

/-- Closing the walk of a loaded plate takes the walk position to the end and counts each undecided tile NOT_CAPTURED (R32). -/
theorem closeWalk_pass (s : State) (j : JobInHand) (hj : s.pass.job = some j) (hp : s.pass.plate ≠ .notLoaded) :
    (closeWalk s).pass = { s.pass with
      walkPos := j.record.tiles
      counts := { s.pass.counts with notCaptured := s.pass.counts.notCaptured + (j.record.tiles - s.pass.walkPos) } } := by
  unfold closeWalk
  rw [hj]
  dsimp only
  split
  · contradiction
  · simp [recordUndecided_foldl_pass]

/-- A tile that the halt finds not being settled is held, and no fault is recorded for it (R45). -/
theorem haltTile_faults (s : State) (ht : s.pass.tile ≠ none) (hs : s.pass.settle = none) : (haltTile s).faults = s.faults := by
  unfold haltTile
  split
  · contradiction
  · unfold progress
    dsimp only
    split
    · rfl
    · (repeat' split) <;> first | rfl | (simp; done) | simp_all
  · simp_all

end Sys2Proof.Machine
end

