-- ==== Sys2Proof/Laws/Requests.lean ====
section
/-! SUPPORT. What the taking of a request can do (R189, R190): bytes and numbers, the header, `takeRequest`, `serve`. -/

namespace Sys2Proof.Machine

open Sys2Proof

theorem leBytes_length (n v : Nat) : (leBytes n v).length = n := by
  induction n generalizing v with
  | zero => rfl
  | succ n ih => simp [leBytes, ih]

/-- Bytes written least significant first read back as the number, modulo what they can hold. -/
theorem leNat_leBytes (n v : Nat) : leNat (leBytes n v) = v % 256 ^ n := by
  induction n generalizing v with
  | zero => simp [leBytes, leNat, Nat.mod_one]
  | succ n ih =>
    simp only [leBytes, leNat, ih, BitVec.toNat_ofNat, Nat.reducePow]
    rw [pow_succ, Nat.mul_comm (256 ^ n) 256, Nat.mod_mul]

theorem leNat_lt (bs : List Byte) : leNat bs < 256 ^ bs.length := by
  induction bs with
  | nil => simp [leNat]
  | cons b bs ih =>
    have hb := b.isLt
    simp only [leNat, List.length_cons, pow_succ]
    omega

/-- A number written in `n` bytes is read back, with what follows it. -/
theorem takeNum_leBytes (n v : Nat) (bs : List Byte) :
    takeNum n (leBytes n v ++ bs) = some (v % 256 ^ n, bs) := by
  have h := leBytes_length n v
  simp [takeNum, h, leNat_leBytes]

theorem takeNum_leBytes_whole (n v : Nat) : takeNum n (leBytes n v) = some (v % 256 ^ n, []) := by
  simpa using takeNum_leBytes n v []

theorem tagOf_requestFrame (code : Nat) (tag flags : Byte) (body : List Byte) :
    tagOf (requestFrame code tag flags body) = tag := rfl

theorem kindCode_requestFrame (code : Nat) (tag flags : Byte) (body : List Byte) (h : code < 65536) :
    kindCode (requestFrame code tag flags body) = code := by
  simp [kindCode, requestFrame, leNat]
  omega

theorem headerLength_requestFrame (code : Nat) (tag flags : Byte) (body : List Byte) (h : body.length ≤ 1018) :
    headerLength (requestFrame code tag flags body) = body.length := by
  simp [headerLength, requestFrame, leNat]
  omega

theorem formatOk_requestFrame (code : Nat) (tag flags : Byte) (body : List Byte) (h : body.length ≤ 1018) :
    formatOk (requestFrame code tag flags body) = true := by
  have hl := headerLength_requestFrame code tag flags body h
  simp only [formatOk, hl, decide_eq_true_eq, Config.frameMax]
  simp [requestFrame]
  omega

/-- A request at the head of the intake is taken: tag, body, and the state with the transfer gone. -/
theorem takeRequest_of_atHead {code : Nat} {tag flags : Byte} {body : List Byte} {rest : List (List Byte)} {s : State}
    (h : AtHead code tag flags body rest s) (hc : code < 65536) :
    takeRequest code s = some (tag, body, { s with link.intake := rest }) := by
  obtain ⟨hi, hb, hr⟩ := h
  have hf := formatOk_requestFrame code tag flags body hb
  have hk := kindCode_requestFrame code tag flags body hc
  simp only [takeRequest, hi, hf, hk, Config.replyCap, hr, and_self, if_true, tagOf_requestFrame]
  rfl

/-- All that a request row does with the request at the head of the intake: the block's answer to the state with the transfer gone
is queued. -/
theorem serve_of_atHead {code : Nat} {tag flags : Byte} {body : List Byte} {rest : List (List Byte)} {s : State}
    (block : List Byte → State → ReplyBody × State) (h : AtHead code tag flags body rest s) (hc : code < 65536) :
    serve code block s = .next (queueReply code tag (block body { s with link.intake := rest }).1
      (block body { s with link.intake := rest }).2) := by
  simp only [serve, takeRequest_of_atHead h hc]

/-- All that a request row can do: nothing, when there is nothing of its kind to take; else one request goes from the intake,
the reply queue having had room, and the block's answer to its body is queued. -/
theorem serve_cases {code : Nat} {block : List Byte → State → ReplyBody × State} {s t : State}
    (h : serve code block s = .next t) :
    t = s ∨ ∃ tr rest, s.link.intake = tr :: rest ∧ s.link.replies.length < 4
      ∧ t = queueReply code (tagOf tr) (block (tr.drop 6) { s with link.intake := rest }).1
          (block (tr.drop 6) { s with link.intake := rest }).2 := by
  unfold serve takeRequest at h
  split at h
  · left; simpa using h.symm
  · next heq =>
    right
    split at heq
    · simp at heq
    · next tr rest hi =>
      split at heq
      · next hc =>
        simp only [Option.some.injEq, Prod.mk.injEq] at heq
        obtain ⟨rfl, rfl, rfl⟩ := heq
        exact ⟨tr, rest, hi, hc.1, by simpa using h.symm⟩
      · simp at heq

/-- A request row never stops. -/
theorem serve_next (code : Nat) (block : List Byte → State → ReplyBody × State) (s : State) :
    ∃ t, serve code block s = .next t := by
  unfold serve
  split <;> exact ⟨_, rfl⟩

end Sys2Proof.Machine
end

