-- ==== Sys2Proof/Tests/Slice0.lean ====
section
/-! SUPPORT. Tests: the smoke test of WellFormed, the manual's worked examples, and, for each statement with hypotheses, a witness that
meets them, at the boundaries of its clauses. Expected values are the manual's, worked by hand; nothing here is the model's own answer. -/

namespace Sys2Proof.Tests

open Sys2Proof Sys2Proof.Machine

-- One test is evaluated at a time: side by side their threads would together reserve more memory than the build allows.
set_option Elab.async false

/-! ### Small states -/

/-- Reset with the link CONFIGURED. -/
def cfg : State := { State.reset with link.state := .configured }

/-- `s` with one request in the intake, tag 7. -/
def asking (s : State) (code : Nat) (body : List Byte) : State :=
  { s with link.state := .configured, link.intake := [requestFrame code 7#8 0#8 body] }

/-- A request put at the head of the intake meets `AtHead`: with no reply queued, and with 3, one below the queue's 4 places. -/
theorem asking_atHead (s : State) (code : Nat) (body : List Byte) (hb : body.length ≤ 1018) (hr : s.link.replies.length < 4) :
    AtHead code 7#8 0#8 body [] (asking s code body) := ⟨rfl, hb, hr⟩

/-- The job record of the example of chapter 1, with a window of the least size. -/
def record1 : JobRecord :=
  { plateId := [80#8, 49#8], slot := 1, formatClass := 3, rows := 3, cols := 5, originX := 12000, originY := 8000, stepX := 60000
    stepY := 45000, fieldX := 64000, fieldY := 48000, walk := .serpentine, firstRung := 0, lastRung := 7, maxExtensions := 1
    underLimit := 500, overLimit := 500, retryCount := 1, retryBank1 := .same, retryBank2 := .same, bankPref := .aOnly
    budgetS := some 60, attention := 63#6, attentionDefaulted := true, stopOnAttention := false, notifyQuiet := false
    window := ⟨0, 0, 64, 64⟩, windowDefaulted := false, useZones := false }

def queued1 : QueueJob := ⟨1, record1, false, 0, none⟩
def inHand1 : JobInHand := ⟨1, record1, 0⟩

def flatRecord1 : FlatRecord :=
  { bank := .a, eFlat := 40000, top := 7, frames := 1, retakes := 0, bf := 64, mref := 2480, driveLevel := 512, clipLevel := 3968
    floor := 24, clipMarked := 0, dark := 0, tag := 0, age := 0 }

def flat1 : FlatData := ⟨[], [], flatRecord1⟩

/-- A station with a job QUEUED, RUNNING, homed, and a flat of bank A. -/
def ready : State :=
  { cfg with queue.jobs := [queued1], queue.run := .running, motion.unsure := false, cal.flatA := ⟨.valid, some flat1⟩ }

/-- The job ACTIVE in a pass state, its plate on the table, the walk begun. -/
def active (p : PassState) : State :=
  { ready with
    queue.jobs := [{ queued1 with active := true, started := some 0 }]
    platePresent := true
    pass := { resetPass with
      state := p, job := some inHand1, plate := .onTable, loadIssued := true, bank := some ⟨.a, 7, 0, 7⟩, banksUsed := ⟨true, false⟩
      walkPos := 1, budget := ⟨.running, 60000, 0⟩ } }

def tile1 (p : TilePhase) : Tile := ⟨0, 0, 0, p, 0, false, none⟩

/-- A ladder on bank A with its first attempt due. -/
def ladder1 : Ladder := freshLadder record1 ⟨.a, 7, 0, 7⟩ false 3968 24

/-- A slot of the ladder's rung 0, attempt 1, as claimed. -/
def slot1 : Slot := freshSlot .ladder 0 1 record1.window 3968 40000 (active .walking)

def flight1 : Flight := ⟨.s1, 0, 1, .awaited, 0⟩

/-- Rung 0 of the tile in hand is exposed on bank A into slot S1. -/
def exposing : State :=
  { active .walking with
    pass.tile := some { tile1 .ladder with plane := some .p1 }
    ladder := some { ladder1 with due := none, current := some (0, 1), begun := true, inFlight := [flight1] }
    intake.s1 := some slot1
    lamps.a := { resetBank false with lit := true }
    lamps.exposure := some ⟨.a, .rung, 40000, 0, 0, 20, 992000, 400⟩
    lamps.line := some 40000 }

/-- The exposure has run out and the head sends the frame of slot S1. -/
def receiving (d : Slot) : State :=
  { exposing with lamps.a := resetBank false, lamps.exposure := none, lamps.line := none, intake.s1 := some d
                  intake.rx := .receiving .s1 }

/-- A calibration of bank A with its first attempt due. -/
def cal1 : Calibration :=
  { phase := .capturing, bank := .a, eFlat := 40000, n := 4, clipLevel := 3968, floor := 24, calX := 200000, calY := 200000
    driveLevel := 512, frameIndex := 1, attempt := 1, retakes := 0, takenIn := 0, sums := [], marks := [], sumB := 0, sumM := 0
    pendingM := none, failure := none, due := true }

def calibrating : State := { cfg with cal.cal := some cal1 }

/-- An order of a requester, outstanding since time 0 with a limit of 5 s. -/
def order1 (kind : OrderKind) (requester : Requester) : Order :=
  ⟨kind, 0, 0, 0, requester, 5, 0, false, false, none⟩

def plane1 : Plane := claimedPlane ⟨1, record1, 0, 0, 0, 0⟩ 3968 24

def fields1 : LadderFields := ladder1.fields

def buf1 (st : BufState) (stamp : Option Nat) : Buf := ⟨st, none, stamp, [], false, 0⟩

/-- The next state of a command, when it has one. -/
def nextOf (c : Instr) (s : State) : Option State :=
  match exec c s with
  | .next t => some t
  | _ => none

/-- Kind `k` FATAL, and the recording and the escalation of the next fault let come before the pass controller acts on it (log 68). -/
def letHalt (k : FaultKind) (s : State) : State :=
  { s.setKind k { s.kind k with severity := .fatal } with faults.ahead := [.halted] }

/-- With the kinds' table whole, kind `k` not masked and no escalation waiting, `letHalt` meets EscalatesFirst and touches the faults alone. -/
theorem letHalt_escalates (k : FaultKind) (s : State) (hl : s.faults.kinds.length = 16) (hm : (s.kind k).masked = false)
    (he : s.faults.escalations = []) : EscalatesFirst (letHalt k s) k ∧ { letHalt k s with faults := s.faults } = s := by
  have hk : k.index < s.faults.kinds.length := by rw [hl]; cases k <;> decide
  refine ⟨⟨rfl, he, ?_, ?_⟩, rfl⟩ <;> simp [letHalt, State.kind, State.setKind, hk]
  simpa [State.kind, hk] using hm

/-- The HALTED notice of job 1 is queued, with its kind, the state entered from and the tile. -/
def tellsHalted (k : FaultKind) (entered : PassState) (tile : Option (Nat × Nat)) (t : State) : Bool :=
  t.link.notices.any fun n => decide (n.notice = .halted k false entered (some 1) tile 0)

/-! ### WellFormed and Decode -/

/-- A MOTION_REPORT of no bytes, and one of more than a record, are refused; 1 and 10 bytes are not. -/
theorem test_wellFormed_motionReport :
    Instr.wellFormed (.motionReport []) = false ∧ Instr.wellFormed (.motionReport (List.replicate 11 ⟨0#8, false⟩)) = false
      ∧ Instr.wellFormed (.motionReport [⟨197#8, false⟩]) = true
      ∧ Instr.wellFormed (.motionReport (List.replicate 10 ⟨0#8, true⟩)) = true := by decide

/-- The table gives no row any bits, so no word spells a command. -/
theorem test_decode_none : decodeTableWord 0 0 = none ∧ decodeTableWord 32 305419896 = none := ⟨rfl, rfl⟩

/-! ### The manual's worked examples -/

/-- Chapter 1, example: targets of tiles (0, 0) and (2, 4); with cols 7 the job is refused at index 6 with 404,000. -/
theorem test_travel_example :
    (record1.targetX 0, record1.targetY 0) = (44000, 32000) ∧ (record1.targetX 4, record1.targetY 2) = (284000, 122000)
      ∧ record1.outOfTravel = none ∧ { record1 with cols := 7 }.outOfTravel = some (6, 404000) := by decide

/-- 4.5: the readings HELD against Mref 2,480 with DRIFT_TOL 20 run from 2,431 to 2,529. -/
theorem test_drift_example :
    driftVerdict 2431 2480 20 = .held ∧ driftVerdict 2529 2480 20 = .held ∧ driftVerdict 2430 2480 20 = .drift
      ∧ driftVerdict 2530 2480 20 = .drift ∧ samplesDue 160000 = 1600 ∧ 4047900 / 1600 = 2529 := by decide

/-- 6.10: L(409,600) = 4773, L(27,776) = 3779, L(384,000) = 4749, L(396,800) = 4761, and the codes of pixels 1 and 6. -/
theorem test_density_example :
    (logUnits 409600, logUnits 27776, logUnits 384000, logUnits 396800) = (4773, 3779, 4749, 4761)
      ∧ densityCode 409600 27776 = 1169 ∧ densityCode 384000 396800 = 0 := by decide

/-- 6.10: the row of seven pixels. -/
theorem test_row_example :
    convertRow 64 24 none
        [(⟨70, false⟩, .under), (⟨3264, false⟩, .valid 3 1736), (⟨3990, true⟩, .under), (⟨2950, false⟩, .under),
         (⟨74, false⟩, .under), (⟨3100, false⟩, .clipped), (⟨3064, false⟩, .valid 0 3100)]
      = [⟨0, .defect⟩, ⟨1169, .normal⟩, ⟨1169, .defect⟩, ⟨4095, .underexp⟩, ⟨4095, .defect⟩, ⟨0, .overexp⟩, ⟨0, .normal⟩] := by
  decide

/-- 6.10: the mean of the NORMAL codes 1169 and 0 is 585; they add to bins 11 and 0. -/
theorem test_row_figures : meanCode 1169 2 = 585 ∧ binOf 1169 = 11 ∧ binOf 0 = 0 ∧ binOf 4095 = 40 := by decide

/-- R107's table: c(144) = 165, c(178) = 195, c(119) = 141, c(131) = 153 (6.10). -/
theorem test_logTable_entries :
    (logTable.getD 144 0, logTable.getD 178 0, logTable.getD 119 0, logTable.getD 131 0) = (165, 195, 141, 153)
      ∧ logTable.length = 256 := by decide +kernel

/-- 8.8: the five worked decisions. -/
theorem test_zone_example :
    let zones := [some ⟨true, .skip, 250000, 0, 320000, 60000, 8#8, 0⟩, some ⟨true, .guard, 270000, 70000, 300000, 90000, 24#8, 0⟩,
      some ⟨true, .skip, 0, 0, 400000, 400000, 32#8, 0⟩, none, none, none, none, none]
    let answer := zoneAnswer zones { record1 with useZones := true }
    (answer 0 3, answer 0 4, answer 1 3, answer 1 4, answer 2 4)
      = (ZoneAnswer.none, ZoneAnswer.skip 0, ZoneAnswer.none, ZoneAnswer.guard 1, ZoneAnswer.none) := by decide

/-- The station of 10.5: PIXELS_UNDER at 2,147,480,000, PIXELS_OVER at 4,294,966,000, PIXELS_OVER's flag off. -/
def stats105 : State :=
  { cfg with
    stats.counters := ((List.replicate 16 resetCounter).set 14 ⟨2147480000, .armed, .armed⟩).set 13 ⟨4294966000, .fired, .armed⟩
    params.counterNotify := 57343#16 }

/-- 10.5, step 1, counter 15: a half crossing, one HALF notice. -/
theorem test_counters_half :
    ((addCounter .pixelsUnder 13080 stats105).counter .pixelsUnder, (addCounter .pixelsUnder 13080 stats105).link.notices)
      = (⟨2147493080, .fired, .armed⟩, [⟨false, .counter .pixelsUnder false 2147493080 0⟩]) := by decide +kernel

/-- 10.5, step 1, counter 14: it saturates, its full mark fires, and its flag is off. -/
theorem test_counters_full :
    ((addCounter .pixelsOver 2124 stats105).counter .pixelsOver, (addCounter .pixelsOver 2124 stats105).link.notices)
      = (⟨4294967295, .fired, .fired⟩, []) := by decide +kernel

/-- A captured record with attention (9.7). -/
def record97 : TileRecord :=
  { sequence := 0, number := 1, plateId := [80#8], row := 0, col := 0, ordinal := 0, status := .captured, attention := true
    conds := some 1#6, ladder := none, conv := none, started := 0, ended := 0 }

/-- 9.7, step 1: unread rises from 127 to 128; HALF before the TILE-DONE of record 1,001. -/
theorem test_log_half :
    (writeRecord record97 false { cfg with out.newest := 1000, out.readMark := 873 }).link.notices.map QueuedNotice.notice
      = [.logHalf 1001 873 128, .tileDone 1001 1 0 0 0 .captured true (some 1#6) 0] := by decide

/-- 9.7, step 5: at 256 unread the read mark moves to 951, the record lost. -/
theorem test_log_wrap :
    let t := writeRecord record97 false { cfg with out.newest := 1206, out.readMark := 950 }
    (t.out.readMark, t.unread, t.link.notices.map QueuedNotice.notice)
      = (951, 256, [.logWrap 951 1207 951, .tileDone 1207 1 0 0 0 .captured true (some 1#6) 0]) := by decide

/-- 9.7, steps 8 and 9: a held record ahead of the mark moves it; one behind it does not. -/
theorem test_log_mark :
    (markRead 1100 { cfg with out.newest := 1207, out.readMark := 952 }).out.readMark = 1100
      ∧ (markRead 960 { cfg with out.newest := 1207, out.readMark := 1100 }).out.readMark = 1100 := by decide

/-- 7.10: F of p is floor((13,056 + 2) / 4) = 3,264. -/
theorem test_average_example : average 4 13056 = 3264 := by decide

/-- R92: halves upward, at most 1023. -/
theorem test_referenceMean : referenceMean 24575 = 0 ∧ referenceMean 24576 = 1 ∧ referenceMean (49152 * 1023) = 1023
    ∧ referenceMean (49152 * 4095) = 1023 := by decide

/-- R98's table: a record once VALID stays so under clipped and under, and a VALID outcome replaces every record. -/
theorem test_merge_table :
    mergeRecord 4 (.valid 3 1736) .clipped = .valid 3 1736 ∧ mergeRecord 4 (.valid 3 1736) .under = .valid 3 1736
      ∧ mergeRecord 3 .under (.valid 1736) = .valid 3 1736 ∧ mergeRecord 1 .under .clipped = .under
      ∧ mergeRecord 1 .clipped .under = .under ∧ mergeRecord 1 .none .clipped = .clipped := by decide

/-- R94: at C clipped, at L valid, below it under. -/
theorem test_pixelOutcome : pixelOutcome 3968 64 3968 24 = .clipped ∧ pixelOutcome 3967 64 3968 24 = .valid 3903
    ∧ pixelOutcome 88 64 3968 24 = .valid 24 ∧ pixelOutcome 87 64 3968 24 = .under ∧ pixelOutcome 10 64 3968 24 = .under := by
  decide

/-- R27: SERPENTINE takes row 1 from the last column down. -/
theorem test_walk : (record1.cell 4, record1.cell 5, record1.cell 9, record1.cell 10) = ((0, 4), (1, 4), (1, 0), (2, 0)) := by decide

/-- R201: MOVE to (44,000, 32,000) as order 3: the bytes and their sum. -/
theorem test_motionRecord : motionRecord 1 3 44000 32000
    = [197#8, 1#8, 3#8, 224#8, 171#8, 0#8, 0#8, 125#8, 0#8, 12#8] := by decide

/-! ### Witnesses: the block as a whole -/

/-- IdleStepRunsTheClock: reset idles; its clauses at elapsed 14 and 15 of TIME_RES 16, and a RUNNING budget at 998 and 999 µs. -/
theorem witness_IdleStepRunsTheClock :
    (State.reset.pending = [] ∧ State.reset.conv = none ∧ State.reset.time.count < 4294967295)
      ∧ { resetTime with elapsed := 14 }.elapsed + 1 < State.reset.params.timeRes
      ∧ State.reset.params.timeRes ≤ { resetTime with elapsed := 15 }.elapsed + 1
      ∧ State.reset.pass.budget.state ≠ .running ∧ (active .walking).pass.budget.state = .running
      ∧ (⟨.running, 60000, 998⟩ : Budget).subUs < 999 ∧ (⟨.running, 60000, 999⟩ : Budget).subUs = 999
      ∧ (active .walking).pending = [] ∧ (active .walking).conv = none := by decide

/-- The four invariants: reset meets each (ResetLeavesPowerOnValues), and it has a next state. -/
theorem witness_invariants : (LinkOk State.reset ∧ LampsOk State.reset ∧ JobsOk State.reset) ∧ StoresOk State.reset
    ∧ CountsOk State.reset ∧ step State.reset = .next (idle State.reset) := by
  refine ⟨⟨by unfold LinkOk; decide, ⟨rfl, rfl⟩, by unfold JobsOk; decide⟩, ?_, ?_, rfl⟩
  · exact ⟨by decide, by decide, by decide, rfl, rfl, rfl, rfl, by intro c h; cases h⟩
  · refine ⟨⟨by decide, by decide, by decide, by decide, by intro b; cases b <;> decide, by decide, by decide, ?_, by decide, ?_, ?_,
      by decide⟩, by decide, by decide, by decide, by decide, by decide, by decide, ?_, by decide, ?_⟩
    · intro i d h; cases i <;> cases h
    · intro b r h; cases b <;> cases h
    · intro z h; simp [State.reset, resetZones] at h
    · intro i p n h; cases i <;> cases h
    · intro i b n h; cases i <;> cases h

/-- The invariants hold of a working station as well: a bank lit under its record, a job in the queue. -/
theorem witness_invariants_busy : LinkOk exposing ∧ LampsOk exposing ∧ JobsOk exposing :=
  ⟨by unfold LinkOk; decide, ⟨rfl, rfl⟩, by unfold JobsOk; decide⟩

/-! ### Witnesses: chapter 12 -/

/-- EveryRequestIsAnsweredOnce: READ-TIME at the head, the reply queue empty and at 3. -/
theorem witness_EveryRequestIsAnsweredOnce :
    requestCode .readTime = some 34 ∧ AtHead 34 7#8 0#8 [] [] (asking cfg 34 [])
      ∧ AtHead 34 7#8 0#8 [] []
          (asking { cfg with link.replies := List.replicate 3 ⟨32769, 1#8, .ok .empty⟩ } 34 []) :=
  ⟨rfl, asking_atHead _ _ _ (by decide) (by decide), asking_atHead _ _ _ (by decide) (by decide)⟩

/-- RefusedRequestChangesNothingElse: READ-TIME with a body is refused BAD_FIELD 0. -/
theorem witness_RefusedRequestChangesNothingElse :
    requestCode .readTime = some 34 ∧ AtHead 34 7#8 0#8 [1#8] [] (asking cfg 34 [1#8])
      ∧ ∃ t, exec .readTime (asking cfg 34 [1#8]) = .next t
        ∧ t.link.replies = (asking cfg 34 [1#8]).link.replies ++ [⟨34 + 32768, 7#8, .refused .badField 0 .empty⟩] :=
  ⟨rfl, asking_atHead _ _ _ (by decide) (by decide), _, rfl, rfl⟩

/-- TransfersJoinTheIntakeAndUnknownOnesAreRefused: the intake at 3 and at 4 transfers, a link not CONFIGURED; transfers of 0, 5, 6 and 1,025 bytes, and one
whose length field is wrong; kind codes 0, 37 and 65,535. -/
theorem witness_TransfersJoinTheIntakeAndUnknownOnesAreRefused :
    ({ cfg with link.intake := [[], [], []] }.link.state = .configured ∧ { cfg with link.intake := [[], [], []] }.link.intake.length < 4)
      ∧ (∀ tag flags : Byte, ([] : List Byte) ≠ requestFrame 36 tag flags [])
      ∧ State.reset.link.state ≠ .configured ∧ 4 ≤ { cfg with link.intake := [[], [], [], []] }.link.intake.length
      ∧ (([] : List Byte).length < 6 ∧ (List.replicate 5 0#8).length < 6)
      ∧ 1024 < (List.replicate 1025 0#8).length
      ∧ (let t := [1#8, 0#8, 0#8, 0#8, 1#8, 0#8]; t.length ≠ 6 + ((t.getD 4 0#8).toNat + 256 * (t.getD 5 0#8).toNat))
      ∧ AtHead 0 7#8 0#8 [] [] (asking cfg 0 []) ∧ AtHead 37 7#8 0#8 [] [] (asking cfg 37 [])
      ∧ AtHead 65535 7#8 0#8 [] [] (asking cfg 65535 []) := by
  refine ⟨by decide, ?_, by decide, by decide, by decide, by rw [List.length_replicate]; omega, by decide, ?_, ?_, ?_⟩
  · intro tag flags h; cases h
  all_goals exact asking_atHead _ _ _ (by decide) (by decide)

def reply1 : Reply := ⟨32802, 7#8, .ok .empty⟩
def notice1 : QueuedNotice := ⟨false, .timeWrap 1 16⟩

/-- AnswerPipeSendsRepliesFirst: each clause of the sender; a notice posted with 31 queued and with 32. -/
theorem witness_AnswerPipeSendsRepliesFirst :
    (let s : State := { cfg with link.replies := [reply1], link.notices := [notice1] }
     s.link.state = .configured ∧ s.link.pipe = none ∧ s.link.replies = reply1 :: [])
    ∧ (let s : State := { cfg with link.notices := [notice1] }
       s.link.state = .configured ∧ s.link.pipe = none ∧ s.link.replies = [] ∧ s.link.notices = notice1 :: [])
    ∧ (let s : State := { cfg with link.replies := [reply1], link.pipe := some (.reply, [0#8]) }
       s.link.state = .configured ∧ s.link.pipe = some (.reply, [0#8]) ∧ s.link.replies = reply1 :: [])
    ∧ (let s : State := { cfg with link.notices := [notice1], link.pipe := some (.notice, [0#8]) }
       s.link.state = .configured ∧ s.link.pipe = some (.notice, [0#8]) ∧ s.link.notices = notice1 :: [])
    ∧ (let s : State := { cfg with link.pipe := some (.orphan, [0#8]) }
       s.link.state = .configured ∧ s.link.pipe = some (.orphan, [0#8]))
    ∧ { cfg with link.notices := List.replicate 31 notice1 }.link.notices.length < 32
    ∧ (let s : State := { cfg with link.notices := List.replicate 32 notice1 }
       32 ≤ s.link.notices.length ∧ s.link.notices = notice1 :: List.replicate 31 notice1
         ∧ (List.replicate 31 notice1).length = 31) := by decide

/-- 9.8, the dropped TILE-DONE: with 32 queued two notices are dropped and the mark stays set; after one is taken the next one joins with
the flag set, and the mark is clear. -/
theorem test_noticeDropped :
    let s := postNotice (.timeWrap 3 16) (postNotice (.timeWrap 2 16) { cfg with link.notices := List.replicate 32 notice1 })
    (s.link.notices, s.link.dropped) = (List.replicate 32 notice1, true)
      ∧ (let t := postNotice (.timeWrap 4 16) { s with link.notices := List.replicate 31 notice1 }
         (t.link.notices, t.link.dropped) = (List.replicate 31 notice1 ++ [⟨true, .timeWrap 4 16⟩], false)) := by decide

/-- PowerOnSetsEveryBlock: a bank and a fault as its hypotheses have them; states with both inputs clear, A's, B's and both asserted. -/
theorem witness_PowerOnSetsEveryBlock :
    (∃ (bank : Bool → Bank) (fault : BankId → Raised),
      (∀ asserted, bank asserted =
        if asserted then { health := .failed, lit := false, faultInput := true, failures := 1, lastFailure := some ⟨0, false⟩,
                           lastReading := none }
        else { health := .ready, lit := false, faultInput := false, failures := 0, lastFailure := none, lastReading := none })
      ∧ ∀ b, fault b = ⟨.bankFault, ⟨none, none, none, some b⟩⟩)
    ∧ ∀ a b : Bool, let s : State := { cfg with lamps := { cfg.lamps with a := resetBank a, b := resetBank b } }
        s.lamps.a.faultInput = a ∧ s.lamps.b.faultInput = b :=
  ⟨⟨_, _, fun _ => rfl, fun _ => rfl⟩, fun _ _ => ⟨rfl, rfl⟩⟩

/-- R82, R197: with B's input asserted at power-on, bank B alone is FAILED and its BANK_FAULT is on its way. -/
theorem test_powerOn_fault :
    (nextOf .powerOn { cfg with lamps.b := resetBank true }).map
      (fun t => (t.lamps.a.health, t.lamps.b.health, t.faults.raised.map (·.ctx.bank))) = some (.ready, .failed, [some .b]) := by decide

/-- SoftResetKeepsOnlyWhatItNames: with no STOP outstanding and with one; the intake at 3. -/
theorem witness_SoftResetKeepsOnlyWhatItNames :
    (let s : State := { exposing with link.intake := [[], [], []] }
     s.link.state = .configured ∧ s.link.intake.length < 4 ∧ s.lamps.a.faultInput = false ∧ s.lamps.b.faultInput = false
       ∧ s.motion.stop = none)
    ∧ (let s : State := { exposing with motion.stop := some ⟨3, 5, 0, true⟩ }
       s.link.state = .configured ∧ s.link.intake.length < 4 ∧ s.lamps.a.faultInput = false ∧ s.lamps.b.faultInput = false) := by
  decide

/-- LinkStateEventsReachTheLinkAlone: DETACHED, ATTACHED, and a SENDING buffer. -/
theorem witness_LinkStateEventsReachTheLinkAlone :
    State.reset.link.state = .detached ∧ { State.reset with link.state := .attached }.link.state = .attached
      ∧ { cfg with out.t1 := some (buf1 .sending (some 1)) }.buf .t1 = some (buf1 .sending (some 1)) := by decide

/-- SetParamTakesValuesByTheParametersForm: CLIP_LEVEL below, at both ends of, and above its range; the lamp levels with and without a
job or a calibration, a level that changes, one that does not, and one that is the flat record's drive level; on/off and flags; the least
and the greatest code of a name that takes no number, and of no name; an on/off value and a flag set for a number, and flag sets of 15 and
17 flags. -/
theorem witness_SetParamTakesValuesByTheParametersForm :
    (∀ v ∈ [1023, 1024, 4095, 4096],
      v < 4294967296 ∧ AtHead 31 7#8 0#8 ([0#8, 0#8] ++ leBytes 4 v) [] (asking cfg 31 ([0#8, 0#8] ++ leBytes 4 v)))
    ∧ AtHead 31 7#8 0#8 ([7#8, 0#8] ++ leBytes 4 1024) [] (asking cfg 31 ([7#8, 0#8] ++ leBytes 4 1024))
    ∧ ((asking cfg 31 []).pass.job = none ∧ (asking cfg 31 []).cal.cal = none)
    ∧ (active .walking).pass.job ≠ none ∧ calibrating.cal.cal ≠ none
    ∧ (∀ code ∈ [12#8, 13#8, 14#8], ∀ on : Byte, AtHead 31 7#8 0#8 [code, 1#8, on] [] (asking cfg 31 [code, 1#8, on]))
    ∧ AtHead 31 7#8 0#8 ([15#8, 2#8, 16#8] ++ leBytes 2 65535) [] (asking cfg 31 ([15#8, 2#8, 16#8] ++ leBytes 2 65535))
    ∧ (∀ code ∈ [12, 15, 16, 255], AtHead 31 7#8 0#8 ([BitVec.ofNat 8 code, 0#8] ++ leBytes 4 0) []
        (asking cfg 31 ([BitVec.ofNat 8 code, 0#8] ++ leBytes 4 0)))
    ∧ (ready.level .a = 512 ∧ ready.level .a ≠ 1023 ∧ (ready.flatRecord .a).map (fun r => r.driveLevel) = some 512
        ∧ (ready.flatRecord .a).map (fun r => r.driveLevel) ≠ some 1023)
    ∧ (∀ code ∈ [0, 11, 15], ∀ v : Byte, AtHead 31 7#8 0#8 [BitVec.ofNat 8 code, 1#8, v] []
        (asking cfg 31 [BitVec.ofNat 8 code, 1#8, v]))
    ∧ (∀ code ∈ [0, 14, 15], ∀ count ∈ [15, 17], let mask : List Byte := List.replicate ((count + 7) / 8) 0#8
        (code ≤ 14 ∨ code = 15 ∧ count ≠ 16) ∧ count ≤ 255 ∧ mask.length = (count + 7) / 8
          ∧ AtHead 31 7#8 0#8 (BitVec.ofNat 8 code :: 2#8 :: BitVec.ofNat 8 count :: mask) []
            (asking cfg 31 (BitVec.ofNat 8 code :: 2#8 :: BitVec.ofNat 8 count :: mask))) := by
  refine ⟨?_, ?_, ⟨rfl, rfl⟩, ?_, ?_, ?_, ?_, ?_, by decide, ?_, ?_⟩
  · intro v hv
    refine ⟨?_, asking_atHead _ _ _ (by simp [leBytes]) (by decide)⟩
    simp at hv; omega
  · exact asking_atHead _ _ _ (by decide) (by decide)
  · intro h; cases h
  · intro h; cases h
  · intro code _ on; exact asking_atHead _ _ _ (by simp) (by decide)
  · exact asking_atHead _ _ _ (by decide) (by decide)
  · intro code _; exact asking_atHead _ _ _ (by simp [leBytes]) (by decide)
  · intro code _ v; exact asking_atHead _ _ _ (by simp) (by decide)
  · intro code hc count hn
    simp at hc hn
    rcases hc with rfl | rfl | rfl <;> rcases hn with rfl | rfl <;>
      exact ⟨by decide, by decide, by decide, asking_atHead _ _ _ (by decide) (by decide)⟩

/-- R79, R128: a changed lamp level makes its bank's flat INVALID; an on/off value for LAMP_LEVEL_A is refused. -/
theorem test_lampLevel :
    (nextOf .setParam (asking ready 31 ([7#8, 0#8] ++ leBytes 4 600))).map
        (fun t => (t.params.lampLevelA, t.cal.flatA.validity)) = some (600, .invalid)
      ∧ (nextOf .setParam (asking ready 31 [7#8, 1#8, 1#8])).map (fun t => (t.params.lampLevelA, t.link.replies))
        = some (512, [⟨32799, 7#8, .refused .badField 2 .empty⟩]) := by decide

/-- TimeBaseCommands: SET-TIME alone and with a resolution 0, 16, 255; TIME_RES by SET-PARAM; the count at its largest value, the interval
one µs short of its end and at it, with 32 notices queued. -/
theorem witness_TimeBaseCommands :
    AtHead 33 7#8 0#8 (leBytes 4 4294967295 ++ [0#8]) [] (asking cfg 33 (leBytes 4 4294967295 ++ [0#8]))
      ∧ (∀ given : Byte, AtHead 33 7#8 0#8 (leBytes 4 0 ++ [1#8, given]) [] (asking cfg 33 (leBytes 4 0 ++ [1#8, given])))
      ∧ (∀ given < 4294967296, AtHead 31 7#8 0#8 ([11#8, 0#8] ++ leBytes 4 given) [] (asking cfg 31 ([11#8, 0#8] ++ leBytes 4 given)))
      ∧ { cfg with time := ⟨4294967295, 0, 15⟩ }.time.elapsed < cfg.params.timeRes
      ∧ (let s : State := { cfg with time := ⟨4294967295, 0, 16⟩, link.notices := List.replicate 32 notice1 }
         s.time.count = 4294967295 ∧ s.params.timeRes ≤ s.time.elapsed) := by
  refine ⟨asking_atHead _ _ _ (by decide) (by decide), ?_, ?_, by decide, by decide⟩
  · intro given; exact asking_atHead _ _ _ (by simp [leBytes]) (by decide)
  · intro given _; exact asking_atHead _ _ _ (by simp [leBytes]) (by decide)

/-- R192, R194: SET-TIME with resolution 5 is taken as 4; the wrap count stands. -/
theorem test_setTime :
    (nextOf .setTime (asking cfg 33 [9#8, 0#8, 0#8, 0#8, 1#8, 5#8])).map (fun t => (t.time.count, t.params.timeRes, t.link.replies))
      = some (9, 4, [⟨32801, 7#8, .adjusted (.time 9 4 0)⟩]) := by decide

/-- R194: the count at its largest value passes to 0 when its interval has run out, and not before. -/
theorem test_timeWrap :
    (nextOf .timeWrap { cfg with time := ⟨4294967295, 2, 15⟩ }).map (·.time) = some ⟨4294967295, 2, 15⟩
      ∧ (nextOf .timeWrap { cfg with time := ⟨4294967295, 2, 16⟩ }).map (fun t => (t.time, t.link.notices))
        = some (⟨0, 3, 0⟩, [⟨false, .timeWrap 3 16⟩]) := by decide

/-- R198: the RESET transfer is taken as it arrives and answered. -/
theorem test_reset_arrives :
    (nextOf (.requestTransferArrives [36#8, 0#8, 9#8, 0#8, 0#8, 0#8]) cfg).map (fun t => (t.link.intake, t.link.replies))
      = some ([], [⟨32804, 9#8, .ok (.reset .soft)⟩]) := by decide

/-! ### Witnesses: chapter 1 -/

/-- ENQUEUE-PLATE's body for the job of the example, its mask and window left out. -/
def body1 (slot maxExtensions : Nat) : List Byte :=
  [2#8, 80#8, 49#8] ++ leBytes 1 slot ++ [3#8, 3#8, 5#8] ++ leBytes 4 12000 ++ leBytes 4 8000 ++ leBytes 4 60000 ++ leBytes 4 45000
    ++ leBytes 4 64000 ++ leBytes 4 48000 ++ [1#8, 0#8, 7#8] ++ leBytes 1 maxExtensions ++ leBytes 2 500 ++ leBytes 2 500
    ++ [1#8, 0#8, 0#8, 0#8] ++ [1#8, 60#8, 0#8] ++ [0#8] ++ [0#8, 0#8] ++ [0#8] ++ [0#8]

def raw1 (slot maxExtensions : Nat) : RawJob :=
  ⟨[80#8, 49#8], [slot, 3, 3, 5, 12000, 8000, 60000, 45000, 64000, 48000, 1, 0, 7, maxExtensions, 500, 500, 1, 0, 0, 0], some 60, none,
    0, 0, none, 0⟩

/-- The layout of R1 and R200, byte by byte. -/
theorem test_jobLayout : jobLayout (body1 1 1) = some (raw1 1 1) ∧ jobLayout (body1 1 4) = some (raw1 1 4)
    ∧ jobLayout ((body1 1 1).drop 1) = none := by decide

/-- JobRecordRangesAreTheTables: a first_rung above last_rung with every field before in range, and a window whose y0 is no multiple of 16. -/
theorem witness_JobRecordRangesAreTheTables :
    (let r : RawJob := { raw1 1 1 with nums := ((raw1 1 1).nums.set 11 5).set 12 4 }
     r.num 14 < r.num 13 ∧ ∀ k < 14, r.FieldOk k)
    ∧ (let r : RawJob := { raw1 1 1 with window := some [64, 8, 64, 64] }
       r.window = some [64, 8, 64, 64] ∧ 8 % 16 ≠ 0 ∧ ∀ k < 26, r.FieldOk k) := by
  refine ⟨⟨by decide, fun k hk => ?_⟩, rfl, by decide, fun k hk => ?_⟩ <;> interval_cases k <;>
    simp [RawJob.FieldOk, RawJob.num, raw1]

/-- R6: the first field out of range is named, a first_rung above last_rung by 14 and the window by 26; a first_rung of 8 is named first. -/
theorem test_firstBad :
    { raw1 1 1 with nums := ((raw1 1 1).nums.set 11 5).set 12 4 }.firstBad = some 14
      ∧ { raw1 1 1 with nums := ((raw1 1 1).nums.set 11 8).set 12 4 }.firstBad = some 13
      ∧ { raw1 1 1 with window := some [64, 8, 64, 64] }.firstBad = some 26
      ∧ { raw1 1 1 with window := some [64, 16, 64, 64] }.firstBad = none := by decide

/-- TravelCheckCoversEveryTarget: the example's job, passing, and failing on x and on y; the least coordinate that fails, 400,001. -/
theorem witness_TravelCheckCoversEveryTarget :
    (1 ≤ record1.rows ∧ 1 ≤ record1.cols ∧ record1.outOfTravel = none)
      ∧ (400000 < 404000 ∧ 404000 = 12000 + (7 - 1) * 60000 + 64000 / 2)
      ∧ { record1 with rows := 1, cols := 1, originX := 368000 }.outOfTravel = none
      ∧ { record1 with rows := 1, cols := 1, originX := 368001 }.outOfTravel = some (6, 400001)
      ∧ { record1 with rows := 1, cols := 1, originY := 376001 }.outOfTravel = some (7, 400001) := by decide

/-- EnqueueTakesAValidJob: an empty queue with next number 1 and 65,535, with no field clamped and with one. -/
theorem witness_EnqueueTakesAValidJob :
    (∀ m ∈ [3, 4], AtHead 1 7#8 0#8 (body1 1 m) [] (asking cfg 1 (body1 1 m)) ∧ jobLayout (body1 1 m) = some (raw1 1 m)
      ∧ (raw1 1 m).firstBad = none ∧ (raw1 1 m).taken.outOfTravel = none)
    ∧ (cfg.queue.jobs.length < 16 ∧ (∀ j ∈ cfg.queue.jobs, j.record.slot ≠ (raw1 1 3).num 2) ∧ 1 ≤ cfg.queue.next
        ∧ cfg.queue.next ≤ 65535)
    ∧ (let s : State := { ready with queue.next := 65535 }
       s.queue.jobs.length < 16 ∧ (∀ j ∈ s.queue.jobs, j.record.slot ≠ (raw1 24 3).num 2) ∧ s.queue.next ≤ 65535) := by
  refine ⟨?_, by decide, by decide⟩
  intro m hm
  simp at hm
  rcases hm with rfl | rfl <;>
    exact ⟨asking_atHead _ _ _ (by decide) (by decide), by decide, by decide, by decide⟩

/-- R2: a job with no window, no mask and a budget of 0 is kept with the full sensor and all six conditions, both marked as defaulted, and
with no budget; an empty mask and a window given are kept as given. -/
theorem test_recordDefaults :
    (let r := { raw1 1 1 with budget := some 0 }.record
     (r.window, r.windowDefaulted, r.budgetS) = (⟨0, 0, 4096, 3072⟩, true, none) ∧ (r.attention, r.attentionDefaulted) = (63#6, true))
    ∧ (let r := { raw1 1 1 with mask := some 0, window := some [64, 16, 128, 64] }.record
       (r.window, r.windowDefaulted, r.budgetS) = (⟨64, 16, 128, 64⟩, false, some 60)
         ∧ (r.attention, r.attentionDefaulted) = (0#6, false)) := by decide

def full16 : List QueueJob := (List.range 16).map fun n => { queued1 with number := n + 1, record := { record1 with slot := n + 1 } }

/-- EnqueueRefusesInFixedOrder: one witness for each refusal, in its order; slots 0 and 25, the nearest outside 1 to 24. -/
theorem witness_EnqueueRefusesInFixedOrder :
    AtHead 1 7#8 0#8 (body1 1 1) [] (asking ready 1 (body1 1 1)) ∧ jobLayout ([] : List Byte) = none
      ∧ (raw1 0 1).firstBad = some 2 ∧ (raw1 25 1).firstBad = some 2
      ∧ (let r := { raw1 1 1 with nums := (raw1 1 1).nums.set 3 7 }; r.firstBad = none ∧ r.record.outOfTravel = some (6, 404000))
      ∧ ((raw1 20 1).firstBad = none ∧ (raw1 20 1).record.outOfTravel = none ∧ 16 ≤ full16.length)
      ∧ (ready.queue.jobs.length < 16 ∧ ready.queue.jobs = [] ++ queued1 :: [] ∧ queued1.record.slot = (raw1 1 1).num 2) :=
  ⟨asking_atHead _ _ _ (by decide) (by decide), by decide, by decide, by decide, by decide, by decide, by decide⟩

/-- R7, R8: the job of the example with max_extensions 4 is taken as number 1 at position 1, 15 tiles, the clamp listed. -/
theorem test_enqueue :
    (nextOf .enqueuePlate (asking cfg 1 (body1 1 4))).map (fun t => (t.queue.next, t.link.replies))
      = some (2, [⟨32769, 7#8, .adjusted (.enqueued 1 1 15 [(15, 3)])⟩]) := by decide

/-- StartStopAndCancelOfQueuedJobs: each clause; CANCEL of job 1 and of a number not held. -/
theorem witness_StartStopAndCancelOfQueuedJobs :
    (AtHead 5 7#8 0#8 [] [] (asking ready 5 []) ∧ ready.pass.state ≠ .halted ∧ (active .halted).pass.state = .halted)
      ∧ (AtHead 6 7#8 0#8 [] [] (asking ready 6 []) ∧ ready.queue.run = .running ∧ ready.pass.job = none)
      ∧ ((active .walking).queue.run = .running ∧ (active .walking).pass.job ≠ none ∧ cfg.queue.run ≠ .running)
      ∧ (AtHead 9 7#8 0#8 [1#8] [] (asking (active .halted) 9 [1#8]) ∧ (1#8 : Byte).toNat ≤ 1)
      ∧ (AtHead 2 7#8 0#8 (leBytes 2 1) [] (asking ready 2 (leBytes 2 1)) ∧ (∀ j ∈ ready.queue.jobs, j.number ≠ 2)
          ∧ ready.queue.jobs = [] ++ queued1 :: [] ∧ queued1.number = 1 ∧ queued1.active = false) := by
  refine ⟨⟨asking_atHead _ _ _ (by decide) (by decide), by decide, by decide⟩,
    ⟨asking_atHead _ _ _ (by decide) (by decide), by decide, by decide⟩, ⟨by decide, ?_, by decide⟩,
    ⟨asking_atHead _ _ _ (by decide) (by decide), by decide⟩,
    ⟨asking_atHead _ _ _ (by decide) (by decide), by decide, by decide, by decide, by decide⟩⟩
  intro h; cases h

/-- The CLEAR-HALT clause of StartStopAndCancelOfQueuedJobs: exec does answer a next state there. -/
theorem witness_ClearHalt_next : (nextOf .clearHalt (asking { cfg with pass.state := .halted } 9 [1#8])).isSome = true := by decide

/-! ### Witnesses: chapter 2 -/

/-- JobStartEndsTheJobWithoutABank: the carrier occupied; the carrier empty with no flat. -/
theorem witness_JobStartEndsTheJobWithoutABank :
    (StartsNow { ready with platePresent := true } queued1 [] ∧ ready.motion.unsure = false ∧ (∀ p ∈ ([] : List QueueJob), p.number ≠ 1))
      ∧ (let s : State := { ready with cal.flatA := ⟨.invalid, none⟩ }
         StartsNow s queued1 [] ∧ s.platePresent = false ∧ s.faults.raised = []
           ∧ ∀ b, (s.bank b).health = .failed ∨ (s.flat b).validity = .invalid) := by
  refine ⟨⟨⟨rfl, rfl, rfl, rfl, rfl, rfl, rfl, rfl⟩, rfl, by decide⟩, ⟨rfl, rfl, rfl, rfl, rfl, rfl, rfl, rfl⟩, rfl, rfl, ?_⟩
  intro b; cases b <;> decide

/-- JobStartEndsTheJobWithoutABank, TABLE_OCCUPIED recorded before the pass acts, and escalated before it as well. -/
theorem witness_JobStartEndsTheJobWithoutABank_ahead :
    (let s : State := { ready with platePresent := true, faults.ahead := [.recorded] }
     StartsNow s queued1 [] ∧ s.motion.unsure = false ∧ s.platePresent = true ∧ s.faults.ahead = .recorded :: [] ∧ Ahead.recorded ≠ .no)
      ∧ (let s := letHalt .tableOccupied { ready with platePresent := true }
         StartsNow s queued1 [] ∧ s.motion.unsure = false ∧ s.platePresent = true ∧ s.faults.ahead = .halted :: [] ∧ Ahead.halted ≠ .no
           ∧ EscalatesFirst s .tableOccupied) :=
  ⟨⟨⟨rfl, rfl, rfl, rfl, rfl, rfl, rfl, rfl⟩, rfl, rfl, rfl, by decide⟩,
    ⟨rfl, rfl, rfl, rfl, rfl, rfl, rfl, rfl⟩, rfl, rfl, rfl, by decide, (letHalt_escalates _ _ rfl rfl rfl).1⟩

/-- R177, R46: TABLE_OCCUPIED recorded before the action is the job's first fault; its escalation first too, the pass is HALTED from
PREPARING and the job ends FAILED all the same. -/
theorem test_tableOccupied_ahead :
    (nextOf .jobStart { ready with platePresent := true, faults.ahead := [.recorded] }).map
        (fun t => (t.pass.state, t.queue.history.map fun e => (e.outcome, e.firstFault))) = some (.idle, [(.failed, some .tableOccupied)])
      ∧ (nextOf .jobStart (letHalt .tableOccupied { ready with platePresent := true })).map
        (fun t => (t.pass.state, tellsHalted .tableOccupied .preparing none t, t.queue.history.map fun e => (e.outcome, e.firstFault)))
        = some (.halted, true, [(.failed, some .tableOccupied)]) := by decide +kernel

/-- JobStartHomesOrTakesABank: positioner-unsure set; and clear, with a flat one plate younger than FLAT_AGE_LIMIT and with one at it. -/
theorem witness_JobStartHomesOrTakesABank :
    (StartsNow { ready with motion.unsure := true } queued1 [] ∧ { ready with motion.unsure := true }.motion.unsure = true)
      ∧ (∀ age ∈ [49, 50], let f : FlatData := { flat1 with record := { flatRecord1 with age := age } }
         let s : State := { ready with cal.flatA := ⟨.valid, some f⟩ }
         StartsNow s queued1 [] ∧ s.motion.unsure = false ∧ s.platePresent = false
           ∧ (BankId.a = .a ↔ queued1.record.bankPref = .aOnly ∨ queued1.record.bankPref = .aFirst)
           ∧ (s.bank .a).health = .ready ∧ s.flat .a = ⟨.valid, some f⟩ ∧ s.params.flatAgeLimit = 50) :=
  ⟨⟨⟨rfl, rfl, rfl, rfl, rfl, rfl, rfl, rfl⟩, rfl⟩, fun _ _ =>
    ⟨⟨rfl, rfl, rfl, rfl, rfl, rfl, rfl, rfl⟩, rfl, rfl, by decide, rfl, rfl, rfl⟩⟩

/-- The plate of `ready` started with a flat of a given age. -/
def startAt (age : Nat) : Option State :=
  nextOf .jobStart { ready with cal.flatA := ⟨.valid, some { flat1 with record := { flatRecord1 with age := age } }⟩ }

/-- The stale fields of the PLATE-START notices queued. -/
def staleTold (t : State) : List Bool :=
  t.link.notices.map fun n => match n.notice with | .plateStart _ _ _ _ _ _ _ _ _ stale _ _ => stale | _ => false

/-- 7.5: with FLAT_AGE_LIMIT 50 a flat of age 49 is fresh at a plate's start and one of age 50 is stale: STALE_FLAT is raised, with the
bank and no tile as context, bank A is in both sets, and PLATE-START says stale. -/
theorem test_staleAtStart :
    (startAt 49).map (fun t => (t.faults.raised, t.cal.staleSet)) = some ([], ⟨false, false⟩)
      ∧ (startAt 49).map staleTold = some [false] ∧ (startAt 50).map staleTold = some [true]
      ∧ (startAt 50).map (fun t => t.faults.raised.map fun r => (r.kind, r.ctx.tile)) = some [(.staleFlat, none)]
      ∧ (startAt 50).map (fun t => (t.cal.raisedSet, t.pass.stale)) = some (⟨true, false⟩, true) := by
  decide +kernel

/-- WalkOrderNamesEveryTileOnce: a SERPENTINE job, rows even and odd; a RASTER one. -/
theorem witness_WalkOrderNamesEveryTileOnce : 1 ≤ record1.cols ∧ 14 < record1.rows * record1.cols ∧ record1.walk = .serpentine ∧ 1 % 2 = 1
    ∧ { record1 with walk := .raster }.walk = .raster ∧ 4 < record1.cols ∧ 2 < record1.rows := by decide

def pausedS : State :=
  { active .paused with pass := { (active .paused).pass with resumePoint := some .nextTile, walkPos := 14 } }

/-- The job of the example with use_zones yes, PAUSED before tile `o`; entry 0 is a SKIP zone over tile (2, 4), entry 1 a GUARD zone about the
target of tile (2, 3). -/
def pausedZones (o : Nat) : State :=
  { pausedS with
    pass := { pausedS.pass with job := some { inHand1 with record := { record1 with useZones := true } }, walkPos := o }
    zones := [some ⟨true, .skip, 252000, 98000, 315999, 145999, 8#8, 65535⟩, some ⟨true, .guard, 224000, 122000, 224000, 122000, 8#8, 0⟩,
      none, none, none, none, none, none] }

/-- ResumeTakesTheNextTileIntoHand: the last tile undecided and no zones used; with zones, no answer for tile (2, 2), GUARD for (2, 3) with no
answer for a next tile once the SKIP zone is off, and SKIP for the last tile (2, 4), its hits at their largest value. -/
theorem witness_ResumeTakesTheNextTileIntoHand :
    (AtHead 8 7#8 0#8 [] [] (asking pausedS 8 []) ∧ pausedS.pass.state = .paused ∧ pausedS.pass.job = some inHand1
      ∧ pausedS.pass.resumePoint = some .nextTile ∧ pausedS.pass.mark = none ∧ pausedS.pass.tile = none
      ∧ pausedS.pass.walkPos < inHand1.record.rows * inHand1.record.cols
      ∧ pausedS.motion.order = none ∧ pausedS.motion.stop = none ∧ (2, 4) = inHand1.record.cell pausedS.pass.walkPos
      ∧ zoneAnswer pausedS.zones record1 2 4 = .none)
    ∧ (let r : JobRecord := { record1 with useZones := true }
       (∀ o ∈ [12, 13, 14], AtHead 8 7#8 0#8 [] [] (asking (pausedZones o) 8 []) ∧ (pausedZones o).pass.walkPos = o)
        ∧ zoneAnswer (pausedZones 12).zones r 2 2 = .none
        ∧ zoneAnswer ((pausedZones 13).zones.set 0 none) r 2 3 = .guard 1 ∧ (2, 4) = r.cell (13 + 1)
        ∧ zoneAnswer ((pausedZones 13).zones.set 0 none) r 2 4 = .none
        ∧ zoneAnswer (pausedZones 14).zones r 2 4 = .skip 0 ∧ 14 + 1 = r.rows * r.cols) := by
  refine ⟨⟨asking_atHead _ _ _ (by decide) (by decide), rfl, rfl, rfl, rfl, rfl, by decide, rfl, rfl, by decide, by decide⟩, ?_, by decide,
    by decide, by decide, by decide, by decide, by decide⟩
  exact fun o _ => ⟨asking_atHead _ _ _ (by decide) (by simp [pausedZones, pausedS, active, ready, cfg, State.reset, resetLink]), rfl⟩

/-- R29, R148: the last tile, SKIPPED, gets its record and a hit, and the plate is returned. -/
theorem test_resume_skip :
    (nextOf .resume (asking (pausedZones 14) 8 [])).map
      (fun t => (t.pass.state, t.out.records.map (·.status), (t.zone 0).map (·.hits))) = some (.returning, [.skipped], some 65535) := by
  decide +kernel

/-- R29, R148: a GUARDED tile raises GUARD_TILE, and the next tile is taken into hand. -/
theorem test_resume_guard :
    (nextOf .resume (asking { pausedZones 13 with zones := (pausedZones 13).zones.set 0 none } 8 [])).map
      (fun t => (t.out.records.map (·.status), t.pass.tile.map (·.ordinal), t.faults.raised.map (·.kind)))
      = some ([.guarded], some 14, [.guardTile]) := by decide +kernel

/-- ResumeTakesTheNextTileIntoHand, GUARD_TILE FATAL and let halt the pass before its tile's record. -/
theorem witness_ResumeTakesTheNextTileIntoHand_ahead :
    let s := asking (letHalt .guardTile (pausedZones 13)) 8 []
    AtHead 8 7#8 0#8 [] [] s ∧ EscalatesFirst s .guardTile ∧ s.ladder = none ∧ s.pass.settle = none ∧ s.pass.state = .paused
      ∧ s.pass.resumePoint = some .nextTile ∧ s.pass.mark = none ∧ s.pass.tile = none ∧ s.motion.order = none ∧ s.motion.stop = none
      ∧ zoneAnswer s.zones { record1 with useZones := true } 2 3 = .guard 1 ∧ (2, 3) = record1.cell s.pass.walkPos :=
  ⟨asking_atHead _ _ _ (by decide) (by decide), (letHalt_escalates .guardTile (pausedZones 13) rfl rfl rfl).1, rfl, rfl, rfl, rfl, rfl, rfl,
    rfl, rfl, by decide, by decide⟩

/-- R29, R45, R46: halted before its record, a GUARDED tile gets it all the same, and the next boundary is not acted on. -/
theorem test_guard_ahead :
    (nextOf .resume (asking (letHalt .guardTile (pausedZones 13)) 8 [])).map
      (fun t => (t.pass.state, t.out.records.map (·.status), t.motion.order, tellsHalted .guardTile .walking (some (2, 3)) t))
      = some (.halted, [.guarded], none, true) := by decide +kernel

/-- PauseAndResumeByThePassState: each pass state with a job, none without one, and the resume point RETURN. -/
theorem witness_PauseAndResumeByThePassState :
    (∀ p, AtHead 7 7#8 0#8 [] [] (asking (active p) 7 []) ∧ AtHead 8 7#8 0#8 [] [] (asking (active p) 8 [])
      ∧ (active p).pass.job ≠ none ∧ (active p).pass.state = p)
    ∧ cfg.pass.job = none
    ∧ (let s : State := { active .paused with pass := { (active .paused).pass with resumePoint := some .return } }
       s.pass.job ≠ none ∧ s.pass.state = .paused ∧ s.pass.resumePoint = some .return ∧ s.motion.order = none ∧ s.motion.stop = none) := by
  refine ⟨fun p => ⟨asking_atHead _ _ _ (by decide) (by simp [active, ready, cfg, State.reset, resetLink]),
    asking_atHead _ _ _ (by decide) (by simp [active, ready, cfg, State.reset, resetLink]), ?_, rfl⟩, rfl, ?_, rfl, rfl, rfl, rfl⟩
  · intro h; cases h
  · intro h; cases h

/-- CancelOfTheActiveJobByThePassState: each pass state; in PAUSED with tiles undecided, and with none (the walk position at its end); in
PREPARING with the pass's order outstanding and with none; in WALKING with a tile in WAIT_PLANE, in MOVING, and in LADDER with its rung
exposed. -/
theorem witness_CancelOfTheActiveJobByThePassState :
    (∀ p, AtHead 2 7#8 0#8 (leBytes 2 1) [] (asking (active p) 2 (leBytes 2 1)) ∧ (active p).pass.job = some inHand1
      ∧ (active p).queue.jobs = { queued1 with active := true, started := some 0 } :: [] ∧ (active p).pass.state = p
      ∧ (active p).pass.tile = none ∧ (active p).pass.plate = .onTable ∧ (active p).pass.budget.state = .running
      ∧ (active p).motion.order = none ∧ (active p).motion.stop = none)
    ∧ 1 ≤ record1.rows * record1.cols ∧ 15 ≤ record1.rows * record1.cols
    ∧ (let s : State := { active .preparing with motion.order := some (order1 .home .pass) }
       s.pass.state = .preparing ∧ s.motion.order = some (order1 .home .pass) ∧ (order1 .home .pass).requester = .pass)
    ∧ (let s : State := { active .preparing with pass := { (active .preparing).pass with plate := .notLoaded } }
       (∀ o, s.motion.order = some o → o.requester ≠ .pass) ∧ s.pass.tile = none ∧ s.pass.handedOver = 0 ∧ s.pass.plate = .notLoaded
         ∧ s.pass.mark = none)
    ∧ (∀ p, let s : State := { active .walking with pass.tile := some (tile1 p) }
       s.pass.tile = some (tile1 p) ∧ s.pass.settle = none ∧ s.pass.plate = .onTable ∧ (tile1 p).phase = p ∧ s.ladder = none
         ∧ (tile1 p).plane = none ∧ (tile1 p).moveDone = false ∧ s.motion.order = none)
    ∧ (let l : Ladder := { ladder1 with due := none, current := some (0, 1), begun := true, inFlight := [flight1] }
       exposing.ladder = some l ∧ l.stopping = .no ∧ exposing.fillingSlot = some .s1 ∧ exposing.slot .s1 = some slot1
         ∧ slot1.taker = .ladder ∧ flight1 ∈ l.inFlight ∧ flight1.slot = .s1 ∧ flight1.state = .awaited
         ∧ ∀ f ∈ l.inFlight, f.state = .valid ∨ f.slot = .s1 ∧ f.state = .awaited) := by
  refine ⟨fun p => ⟨asking_atHead _ _ _ (by decide) (by simp [active, ready, cfg, State.reset, resetLink]), rfl, rfl, rfl, rfl, rfl, rfl,
    rfl, rfl⟩, by decide, by decide, ⟨rfl, rfl, rfl⟩, ⟨by rintro o ⟨⟩, rfl, rfl, rfl, rfl⟩,
    fun p => ⟨rfl, rfl, rfl, rfl, rfl, rfl, rfl, rfl⟩, rfl, rfl, by decide, rfl, rfl, by decide, rfl, rfl, by decide⟩

/-- R42: a CANCEL of the exposed tile leaves the lamp lit, marks its frame for discarding, and closes the walk: 14 records. -/
theorem test_cancelWalking :
    (nextOf .cancelPlate (asking exposing 2 [1#8, 0#8])).map
      (fun t => (t.pass.state, t.lamps.a.lit, t.intake.s1.map (·.discard), t.ladder.map (·.stopping), t.out.newest))
      = some (.walking, true, some true, some .cancelled, 14) := by decide +kernel

/-- R42: a CANCEL in PREPARING with no order outstanding ends the job. -/
theorem test_cancelPreparing :
    (nextOf .cancelPlate (asking { active .preparing with
        pass := { (active .preparing).pass with plate := .notLoaded }, faults.jobMark := some .staleFlat } 2 [1#8, 0#8])).map
      (fun t => (t.pass.state, t.queue.history.map fun e => (e.outcome, e.firstFault))) = some (.idle, [(.cancelled, some .staleFlat)]) := by
  decide +kernel

/-- The job's plate returned to its slot but for a MOVE of a second RETURN, its mark FAILED, nothing handed over. -/
def returnAgain : State :=
  { active .returning with
    motion.order := some (order1 .move .pass)
    faults.escalations := [(.noLight, true)], faults.jobMark := some .noLight
    pass := { (active .returning).pass with plate := .left, mark := some .failed, step := .moving, walkPos := 15 } }

/-- HaltEscalationHaltsThePass: already HALTED; walking with a rung exposed; walking with nothing in hand; and a job that ends at the halt, its
plate LEFT, NOT_LOADED and RETURNED. -/
theorem witness_HaltEscalationHaltsThePass :
    (let s : State := { active .halted with faults.escalations := [(.moveTimeout, false)] }
     s.faults.escalations = (.moveTimeout, false) :: [] ∧ s.pass.state = .halted)
    ∧ (let s : State := { exposing with faults.escalations := [(.moveTimeout, true)] }
       s.faults.escalations = (.moveTimeout, true) :: [] ∧ s.pass.state ≠ .halted ∧ s.pass.tile ≠ none ∧ s.pass.settle = none)
    ∧ (let s : State := { active .walking with faults.escalations := [(.moveTimeout, false)] }
       s.pass.state ≠ .halted ∧ s.pass.tile = none ∧ s.ladder = none ∧ s.cal.cal = none ∧ s.motion.homeRequest = false
         ∧ s.motion.stop = none ∧ s.lamps.exposure = none ∧ s.lamps.a.lit = false ∧ s.lamps.b.lit = false
         ∧ s.pass.plate = .onTable)
    ∧ (∀ plate ∈ [PlateState.left, .notLoaded, .returned], let s : State := { returnAgain with pass.plate := plate }
       s.pass.state ≠ .halted ∧ s.pass.job = some inHand1 ∧ s.pass.tile = none ∧ s.pass.handedOver = 0
         ∧ (s.pass.plate = .returned ∨ s.pass.mark = some .failed ∧ s.pass.plate ≠ .onTable)) := by decide

/-- R35, R46: the halt abandons the MOVE of the return, and the job ends FAILED; the pass stays HALTED with no job. -/
theorem test_haltEndsJob :
    (nextOf .haltEscalation returnAgain).map
      (fun t => (t.pass.state, t.pass.job, t.queue.history.map fun e => (e.outcome, e.firstFault)))
      = some (.halted, none, [(.failed, some .noLight)]) := by decide +kernel

/-- HaltEscalationHaltsThePass, none waiting: of two faults let be recorded before their action, the last; and with nothing let come before. -/
theorem test_escalation_ahead :
    (nextOf .haltEscalation { cfg with faults.ahead := [.recorded, .recorded] }).map (·.faults.ahead) = some [.recorded, .halted]
      ∧ nextOf .haltEscalation cfg = some cfg := by decide +kernel

def haltedEnd : State := { active .halted with pass := { (active .halted).pass with walkPos := 15 } }

/-- HALTED with the tile in hand held: its rung 0 exposed and cut, the frame still to come. -/
def haltedTile : State :=
  { receiving { slot1 with discard := true } with
    pass := { (receiving slot1).pass with state := .halted, settle := some .held }
    ladder := some { ladder1 with due := none, inFlight := [flight1], stopping := .halted } }

/-- The tile of `haltedTile` after CLEAR-HALT with LEAVE, a plane handed over. -/
def settling : State :=
  { haltedTile with pass := { haltedTile.pass with state := .finishing, plate := .left, settle := some .inPlace, handedOver := 1 } }

/-- ClearHaltReleasesThePass: a choice of 2; not HALTED; HALTED without a job; with a job by RETURN, and by LEAVE with and without a
tile handed over, the walk complete and 14 tiles undecided; with a tile in hand, nothing of it in flight and a frame in flight; the end of
that frame. -/
theorem witness_ClearHaltReleasesThePass :
    (∀ choice : Byte, AtHead 9 7#8 0#8 [choice] [] (asking haltedEnd 9 [choice])) ∧ 2 ≤ (2#8 : Byte).toNat ∧ cfg.pass.state ≠ .halted
      ∧ ({ cfg with pass.state := .halted }.pass.state = .halted ∧ { cfg with pass.state := .halted }.pass.job = none)
      ∧ ((1#8 : Byte).toNat ≤ 1 ∧ haltedEnd.pass.state = .halted ∧ haltedEnd.pass.job = some inHand1 ∧ haltedEnd.pass.plate = .onTable
          ∧ haltedEnd.pass.tile = none ∧ haltedEnd.ladder = none ∧ haltedEnd.pass.walkPos = inHand1.record.rows * inHand1.record.cols
          ∧ haltedEnd.platePresent = true ∧ haltedEnd.motion.order = none ∧ haltedEnd.motion.stop = none
          ∧ haltedEnd.pass.handedOver = 0)
      ∧ { haltedEnd with pass.handedOver := 1 }.pass.handedOver ≠ 0
      ∧ (AtHead 9 7#8 0#8 [0#8] [] (asking haltedTile 9 [0#8]) ∧ haltedTile.pass.state = .halted ∧ haltedTile.pass.job = some inHand1
          ∧ haltedTile.pass.plate = .onTable ∧ haltedTile.pass.walkPos ≤ inHand1.record.rows * inHand1.record.cols
          ∧ haltedTile.pass.tile = some { tile1 .ladder with plane := some .p1 }
          ∧ haltedTile.ladder = some { ladder1 with due := none, inFlight := [flight1], stopping := .halted })
      ∧ (let s : State := { haltedTile with ladder := some ladder1 }
         (s.pass.tile = none → s.ladder = none) ∧ ∀ l, s.ladder = some l → l.inFlight = [])
      ∧ (settling.intake.rx = .receiving .s1 ∧ settling.slot .s1 = some { slot1 with discard := true } ∧ slot1.taker = .ladder
          ∧ settling.pass.job = some inHand1 ∧ settling.pass.settle = some .inPlace ∧ settling.pass.handedOver ≠ 0
          ∧ flight1.slot = .s1) := by
  refine ⟨fun c => asking_atHead _ _ _ (by simp) (by decide), by decide, by decide, ⟨rfl, rfl⟩, ?_, by decide,
    ⟨asking_atHead _ _ _ (by decide) (by decide), rfl, rfl, rfl, by decide, rfl, rfl⟩, ⟨fun h => absurd h (by decide), by rintro l ⟨⟩; rfl⟩,
    rfl, rfl, rfl, rfl, rfl, by decide, rfl⟩
  exact ⟨by decide, rfl, rfl, rfl, rfl, rfl, by decide, rfl, rfl, rfl, rfl⟩

/-- R42, R47, R90: CLEAR-HALT with LEAVE records the 14 undecided tiles and keeps the tile in hand; the end of its discarded frame records
it and ends the job. -/
theorem test_clearHaltTile :
    (nextOf .clearHalt (asking haltedTile 9 [0#8])).map (fun t => (t.pass.state, t.pass.counts.notCaptured, t.pass.tile.isSome))
        = some (.finishing, 14, true)
      ∧ (nextOf .frameEnd settling).map (fun t => (t.pass.tile, t.pass.counts.notCaptured, t.pass.state)) = some (none, 1, .finishing) := by
  decide +kernel

def expiring (p : PassState) : State := { active p with pass := { (active p).pass with budget := ⟨.running, 0, 0⟩ } }

/-- WALKING with a tile in LADDER, its plane P1, when the budget runs out. -/
def expiringLadder (l : Ladder) : State :=
  { expiring .walking with
    pass := { (expiring .walking).pass with tile := some { tile1 .ladder with plane := some .p1 } }
    ladder := some l, merge.p1 := some plane1 }

/-- BudgetExpiryWindsThePlateUp: LOADING and RETURNING; WALKING with a tile in WAIT_PLANE, in MOVING, moved and not, and in LADDER with a frame in
flight, and with none and a rung MERGED, and none. -/
theorem witness_BudgetExpiryWindsThePlateUp :
    (∀ p, (expiring p).pass.job = some inHand1 ∧ (expiring p).pass.budget.state = .running ∧ (expiring p).pass.budget.remaining = 0
      ∧ (expiring p).pass.state = p)
    ∧ (let s : State := { expiring .walking with pass := { (expiring .walking).pass with tile := some (tile1 .waitPlane) } }
       s.pass.tile = some (tile1 .waitPlane) ∧ (tile1 .waitPlane).phase = .waitPlane ∧ (tile1 .waitPlane).plane = none
         ∧ s.pass.settle = none ∧ s.pass.plate = .onTable ∧ s.pass.walkPos ≤ inHand1.record.rows * inHand1.record.cols)
    ∧ ((tile1 .moving).phase = .moving ∧ (tile1 .moving).moveDone = false ∧ { tile1 .moving with moveDone := true }.moveDone = true)
    ∧ (∀ l, let s := expiringLadder l
       s.pass.tile = some { tile1 .ladder with plane := some .p1 } ∧ s.plane .p1 = some plane1 ∧ s.ladder = some l
         ∧ s.pass.settle = none ∧ s.pass.plate = .onTable ∧ s.pass.state = .walking)
    ∧ (ladder1.stopping = .no ∧ { ladder1 with inFlight := [flight1] }.inFlight ≠ [] ∧ ladder1.inFlight = []
       ∧ (∃ e ∈ { ladder1 with rungList := [⟨0, .merged, 1, 0⟩] }.rungList, e.outcome = .merged)
       ∧ ∀ e ∈ { ladder1 with rungList := [⟨0, .lost, 2, 0⟩] }.rungList, e.outcome = .lost) :=
  ⟨fun _ => ⟨rfl, rfl, rfl, rfl⟩, ⟨rfl, rfl, rfl, rfl, rfl, by decide⟩, ⟨rfl, rfl, rfl⟩, fun _ => ⟨rfl, rfl, rfl, rfl, rfl, rfl⟩,
    ⟨rfl, by decide, rfl, by decide, by decide⟩⟩

/-- BudgetExpiryWindsThePlateUp, BUDGET_EXPIRED FATAL and let halt the pass before the wind-up: a tile in WAIT_PLANE, and one in LADDER, a frame
AWAITED in flight, and a VALID one alone. -/
theorem witness_BudgetExpiryWindsThePlateUp_ahead :
    (let s := letHalt .budgetExpired
       { expiring .walking with pass := { (expiring .walking).pass with tile := some (tile1 .waitPlane) } }
     EscalatesFirst s .budgetExpired ∧ s.pass.state = .walking ∧ s.pass.tile = some (tile1 .waitPlane) ∧ s.pass.settle = none
       ∧ s.pass.plate = .onTable ∧ s.pass.walkPos ≤ inHand1.record.rows * inHand1.record.cols ∧ s.pass.budget.state = .running
       ∧ s.pass.budget.remaining = 0)
    ∧ (let s := letHalt .budgetExpired (expiringLadder { ladder1 with inFlight := [flight1] })
       EscalatesFirst s .budgetExpired ∧ s.pass.state = .walking ∧ s.pass.settle = none ∧ s.pass.plate = .onTable
         ∧ s.ladder = some { ladder1 with inFlight := [flight1] } ∧ ladder1.stopping = .no
         ∧ (∃ f ∈ { ladder1 with inFlight := [flight1] }.inFlight, f.state ≠ .valid)
         ∧ ∀ f ∈ { ladder1 with inFlight := [{ flight1 with state := .valid }] }.inFlight, f.state = .valid) :=
  ⟨⟨(letHalt_escalates _ _ rfl rfl rfl).1, rfl, rfl, rfl, rfl, by decide, rfl, rfl⟩,
    (letHalt_escalates _ _ rfl rfl rfl).1, rfl, rfl, rfl, rfl, rfl, by decide, by decide⟩

/-- R37, R45, R46, R68: halted before the wind-up, a tile in WAIT_PLANE and the 14 undecided are NOT_CAPTURED; so is one in LADDER with no frame in
flight but a VALID one, which is discarded; one whose frame is still to come is in hand until it has come. -/
theorem test_budgetExpiry_ahead :
    (nextOf .budgetExpiry (letHalt .budgetExpired
        { expiring .walking with pass := { (expiring .walking).pass with tile := some (tile1 .waitPlane) } })).map
      (fun t => (t.pass.state, t.pass.mark, t.pass.counts.notCaptured, tellsHalted .budgetExpired .walking (some (0, 0)) t))
        = some (.halted, some .overtime, 15, true)
      ∧ (nextOf .budgetExpiry (letHalt .budgetExpired (expiringLadder { ladder1 with inFlight := [flight1] }))).map
      (fun t => (t.pass.counts.notCaptured, t.ladder.map (·.stopping))) = some (14, some .halted)
      ∧ (nextOf .budgetExpiry (letHalt .budgetExpired
        { expiringLadder { ladder1 with inFlight := [{ flight1 with state := .valid }] } with intake.s1 := some { slot1 with state := .valid } })).map
      (fun t => (t.pass.counts.notCaptured, t.merge.p1.isNone)) = some (15, true) := by decide +kernel

/-- R37: at expiry in LADDER with rung 0 MERGED and nothing in flight the plane is FULL, TRUNCATED. -/
theorem test_budgetExpiryLadder :
    (nextOf .budgetExpiry (expiringLadder { ladder1 with due := some (1, 1), rungList := [⟨0, .merged, 1, 0⟩] })).map
      (fun t => (t.pass.state, t.pass.handedOver, t.merge.p1.map fun p => (p.state, p.ladder.map (·.conds))))
      = some (.returning, 1, some (.full, some 32#6)) := by decide +kernel

/-- R37, R32: at expiry in WAIT_PLANE the 14 undecided tiles and the one in hand are NOT_CAPTURED. -/
theorem test_budgetExpiry :
    (nextOf .budgetExpiry
        { expiring .walking with pass := { (expiring .walking).pass with tile := some (tile1 .waitPlane) } }).map
      (fun t => (t.pass.state, t.pass.mark, t.pass.counts.notCaptured)) = some (.returning, some .overtime, 15) := by decide +kernel

/-- R42: a CANCEL in PAUSED records the undecided tiles and returns the plate. -/
theorem test_cancelPaused :
    (nextOf .cancelPlate (asking pausedS 2 [1#8, 0#8])).map (fun t => (t.pass.state, t.pass.mark, t.out.newest))
      = some (.returning, some .cancelled, 1) := by decide +kernel

/-- R40: RESUME takes tile (2, 4) into hand, whose target is (284,000, 122,000). -/
theorem test_resume :
    (nextOf .resume (asking pausedS 8 [])).map (fun t => (t.pass.state, t.motion.order.map fun o => (o.kind, o.arg1, o.arg2)))
      = some (.walking, some (.move, 284000, 122000)) := by decide

/-! ### Witnesses: chapters 3 and 4 -/

/-- TopRungAndLadderClamp, at the ends of E_flat and at each span's end (R50). -/
theorem test_topRung :
    [20, 62500, 62501, 125000, 125001, 250000, 250001, 500000].map topRung = [7, 7, 6, 6, 5, 5, 4, 4] := by decide

/-- The ladder's first attempt is due on a READY bank, slot S1 FREE; or slot S2, S1 held. -/
def due1 : State :=
  { active .walking with
    pass.tile := some { tile1 .ladder with plane := some .p1 }
    ladder := some ladder1 }

/-- AttemptStartLightsTheBankOrRaisesNoLight: slot S1; slot S2 with a retry due; a FAILED bank and no switch. -/
theorem witness_AttemptStartLightsTheBankOrRaisesNoLight :
    (due1.ladder = some ladder1 ∧ due1.pass.job = some inHand1 ∧ ladder1.due = some (0, 1) ∧ ladder1.stopping = .no
        ∧ (due1.bank ladder1.bank).health = .ready ∧ (∀ x ∈ ladder1.inFlight, x.state ≠ .awaited) ∧ due1.lamps.a.lit = false
        ∧ due1.lamps.b.lit = false ∧ (due1.flat ladder1.bank).data = some flat1 ∧ due1.slot .s1 = none
        ∧ due1.stats.counters.length = 16)
      ∧ (let l := { ladder1 with due := some (0, 2) }
         let s : State := { due1 with ladder := some l, intake.s1 := some { slot1 with state := .valid } }
         s.ladder = some l ∧ l.due = some (0, 2) ∧ s.slot .s1 ≠ none ∧ s.slot .s2 = none)
      ∧ (let s : State := { due1 with lamps.a := { resetBank true with health := .failed } }
         (s.bank ladder1.bank).health = .failed ∧ s.pass.state = .walking ∧ inHand1.record.bankPref = .aOnly) := by
  refine ⟨⟨rfl, rfl, rfl, rfl, rfl, by decide, rfl, rfl, rfl, rfl, rfl⟩, ⟨rfl, rfl, ?_, rfl⟩, rfl, rfl, rfl⟩
  intro h; cases h

/-- R54, R49: rung 2 on bank A is lit for 160,000 µs. -/
theorem test_attemptStart :
    (nextOf (.attemptStart 2500#12) { due1 with ladder := some { ladder1 with due := some (2, 1) } }).map
      (fun t => (t.lamps.a.lit, t.lamps.line, t.lamps.exposure.map fun x => (x.exposure, x.sum, x.count)))
      = some (true, some 160000, some (160000, 2500, 1)) := by decide

/-- NO_LIGHT (R62, R44): FAILED, the plate returned. -/
theorem test_noLight :
    (nextOf (.attemptStart 0#12) { due1 with lamps.a := { resetBank true with health := .failed } }).map
      (fun t => (t.pass.mark, t.pass.state, t.faults.raised.map (·.kind))) = some (some .failed, .returning, [.noLight]) := by
  decide +kernel

/-- An attempt due on a FAILED bank, NO_LIGHT let halt the pass before it acts. -/
def noLightAhead : State :=
  letHalt .noLight { due1 with lamps.a := { resetBank true with health := .failed }, merge.p1 := some plane1 }

/-- AttemptStartLightsTheBankOrRaisesNoLight, NO_LIGHT let halt the pass before it acts. -/
theorem witness_AttemptStart_ahead :
    EscalatesFirst noLightAhead .noLight ∧ (noLightAhead.bank ladder1.bank).health = .failed ∧ noLightAhead.pass.state = .walking
      ∧ noLightAhead.ladder = some ladder1 ∧ noLightAhead.pass.tile = some { tile1 .ladder with plane := some .p1 }
      ∧ noLightAhead.pass.settle = none ∧ ladder1.inFlight = [] ∧ noLightAhead.pass.plate = .onTable
      ∧ noLightAhead.pass.walkPos ≤ inHand1.record.rows * inHand1.record.cols :=
  ⟨(letHalt_escalates _ _ rfl rfl rfl).1, rfl, rfl, rfl, rfl, rfl, rfl, rfl, by decide⟩

/-- R44, R46: halted before NO_LIGHT's action, the pass stays HALTED, the job FAILED, all 15 tiles NOT_CAPTURED and the plane FREE. -/
theorem test_noLight_ahead :
    (nextOf (.attemptStart 0#12) noLightAhead).map
      (fun t => (t.pass.state, t.pass.mark, t.pass.counts.notCaptured, t.merge.p1, tellsHalted .noLight .walking (some (0, 0)) t))
      = some (.halted, some .failed, 15, none, true) := by decide +kernel

/-- An exposure of the ladder, 399 samples of 400 taken. -/
def x399 : Exposure := ⟨.a, .rung, 40000, 0, 0, 20, 992000, 399⟩

/-- ExposureIsSampledAndJudged: the last sample, due at 39,900 µs; no sample after it; a CALIBRATION exposure's end, the bank's
first flat still to be made; HELD at the threshold (49 of
2,480 at 20 per mille); DRIFT just past it, with an attempt left. -/
theorem witness_ExposureIsSampledAndJudged :
    (let s : State := { exposing with lamps.exposure := some x399, now := 39900 }
     s.lamps.exposure = some x399 ∧ 100 * x399.count < x399.exposure ∧ x399.startAt + 100 * x399.count ≤ s.now)
    ∧ (let x : Exposure := { x399 with count := 400 }; x.exposure ≤ 100 * x.count ∧ (39899 < x399.startAt + 100 * x399.count))
    ∧ (let x : Exposure := ⟨.a, .calibration, 40000, 0, 0, 20, 992000, 400⟩
       let s : State := { calibrating with lamps.exposure := some x, lamps.line := some 40000, now := 40000 }
       s.lamps.exposure = some x ∧ s.lamps.line = some 40000 ∧ 40000 ≤ s.now ∧ x.count = 1 + (x.exposure - 1) / 100
         ∧ (s.flat x.bank).data = none ∧ x.purpose = .calibration ∧ s.cal.cal = some cal1)
    ∧ (let s : State := { exposing with now := 40000 }
       let x : Exposure := ⟨.a, .rung, 40000, 0, 0, 20, 992000, 400⟩
       s.lamps.exposure = some x ∧ s.lamps.line = some 40000 ∧ 40000 ≤ s.now ∧ x.count = 1 + (x.exposure - 1) / 100
         ∧ (s.flat x.bank).data = some flat1 ∧ x.sum / x.count = 2480 ∧ ((2480 : Int) - 2480).natAbs * 1000 ≤ 20 * 2480
         ∧ ((2529 : Int) - 2480).natAbs * 1000 ≤ 20 * 2480)
    ∧ (let l : Ladder := { ladder1 with due := none, current := some (0, 1), begun := true, inFlight := [flight1] }
       20 * 2480 < ((2530 : Int) - 2480).natAbs * 1000 ∧ exposing.ladder = some l ∧ exposing.pass.job = some inHand1
         ∧ l.stopping = .no ∧ exposing.fillingSlot = some .s1 ∧ exposing.slot .s1 = some slot1 ∧ slot1.taker = .ladder
         ∧ exposing.flightAt .s1 = some flight1 ∧ flight1.rung = slot1.rung ∧ flight1.attempt < l.allowed
         ∧ inHand1.record.retryBank flight1.attempt = .same) := by
  refine ⟨⟨rfl, by decide, by decide⟩, by decide, ⟨rfl, rfl, by decide, by decide, rfl, rfl, rfl⟩,
    ⟨rfl, rfl, by decide, by decide, rfl, by decide, by decide, by decide⟩,
    ⟨by decide, rfl, rfl, rfl, by decide, rfl, rfl, by decide, rfl, by decide, by decide⟩⟩

/-- R75, R58: M of 2,530 drifts; LAMP_DRIFT is raised and the rung's second attempt becomes due. -/
theorem test_drift :
    (nextOf .exposureTimerEnd
        { exposing with now := 40000, lamps.exposure := some ⟨.a, .rung, 40000, 0, 0, 20, 1012000, 400⟩ }).map
      (fun t => (t.lamps.a.lit, t.faults.raised.map (·.kind), t.ladder.map (·.due)))
      = some (false, [.lampDrift], some (some (0, 2))) := by decide +kernel

/-- Rung 0's exposure drifting at its end, a kind let halt the pass before the sequencer acts on it. -/
def driftAhead (k : FaultKind) : State :=
  letHalt k { exposing with now := 40000, lamps.exposure := some ⟨.a, .rung, 40000, 0, 0, 20, 1012000, 400⟩ }

/-- ExposureIsSampledAndJudged, LAMP_DRIFT let halt the pass before the sequencer acts on it: DRIFT, M 2,530, with an attempt left. -/
theorem witness_Exposure_ahead :
    EscalatesFirst (driftAhead .lampDrift) .lampDrift
      ∧ (let s := driftAhead .lampDrift
         let x : Exposure := ⟨.a, .rung, 40000, 0, 0, 20, 1012000, 400⟩
         let l : Ladder := { ladder1 with due := none, current := some (0, 1), begun := true, inFlight := [flight1] }
         s.lamps.exposure = some x ∧ s.lamps.line = some 40000 ∧ 40000 ≤ s.now ∧ x.count = 1 + (x.exposure - 1) / 100
           ∧ (s.flat x.bank).data = some flat1 ∧ x.sum / x.count = 2530 ∧ 20 * 2480 < ((2530 : Int) - 2480).natAbs * 1000
           ∧ s.ladder = some l ∧ l.stopping = .no ∧ s.fillingSlot = some .s1 ∧ s.slot .s1 = some slot1 ∧ s.flightAt .s1 = some flight1
           ∧ s.pass.state ≠ .halted ∧ s.pass.tile = some { tile1 .ladder with plane := some .p1 } ∧ s.pass.settle = none) :=
  ⟨(letHalt_escalates _ _ rfl rfl rfl).1, rfl, rfl, by decide, by decide, rfl, by decide, by decide, rfl, rfl, by decide, rfl, by decide,
    by decide, rfl, rfl⟩

/-- R45, R63, R177: halted before the drifting attempt fails, the ladder has no retry due, and the frame is to be discarded. -/
theorem test_drift_ahead :
    (nextOf .exposureTimerEnd (driftAhead .lampDrift)).map
      (fun t => (t.pass.state, t.ladder.map (·.due), t.intake.s1.map (·.discard), tellsHalted .lampDrift .walking (some (0, 0)) t))
      = some (.halted, some none, some true, true) := by decide +kernel

/-- A calibration's frame being exposed on bank A. -/
def calExposing : State :=
  { calibrating with
    cal.cal := some { cal1 with due := false }
    intake.s1 := some (freshSlot .calibration 0 0 fullWindow 3968 40000 cfg)
    lamps.a := { resetBank false with lit := true }
    lamps.exposure := some ⟨.a, .calibration, 40000, 0, 0, 20, 4100, 2⟩
    lamps.line := some 40000 }

/-- DriverFaults: an input asserted already; a dark bank's fault; the lit bank's, of a rung and of a calibration; LAMP-RESET with the input clear and asserted. -/
theorem witness_DriverFaultsFailABankAndLampResetRevivesIt :
    ({ cfg with lamps.a := resetBank true }.bank .a).faultInput = true
      ∧ ((exposing.bank .b).faultInput = false ∧ ∀ x, exposing.lamps.exposure = some x → x.bank ≠ .b)
      ∧ ((exposing.bank .a).faultInput = false
          ∧ exposing.lamps.exposure = some ⟨.a, .rung, 40000, 0, 0, 20, 992000, 400⟩ ∧ exposing.fillingSlot = some .s1
          ∧ exposing.slot .s1 = some slot1)
      ∧ ((calExposing.bank .a).faultInput = false
          ∧ calExposing.lamps.exposure = some ⟨.a, .calibration, 40000, 0, 0, 20, 4100, 2⟩
          ∧ calExposing.cal.cal = some { cal1 with due := false } ∧ { cal1 with due := false }.failure = none
          ∧ calExposing.fillingSlot = some .s1 ∧ calExposing.slot .s1 = some (freshSlot .calibration 0 0 fullWindow 3968 40000 cfg)
          ∧ (freshSlot .calibration 0 0 fullWindow 3968 40000 cfg).taker = .calibration)
      ∧ (AtHead 11 7#8 0#8 [0#8] [] (asking cfg 11 [0#8]) ∧ AtHead 11 7#8 0#8 [1#8] [] (asking cfg 11 [1#8])) := by
  refine ⟨rfl, ⟨rfl, ?_⟩, ⟨rfl, rfl, by decide, rfl⟩, ⟨rfl, rfl, rfl, rfl, by decide, rfl, rfl⟩, asking_atHead _ _ _ (by decide) (by decide),
    asking_atHead _ _ _ (by decide) (by decide)⟩
  rintro x ⟨⟩; decide

/-- DriverFaults, BANK_FAULT of the lit bank's rung let halt the pass before the sequencer acts on it. -/
theorem witness_DriverFaults_ahead :
    let s := letHalt .bankFault exposing
    EscalatesFirst s .bankFault ∧ (s.bank .a).faultInput = false ∧ s.lamps.exposure = some ⟨.a, .rung, 40000, 0, 0, 20, 992000, 400⟩
      ∧ s.fillingSlot = some .s1 ∧ s.slot .s1 = some slot1 ∧ s.flightAt .s1 = some flight1 ∧ s.pass.job = some inHand1
      ∧ s.pass.tile = some { tile1 .ladder with plane := some .p1 } ∧ s.pass.settle = none ∧ s.pass.state ≠ .halted :=
  ⟨(letHalt_escalates .bankFault exposing rfl rfl rfl).1, rfl, rfl, by decide, rfl, by decide, rfl, rfl, rfl, by decide⟩

/-- R77: a fault of the lit bank darkens both, fails the attempt, and raises BANK_FAULT with the rung. -/
theorem test_litFault :
    (nextOf (.faultInputAssert .a) exposing).map
      (fun t => (t.lamps.a.health, t.lamps.line, t.faults.raised.map (·.ctx.rung))) = some (.failed, some 40000, [some (0, 1)]) := by
  decide +kernel

/-- R77, R126: a fault of the bank a calibration has lit fails it BANK_FAULT, its frame marked. -/
theorem test_litFaultOfCalibration :
    (nextOf (.faultInputAssert .a) calExposing).map
      (fun t => (t.lamps.a.health, t.intake.s1.map (·.discard), t.cal.cal.map fun c => (c.failure, c.phase)))
      = some (.failed, some true, some (some .bankFault, .closing)) := by decide +kernel

/-! ### Witnesses: chapter 5 -/

/-- FramesAreReceivedLineByLine: a start one µs before the deadline; with no slot FILLING, and with the line high; whole lines 0, 63, 64 and
3071 of a window of 64 rows; lines 3072 and 65,535; a line of 4111 samples; a start in reception; no frame in reception; a released frame, with a slot FILLING and with none, the
discarded count one below its largest value. -/
theorem witness_FramesAreReceivedLineByLine :
    (let s : State := { receiving slot1 with intake.rx := .idle, now := slot1.deadline - 1 }
     s.intake.rx = .idle ∧ s.fillingSlot = some .s1 ∧ s.slot .s1 = some slot1 ∧ slot1.reception = .notStarted ∧ s.lamps.line = none
       ∧ s.now < slot1.deadline)
    ∧ (cfg.intake.rx = .idle ∧ cfg.fillingSlot = none ∧ exposing.lamps.line ≠ none)
    ∧ (∀ y ∈ [0, 63, 64, 3071], (receiving { slot1 with lines := y }).intake.rx = .receiving .s1
        ∧ (receiving { slot1 with lines := y }).slot .s1 = some { slot1 with lines := y } ∧ y < 3072
        ∧ slot1.window.x0 + slot1.window.w ≤ 4096)
    ∧ ((List.replicate 4112 (0#12 : Sample)).length = 4112 ∧ (List.replicate 4111 (0#12 : Sample)).length ≠ 4112)
    ∧ (let s : State := { receiving slot1 with intake.rx := .released, intake.discarded := 65534 }
       s.intake.rx = .released ∧ 65535 = min 65535 (s.intake.discarded + 1) ∧ s.fillingSlot = some .s1 ∧ s.lamps.line = none
         ∧ s.now < slot1.deadline)
    ∧ (let s : State := { cfg with intake.rx := .released }; s.intake.rx = .released ∧ s.fillingSlot = none)
    ∧ { cfg with intake.rx := .discarding }.intake.rx = .discarding
    ∧ (∀ y ∈ [3072, 65535], (receiving { slot1 with lines := y }).intake.rx = .receiving .s1
        ∧ (receiving { slot1 with lines := y }).slot .s1 = some { slot1 with lines := y } ∧ 3072 ≤ { slot1 with lines := y }.lines) := by
  refine ⟨⟨rfl, by decide, rfl, rfl, rfl, by decide⟩, by decide, ?_, ?_, ⟨rfl, rfl, by decide, rfl, by decide⟩, ⟨rfl, by decide⟩, rfl, ?_⟩
  · intro y hy
    refine ⟨rfl, rfl, ?_, by decide⟩
    simp at hy; omega
  · constructor <;> rw [List.length_replicate]; decide
  · intro y hy
    refine ⟨rfl, rfl, ?_⟩
    simp at hy; simp; omega

/-- R83, R88: a start in reception ends even a whole frame short, and is a stray. -/
theorem test_brokenFrame :
    (nextOf .frameStart (receiving { slot1 with reception := .receiving, lines := 3072 })).map
      (fun t => (t.intake.s1, t.intake.discarded, t.faults.raised.map (·.kind))) = some (none, 1, [.frameShort]) := by decide +kernel

/-- R86: line 65,536 leaves the lines received at 65,535. -/
theorem test_linesSaturate :
    (nextOf (.frameLine []) (receiving { slot1 with lines := 65535 })).map (fun t => t.intake.s1.map fun d => (d.lines, d.shortSeen))
      = some (some (65535, false)) := by decide +kernel

/-- R83, R87: a frame that starts with no slot FILLING is a stray. -/
theorem test_stray : (nextOf .frameStart cfg).map (fun t => (t.intake.discarded, t.intake.rx)) = some (1, .discarding) := by decide

/-- R90: a marked frame in reception at its slot's deadline counts as a stray when it ends, one after a FRAME_TIMEOUT does not. -/
theorem test_released :
    ((nextOf .frameDeadline { receiving { slot1 with discard := true } with now := slot1.deadline }).bind (nextOf .frameEnd)).map
        (fun t => (t.intake.s1, t.intake.rx, t.intake.discarded)) = some (none, .idle, 1)
      ∧ ((nextOf .frameDeadline { receiving slot1 with now := slot1.deadline }).bind (nextOf .frameEnd)).map
        (fun t => (t.intake.s1, t.intake.rx, t.intake.discarded)) = some (none, .idle, 0) := by decide +kernel

/-- FrameVerdictsDecideTheRung: a whole frame, fully clipped and not; a short frame and a timed-out one, with an attempt left and with
none; a discard-marked one with the next attempt due. -/
theorem witness_FrameVerdictsDecideTheRung :
    (let d : Slot := { slot1 with reception := .receiving, lines := 3072 }
     let s := receiving d
     let l : Ladder := { ladder1 with due := none, current := some (0, 1), begun := true, inFlight := [flight1] }
     s.fillingSlot = some .s1 ∧ s.slot .s1 = some d ∧ d.taker = .ladder ∧ s.ladder = some l ∧ s.pass.job = some inHand1
       ∧ s.pass.settle = none ∧ l.stopping = .no ∧ s.flightAt .s1 = some flight1 ∧ flight1.rung = d.rung ∧ flight1.attempt = d.attempt
       ∧ s.intake.rx = .receiving .s1 ∧ d.discard = false ∧ d.lines = 3072 ∧ d.shortSeen = false
       ∧ { d with clipped := 4096 }.clipped = d.window.w * d.window.h ∧ d.clipped ≠ d.window.w * d.window.h ∧ d.rung < l.currentLast
       ∧ flight1.attempt < l.allowed ∧ inHand1.record.retryBank flight1.attempt = .same
       ∧ { l with allowed := 1 }.allowed ≤ flight1.attempt)
    ∧ ({ slot1 with lines := 3071 }.lines ≠ 3072 ∧ { slot1 with shortSeen := true }.shortSeen = true)
    ∧ (slot1.deadline ≤ { receiving slot1 with now := slot1.deadline }.now)
    ∧ ({ slot1 with discard := true }.discard = true ∧ { ladder1 with due := some (0, 2) }.due ≠ none) := by
  refine ⟨⟨by decide, rfl, rfl, rfl, rfl, rfl, rfl, by decide, rfl, rfl, rfl, rfl, rfl, rfl, by decide, by decide, by decide, by decide,
    by decide, by decide⟩, by decide, by decide, by decide⟩

/-- R89, R63: at the deadline the frame times out and the rung's second attempt becomes due. -/
theorem test_frameDeadline :
    (nextOf .frameDeadline { receiving slot1 with now := slot1.deadline }).map
      (fun t => (t.intake.s1, t.faults.raised.map (·.kind), t.ladder.map (·.due)))
      = some (none, [.frameTimeout], some (some (0, 2))) := by decide +kernel

/-- R88: a frame of 3,071 lines is short. -/
theorem test_frameShort :
    (nextOf .frameEnd (receiving { slot1 with reception := .receiving, lines := 3071 })).map
      (fun t => (t.intake.s1, t.faults.raised.map (·.kind))) = some (none, [.frameShort]) := by decide +kernel

/-- Rung 0's frame timing out with the job's attempts used up, and RUNG_LOST, the second fault it raises, let halt the pass before the ladder
goes on. -/
def lostAhead : State :=
  let s := letHalt .rungLost { receiving { slot1 with attempt := 2 } with
    now := slot1.deadline, ladder := some { ladder1 with due := none, inFlight := [{ flight1 with attempt := 2 }] } }
  { s with faults.ahead := [.no, .halted] }

/-- FrameVerdictsDecideTheRung, FRAME_TIMEOUT let halt the pass before the sequencer acts on it, and RUNG_LOST. -/
theorem witness_FrameVerdicts_ahead :
    (let s := letHalt .frameTimeout { receiving slot1 with now := slot1.deadline }
     EscalatesFirst s .frameTimeout ∧ s.fillingSlot = some .s1 ∧ s.slot .s1 = some slot1 ∧ slot1.deadline ≤ s.now
       ∧ s.flightAt .s1 = some flight1 ∧ s.pass.tile = some { tile1 .ladder with plane := some .p1 } ∧ s.pass.settle = none
       ∧ s.pass.state ≠ .halted)
    ∧ (let l : Ladder := { ladder1 with due := none, inFlight := [{ flight1 with attempt := 2 }] }
       lostAhead.faults.ahead.head? = some .no
       ∧ EscalatesFirst { lostAhead with faults.ahead := lostAhead.faults.ahead.tail } .rungLost
       ∧ lostAhead.fillingSlot = some .s1 ∧ lostAhead.slot .s1 = some { slot1 with attempt := 2 } ∧ lostAhead.ladder = some l
       ∧ l.allowed ≤ 2 ∧ lostAhead.flightAt .s1 = some { flight1 with attempt := 2 } ∧ lostAhead.stats.counters.length = 16
       ∧ lostAhead.pass.state ≠ .halted) :=
  ⟨⟨(letHalt_escalates _ _ rfl rfl rfl).1, by decide, rfl, by decide, by decide, rfl, rfl, by decide⟩,
    rfl, (letHalt_escalates .rungLost { receiving { slot1 with attempt := 2 } with
      now := slot1.deadline, ladder := some { ladder1 with due := none, inFlight := [{ flight1 with attempt := 2 }] } } rfl rfl rfl).1,
    by decide, rfl, rfl, by decide, by decide, rfl, by decide⟩

/-- R45, R61, R63, R177: halted before the attempt fails, the rung is not entered and nothing is due; halted before the ladder goes on, the lost
rung is entered. -/
theorem test_frame_ahead :
    (nextOf .frameDeadline (letHalt .frameTimeout { receiving slot1 with now := slot1.deadline })).map
        (fun t => (t.pass.state, t.faults.raised.length, t.ladder.map (·.due))) = some (.halted, 0, some none)
      ∧ (nextOf .frameDeadline lostAhead).map
        (fun t => (t.pass.state, t.faults.raised.map (·.kind), t.ladder.map fun l => l.rungList.map (·.outcome)))
        = some (.halted, [.frameTimeout], some [.lost]) := by decide +kernel

/-- PlaneClaimStartsTheLadder: a tile in WAIT_PLANE, and one in MOVING whose MOVE is done; both planes FREE, P1 busy, and both busy. -/
theorem witness_PlaneClaimStartsTheLadder :
    (let s : State := { active .walking with pass.tile := some (tile1 .waitPlane) }
     s.pass.job = some inHand1 ∧ s.pass.tile = some (tile1 .waitPlane) ∧ s.pass.bank = some ⟨.a, 7, 0, 7⟩ ∧ s.pass.settle = none
       ∧ s.pass.state ≠ .halted ∧ (tile1 .waitPlane).phase = .waitPlane ∧ s.plane .p1 = none)
    ∧ (let t : Tile := { tile1 .moving with moveDone := true }; t.phase = .moving ∧ t.moveDone = true)
    ∧ (let s : State := { active .walking with pass.tile := some (tile1 .waitPlane), merge.p1 := some plane1 }
       s.plane .p1 ≠ none ∧ s.plane .p2 = none ∧ { s with merge.p2 := some plane1 }.plane .p2 ≠ none) := by
  refine ⟨⟨rfl, rfl, rfl, rfl, by decide, rfl, rfl⟩, ⟨rfl, rfl⟩, ?_, rfl, ?_⟩ <;> rintro ⟨⟩

/-- R30: with P1 busy the tile takes P2. -/
theorem test_planeClaim_p2 :
    (nextOf .planeClaim { active .walking with pass.tile := some (tile1 .waitPlane), merge.p1 := some plane1 }).map
      (fun t => (t.pass.tile.bind (·.plane), t.merge.p2.map (·.state))) = some (some .p2, some .filling) := by decide +kernel

/-- R53: the claim starts the ladder at rung 0, attempt 1, with C 3968 and L 24. -/
theorem test_planeClaim :
    (nextOf .planeClaim { active .walking with pass.tile := some (tile1 .waitPlane) }).map
      (fun t => (t.pass.tile.map (·.phase), t.ladder.map fun l => (l.due, l.c, l.l)))
      = some (some .ladder, some (some (0, 1), 3968, 24)) := by decide

def validSlot : Slot := { slot1 with state := .valid, reception := .ended, pixels := List.replicate 64 (List.replicate 64 0#12) }

def merging : State :=
  { due1 with
    ladder := some { ladder1 with due := some (1, 1), inFlight := [{ flight1 with state := .merging }] }
    intake.s1 := some { validSlot with state := .merging }
    merge.p1 := some plane1 }

/-- MergeFoldsAFrameIntoThePlane: a slot VALID; a merge in progress over a window of 64 × 64, the next rung due. -/
theorem witness_MergeFoldsAFrameIntoThePlane :
    (let s : State := { due1 with intake.s1 := some validSlot, intake.validOrder := [.s1] }
     s.mergingSlot .ladder = none ∧ s.intake.validOrder = .s1 :: [] ∧ s.slot .s1 = some validSlot ∧ validSlot.state = .valid
       ∧ validSlot.taker = .ladder)
    ∧ (merging.mergingSlot .ladder = some .s1 ∧ merging.slot .s1 = some { validSlot with state := .merging }
       ∧ merging.pass.tile = some { tile1 .ladder with plane := some .p1 } ∧ merging.plane .p1 = some plane1
       ∧ merging.flightAt .s1 = some { flight1 with state := .merging } ∧ ladder1.restartPending = none ∧ merging.pass.settle = none
       ∧ merging.stats.counters.length = 16)
    ∧ (plane1.recs.length = plane1.window.h ∧ (∀ row ∈ plane1.recs, row.length = plane1.window.w)
       ∧ plane1.window.y0 + plane1.window.h ≤ validSlot.pixels.length
       ∧ ∀ line ∈ validSlot.pixels, plane1.window.x0 + plane1.window.w ≤ line.length) := by
  refine ⟨⟨by decide +kernel, rfl, rfl, rfl, rfl⟩, ⟨by decide +kernel, rfl, rfl, rfl, by decide +kernel, rfl, rfl, rfl⟩, ?_⟩
  simp [plane1, claimedPlane, clearPlane, validSlot, record1]

/-- R69: a rung that is lost while the rung below it is still being merged is placed above it when that one is entered. -/
theorem test_rungOrder :
    (insertRung ⟨3, .merged, 1, 0⟩ [⟨2, .merged, 1, 0⟩, ⟨4, .lost, 2, 0⟩]).map (·.rung) = [2, 3, 4] := by decide

/-- R98, R57: a dark frame makes every record UNDER; the rung is entered MERGED. -/
theorem test_mergeEnd :
    (nextOf .mergeEnd merging).map (fun t => ((t.plane .p1).map (·.counts), t.intake.s1, t.ladder.map fun l => l.rungList.map (·.rung)))
      = some (some ⟨0, 0, 4096, 0⟩, none, some [0]) := by decide +kernel

/-- The last merge of the ladder: rung `r` of slot S1 merges, nothing is due, and `l` gives the rest of the ladder. -/
def lastMerge (r : Nat) (l : Ladder) : State :=
  { merging with
    ladder := some { l with due := none, inFlight := [{ flight1 with state := .merging, rung := r }] }
    intake.s1 := some { validSlot with state := .merging, rung := r } }

/-- LadderExtendsOrEnds: a dark frame merged below the top rung, with an extension left, with none and on a cut ladder; the walk at its end and not,
with a pause pending and not; the last rung's last attempt timing out with nothing MERGED. -/
theorem witness_LadderExtendsOrEnds :
    (let l : Ladder := { ladder1 with currentLast := 4 }
     let s := lastMerge 4 l
     s.slot .s1 = some { validSlot with state := .merging, rung := 4 } ∧ s.pass.job = some inHand1 ∧ s.pass.state = .walking
       ∧ s.pass.settle = none ∧ s.pass.tile = some { tile1 .ladder with plane := some .p1 } ∧ s.plane .p1 = some plane1
       ∧ s.stats.counters.length = 16 ∧ l.cut = false ∧ l.extensions < record1.maxExtensions ∧ l.currentLast < l.top ∧ l.stopping = .no
       ∧ s.pass.pausePending = false ∧ s.pass.mark = none ∧ s.pass.walkPos < record1.rows * record1.cols
       ∧ { l with cut := true }.cut = true ∧ record1.maxExtensions ≤ { l with extensions := 1 }.extensions)
    ∧ (lastMerge 4 ladder1).mergingSlot .ladder = some .s1
    ∧ record1.underLimit * (plane1.window.w * plane1.window.h)
        < (mergedPlane { validSlot with state := .merging, rung := 4 } plane1).counts.nUnder * 1000
    ∧ zoneAnswer merging.zones record1 (record1.cell 1).1 (record1.cell 1).2 = .none
    ∧ (let d : Slot := { slot1 with rung := 7, attempt := 2 }
       let g : Flight := { flight1 with rung := 7, attempt := 2 }
       let l : Ladder := { ladder1 with due := none, inFlight := [g], rungList := [⟨0, .lost, 2, 0⟩] }
       let s : State := { receiving d with
         ladder := some l, now := d.deadline, merge.p1 := some plane1, pass := { (receiving d).pass with walkPos := 15 } }
       s.slot .s1 = some d ∧ s.fillingSlot = some .s1 ∧ d.taker = .ladder ∧ d.discard = false ∧ d.deadline ≤ s.now
         ∧ l.allowed ≤ d.attempt ∧ d.rung = l.currentLast ∧ (∀ e ∈ l.rungList, e.outcome = .lost)
         ∧ plane1.counts.nUnder * 1000 ≤ record1.underLimit * (plane1.window.w * plane1.window.h) ∧ s.pass.pausePending = false
         ∧ s.pass.walkPos = record1.rows * record1.cols) := by
  refine ⟨⟨rfl, rfl, rfl, rfl, rfl, rfl, rfl, rfl, by decide, by decide, rfl, rfl, rfl, by decide, rfl, by decide⟩, by decide +kernel,
    by decide +kernel, by decide, rfl, by decide, rfl, rfl, by decide, by decide, by decide, by decide, by decide, rfl, by decide⟩

/-- R66: a dark plane extends the ladder by one rung. -/
theorem test_extend :
    (nextOf .mergeEnd (lastMerge 4 { ladder1 with currentLast := 4 })).map
      (fun t => t.ladder.map fun l => (l.due, l.currentLast, l.extensions)) = some (some (some (5, 1), 5, 1)) := by decide +kernel

/-- R31, R67: with no extension left the plane is FULL with stamp 1 and the next tile is taken into hand. -/
theorem test_ladderEnd :
    (nextOf .mergeEnd (lastMerge 4 { ladder1 with currentLast := 4, extensions := 1 })).map
      (fun t => (t.ladder, (t.plane .p1).map fun p => (p.state, p.stamp), t.pass.handedOver, t.pass.tile.map (·.ordinal)))
      = some (none, some (.full, some 1), 1, some 1) := by decide +kernel

/-- The job of the example under A_FIRST, its first retry asking the other bank, and a flat of bank B of top rung 6. -/
def twoBanks (s : State) : State :=
  { s with
    pass.job := some { inHand1 with record := { record1 with bankPref := .aFirst, retryBank1 := .alternate } }
    merge.p1 := some plane1
    cal.flatB := ⟨.valid, some { flat1 with record := { flatRecord1 with bank := .b, eFlat := 100000 } }⟩ }

/-- LadderRestartsOnTheOtherBank: a fault of the lit bank; an attempt due on a FAILED bank, with one begun and with none; a timeout with the next
attempt to be made on the other bank, with no merge in progress and with one; the end of that merge. -/
theorem witness_LadderRestartsOnTheOtherBank :
    (let s := twoBanks exposing
     let r : JobRecord := { record1 with bankPref := .aFirst, retryBank1 := .alternate }
     let f : FlatData := { flat1 with record := { flatRecord1 with bank := .b, eFlat := 100000 } }
     s.pass.job = some { inHand1 with record := r } ∧ s.pass.tile = some { tile1 .ladder with plane := some .p1 }
       ∧ s.plane .p1 = some plane1 ∧ s.pass.settle = none ∧ r.bankPref = .aFirst ∧ (s.bank (BankId.other .a)).health = .ready
       ∧ s.flat (BankId.other .a) = ⟨.valid, some f⟩ ∧ f.record.age < s.params.flatAgeLimit ∧ ladder1.restarts < 2
       ∧ s.stats.counters.length = 16 ∧ (s.bank .a).faultInput = false
       ∧ s.lamps.exposure = some ⟨.a, .rung, 40000, 0, 0, 20, 992000, 400⟩ ∧ s.fillingSlot = some .s1 ∧ s.slot .s1 = some slot1
       ∧ s.flightAt .s1 = some flight1 ∧ s.mergingSlot .ladder = none ∧ r.retryBank slot1.attempt = .alternate
       ∧ slot1.attempt < ladder1.allowed ∧ ladder1.policyUsed = false ∧ slot1.deadline ≤ { s with now := slot1.deadline }.now)
    ∧ (let s : State := twoBanks { due1 with lamps.a := { resetBank true with health := .failed } }
       s.ladder = some ladder1 ∧ ladder1.due = some (0, 1) ∧ (s.bank ladder1.bank).health = .failed ∧ ladder1.begun = false
         ∧ ladder1.rungList = [] ∧ ladder1.inFlight = [] ∧ { ladder1 with begun := true }.begun = true ∧ s.mergingSlot .ladder = none)
    ∧ (let h : Flight := { flight1 with slot := .s2, state := .merging }
       let s : State := twoBanks { receiving slot1 with
         ladder := some { ladder1 with due := none, inFlight := [h, flight1] }
         intake.s2 := some { validSlot with state := .merging } }
       s.mergingSlot .ladder = some .s2 ∧ h.slot = .s2 ∧ h.state = .merging ∧ s.fillingSlot = some .s1)
    ∧ (let l : Ladder := { ladder1 with restartPending := some true }
       let s := twoBanks (lastMerge 0 l)
       s.mergingSlot .ladder = some .s1 ∧ s.flightAt .s1 = some { flight1 with state := .merging } ∧ l.restartPending = some true) := by
  refine ⟨⟨rfl, rfl, rfl, rfl, rfl, rfl, rfl, by decide, by decide, rfl, rfl, rfl, by decide, rfl, by decide, by decide, by decide,
    by decide, rfl, by decide⟩, ⟨rfl, rfl, rfl, rfl, rfl, rfl, rfl, by decide⟩, ⟨by decide +kernel, rfl, rfl, by decide +kernel⟩,
    by decide +kernel, by decide +kernel, rfl⟩

/-- R60, R77, R177: BANK_FAULT acted on first restarts the ladder on bank B, and its escalation then halts the pass; halted first, bank A stays. -/
theorem test_bankFault_ahead :
    (nextOf (.faultInputAssert .a) (letHalt .bankFault (twoBanks exposing))).map
        (fun t => (t.pass.state, t.pass.bank.map (·.bank), t.ladder.map (·.restarts))) = some (.halted, some .a, some 0)
      ∧ (nextOf (.faultInputAssert .a) (twoBanks exposing)).map (fun t => (t.pass.state, t.pass.bank.map (·.bank), t.ladder.map (·.restarts)))
        = some (.walking, some .b, some 1) := by decide +kernel

/-- Bank B's flat at FLAT_AGE_LIMIT, in a station that may switch to it. -/
def staleB (s : State) : State :=
  { twoBanks s with
    cal.flatB := ⟨.valid, some { flat1 with record := { flatRecord1 with bank := .b, eFlat := 100000, age := 50 } }⟩ }

/-- The stale check of LadderRestartsOnTheOtherBank: bank B's flat at the limit, B in the raised set and not. -/
theorem witness_LadderRestarts_stale :
    (let s := staleB exposing
     s.params.flatAgeLimit = 50 ∧ (s.flatRecord .b).map (·.age) = some 50 ∧ s.cal.raisedSet.has .b = false)
      ∧ { staleB exposing with cal.raisedSet := ⟨false, true⟩ }.cal.raisedSet.has .b = true := by decide

/-- R130: a restart onto a stale bank B raises STALE_FLAT with the tile, once for the plate, and the ladder carries BANK_SWITCH and STALE_FLAT. -/
theorem test_restart_stale :
    (nextOf (.faultInputAssert .a) (staleB exposing)).map (fun t => t.faults.raised.map fun r => (r.kind, r.ctx.tile))
        = some [(.bankFault, some (0, 0)), (.staleFlat, some (0, 0))]
      ∧ (nextOf (.faultInputAssert .a) (staleB exposing)).map (fun t => (t.ladder.map (·.conds), t.pass.stale)) = some (some 24#6, true)
      ∧ (nextOf (.faultInputAssert .a) { staleB exposing with cal.raisedSet := ⟨false, true⟩ }).map
          (fun t => (t.faults.raised.map (·.kind), t.cal.staleSet)) = some ([.bankFault], ⟨false, true⟩) := by decide +kernel

/-- R60: a driver fault of bank A restarts the ladder on bank B: one restart, BANK_SWITCH, the first rung due, the last rung 6. -/
theorem test_restart :
    (nextOf (.faultInputAssert .a) (twoBanks exposing)).map
      (fun t => t.ladder.map fun l => (l.restarts, l.due, l.currentLast, l.conds)) = some (some (1, some (0, 1), 6, 8#6)) := by
  decide +kernel

/-- R60, step 2: at the end of the merge that a restart waits for, its rung is not entered and the plane is clear. -/
theorem test_restart_afterMerge :
    (nextOf .mergeEnd (twoBanks (lastMerge 0 { ladder1 with restartPending := some true }))).map
      (fun t => (t.ladder.map fun l => (l.bank, l.rungList, l.policyUsed), (t.plane .p1).map (·.counts.nNone)))
      = some (some (.b, [], true), some 4096) := by decide +kernel

/-! ### Witnesses: chapter 6 -/

/-- LogarithmIsTheNearestInteger and PixelClassAndCodeFollowTheRow: x at the ends of an octave and of the range; a row of two pixels, F - Bf at
L and one below it. -/
theorem witness_LogarithmAndPixelClass :
    (2 ^ 18 ≤ 262144 ∧ 262144 < 2 ^ (18 + 1) ∧ 524287 < 2 ^ (18 + 1) ∧ 2 ^ 0 ≤ 1)
      ∧ (let row : List (FlatPixel × MergeRec) := [(⟨88, false⟩, .valid 0 24), (⟨87, false⟩, .clipped)]
         row[0]? = some (⟨88, false⟩, .valid 0 24) ∧ row[1]? = some (⟨87, false⟩, .clipped)
           ∧ ((24 : Nat) : Int) ≤ ((88 : Nat) : Int) - (64 : Nat) ∧ ((87 : Nat) : Int) - (64 : Nat) < (24 : Nat)) := by decide

def conv1 : Conversion :=
  { plane := .p1, buffer := .t1, owner := plane1.owner, bank := .a, window := plane1.window, l := 24, rowsDone := 64
    figures := noFigures, lastCode := none }

/-- A flat of two lines of four columns, column 3 of line 1 clip-marked; its Bf is 64. -/
def flat2 : FlatData := { flat1 with f := [[70, 70, 70, 70], [70, 70, 3264, 3990]], clip := [List.replicate 4 false, [false, false, false, true]] }

/-- PixelClassAndCodeFollowTheRow, its row and figures: a window at line 1, column 2, its two pixels the flat's last; no figures before them. -/
theorem witness_PixelClassAndCodeFollowTheRow :
    (let records : List MergeRec := [.valid 3 1736, .under]
     flat2.f[1 + 0]? = some [70, 70, 3264, 3990] ∧ flat2.clip[1 + 0]? = some [false, false, false, true]
       ∧ [records][0]? = some records ∧ 2 + records.length ≤ 4)
    ∧ noFigures.min = none ∧ noFigures.max = none ∧ noFigures.bins.length = 41
    ∧ [(⟨1169, .normal⟩ : PixOut), ⟨1169, .defect⟩].filter (fun p => decide (p.cls = .normal)) = [⟨1169, .normal⟩] := by decide

/-- R104, R111, R112: the window's offset picks the flat's pixels (6.10, pixels 1 and 2); of their codes the NORMAL one alone is counted,
in bin 11, and 4095 falls into bin 40. -/
theorem test_rowWords :
    let words := rowWords flat2 { conv1 with window := ⟨2, 1, 2, 1⟩ } [[.valid 3 1736, .under]] 0
    let g := words.foldl addPixel noFigures
    words = [⟨1169, .normal⟩, ⟨1169, .defect⟩] ∧ (g.nNormal, g.nDefect, g.sum) = (1, 1, 1169) ∧ (g.min, g.max) = (some 1169, some 1169)
      ∧ (g.bins[11]?, g.bins.sum) = (some 1, 1) ∧ (addPixel g ⟨4095, .normal⟩).bins[40]? = some 1 := by decide +kernel

def fullPlane (stamp : Nat) : Plane := { plane1 with state := .full, stamp := some stamp, ladder := some fields1 }

/-- The last conversion of a job whose plate is back: every pixel UNDER, the job's under_limit 0 and its stop_on_attention yes. -/
def lastConversion (p : PassState) : State :=
  let record : JobRecord := { record1 with stopOnAttention := true, underLimit := 0 }
  { active p with
    pass := { (active p).pass with job := some { inHand1 with record := record }, handedOver := 1, plate := .returned, walkPos := 15 }
    faults.jobMark := some .staleFlat, out.t1 := some (buf1 .converting none)
    conv := some { conv1 with owner := { conv1.owner with record := record }, figures := { conv1.figures with nUnder := 4096 } }
    merge.p1 := some { fullPlane 1 with state := .converting } }

/-- ConversionClaimsConvertsAndRecords: two FULL planes, the older stamped just before a wrap, T1 taken and T2 FREE; a conversion with every
row done and with none, a tile in hand; and the last one of a job in FINISHING. -/
theorem witness_ConversionClaimsConvertsAndRecords :
    (let s : State := { active .walking with
       merge := ⟨some (fullPlane 4294967295), some (fullPlane 0), 0⟩, out.t1 := some (buf1 .ready (some 1)) }
     s.conv = none ∧ s.plane .p1 = some (fullPlane 4294967295) ∧ (fullPlane 4294967295).state = .full
       ∧ (fullPlane 4294967295).stamp = some 4294967295 ∧ s.plane .p2 = some (fullPlane 0)
       ∧ ((0 : Nat) - (0 : Nat) : Int) % 4294967296 < ((0 : Nat) - (4294967295 : Nat) : Int) % 4294967296
       ∧ s.buf .t2 = none ∧ (∀ k, BufId.place k < BufId.place .t2 → s.buf k ≠ none))
    ∧ (∀ done ∈ [0, 64], let s : State := { active .walking with
         pass.tile := some (tile1 .moving), conv := some { conv1 with rowsDone := done }, out.t1 := some (buf1 .converting none)
         merge.p1 := some { fullPlane 1 with state := .converting } }
       s.conv = some { conv1 with rowsDone := done } ∧ s.plane .p1 = some { fullPlane 1 with state := .converting }
         ∧ { fullPlane 1 with state := .converting }.ladder = some fields1 ∧ (s.flat .a).data = some flat1
         ∧ s.buf .t1 = some (buf1 .converting none) ∧ done ≤ conv1.window.h ∧ s.stats.counters.length = 16
         ∧ (∀ k ∈ s.stats.counters, k.value ≤ 4294967295) ∧ s.pass.tile ≠ none)
    ∧ (let s := lastConversion .finishing
       s.pass.state = .finishing ∧ s.pass.job ≠ none ∧ s.pass.tile = none ∧ s.pass.handedOver = 1
         ∧ (∀ o, s.motion.order = some o → o.requester ≠ .pass) ∧ s.pass.plate = .returned) := by
  refine ⟨⟨rfl, rfl, rfl, rfl, rfl, by decide, rfl, ?_⟩, ?_, rfl, (fun h => by cases h), rfl, rfl, (fun o h => by cases h), rfl⟩
  · intro k hk
    cases k <;> first | exact absurd hk (by decide) | (intro h; cases h)
  · intro done hd
    refine ⟨rfl, rfl, rfl, rfl, rfl, ?_, rfl, (by decide : ∀ k ∈ resetStats.counters, k.value ≤ 4294967295), by intro h; cases h⟩
    simp at hd; rcases hd with rfl | rfl <;> decide

/-- A conversion in the middle of its one row: the first of two pixels, NORMAL with code 1169 (6.10), is converted. -/
def midRow : State :=
  { active .walking with
    pass.tile := some (tile1 .moving), pass.handedOver := 1, cal.flatA := ⟨.valid, some flat2⟩
    conv := some
      { conv1 with
        window := ⟨2, 1, 2, 1⟩, rowsDone := 0, lastCode := some 1169, figures := addPixel noFigures ⟨1169, .normal⟩ }
    out.t1 := some { buf1 .converting none with rows := [[⟨1169, .normal⟩]] }
    merge.p1 := some { fullPlane 1 with state := .converting, recs := [[.valid 3 1736, .under]] } }

/-- The same conversion before its first pixel. -/
def startRow : State :=
  { midRow with
    conv := midRow.conv.map fun c => { c with lastCode := none, figures := noFigures }
    out.t1 := some (buf1 .converting none) }

/-- IdleStepRunsTheClock, PixelClassAndCodeFollowTheRow and ConversionClaimsConvertsAndRecords, a row in hand begun and one not begun: what
the row's words are, before its first pixel and between its two. -/
theorem witness_pixels :
    (∀ s ∈ [startRow, midRow], s.pending = [] ∧ s.conv.isSome = true ∧ s.time.count < 4294967295)
      ∧ (∃ c p, midRow.conv = some c ∧ midRow.plane c.plane = some p ∧ (midRow.flat c.bank).data = some flat2
          ∧ c.rowsDone < c.window.h ∧ rowWords flat2 c p.recs c.rowsDone = [⟨1169, .normal⟩] ++ ⟨1169, .defect⟩ :: []
          ∧ c.lastCode = [(⟨1169, .normal⟩ : PixOut)].getLast?.map (fun w => w.code))
      ∧ (∃ c p, startRow.conv = some c ∧ startRow.plane c.plane = some p
          ∧ rowWords flat2 c p.recs c.rowsDone = [] ++ ⟨1169, .normal⟩ :: [⟨1169, .defect⟩]
          ∧ c.lastCode = ([] : List PixOut).getLast?.map (fun w => w.code)) := by
  refine ⟨by decide +kernel, ⟨_, _, rfl, rfl, rfl, ?_, ?_, rfl⟩, ⟨_, _, rfl, rfl, ?_, rfl⟩⟩ <;> decide +kernel

/-- R101, R103, R111: after the first pixel rows done is still 0, the last code 1169 and one pixel is NORMAL; the second, a DEFECT that takes its
code, completes the row, and no last code stands. -/
theorem test_pixels :
    (convertNextPixel startRow).conv.map (fun c => (c.rowsDone, c.lastCode, c.figures.nNormal, c.figures.nDefect)) = some (0, some 1169, 1, 0)
      ∧ (convertNextPixel midRow).conv.map (fun c => (c.rowsDone, c.lastCode, c.figures.nNormal, c.figures.nDefect)) = some (1, none, 1, 1)
      ∧ (convertNextPixel midRow).out.t1.map (·.rows) = some [[⟨1169, .normal⟩, ⟨1169, .defect⟩]] := by decide +kernel

/-- R103, R115: CONVERSION_END in the middle of a row goes on from the last code: the buffer's row is whole and the record counts both pixels. -/
theorem test_conversionEnd_midRow :
    (nextOf .conversionEnd midRow).map
      (fun t => (t.out.t1.map (·.rows), t.out.records.map fun r => r.conv.map fun c => (c.nNormal, c.nDefect)))
      = some (some [[⟨1169, .normal⟩, ⟨1169, .defect⟩]], [some (1, 1)]) := by decide +kernel

/-- R115: the end of a conversion whose rows are done writes record 1, and frees the plane. -/
theorem test_conversionEnd :
    (nextOf .conversionEnd { active .walking with
        pass.tile := some (tile1 .moving), pass.handedOver := 1, conv := some conv1, out.t1 := some (buf1 .converting none)
        merge.p1 := some { fullPlane 1 with state := .converting } }).map
      (fun t => (t.out.newest, t.merge.p1, t.conv, t.pass.handedOver, t.out.t1.map (·.state)))
      = some (1, none, none, 0, some .ready) := by decide +kernel

/-- R34, R35: the end of the last conversion ends the job in FINISHING, DONE_DEGRADED by its attention record. -/
theorem test_conversionEndsJob :
    (nextOf .conversionEnd (lastConversion .finishing)).map
      (fun t => (t.pass.state, t.queue.jobs, t.queue.history.map fun e => (e.outcome, e.counts.captured, e.counts.attention)))
      = some (.idle, [], [(.doneDegraded, 1, 1)]) := by decide +kernel

/-- R41: an attention record sets pause pending in WALKING, and not in PAUSED. -/
theorem test_attentionPause :
    ((nextOf .conversionEnd { lastConversion .walking with pass.plate := .onTable }).map (·.pass.pausePending),
      (nextOf .conversionEnd { lastConversion .paused with pass.plate := .onTable }).map (·.pass.pausePending))
      = (some true, some false) := by decide +kernel

/-! ### Witnesses: chapter 7 -/

/-- CalibrateIsTakenOrRefusedInOrder: bank code 2; BUSY by a job, a calibration, a HOME; HALTED; PLATE_PRESENT; BANK_FAILED; and taken, with E_flat at
and beyond both ends of its range, with and without an order outstanding. -/
theorem witness_CalibrateIsTakenOrRefusedInOrder :
    (∀ code ∈ [0#8, 1#8, 2#8], ∀ e ∈ [19, 20, 500000, 500001], e < 4294967296
        ∧ AtHead 15 7#8 0#8 (code :: (leBytes 4 e ++ [3#8])) [] (asking cfg 15 (code :: (leBytes 4 e ++ [3#8]))))
    ∧ 2 ≤ (2#8 : Byte).toNat
    ∧ ((active .walking).pass.job ≠ none ∧ calibrating.cal.cal ≠ none
        ∧ { cfg with motion.homeRequest := true }.motion.homeRequest = true)
    ∧ (cfg.pass.job = none ∧ cfg.cal.cal = none ∧ cfg.motion.homeRequest = false ∧ cfg.pass.state ≠ .halted ∧ cfg.platePresent = false
        ∧ (cfg.bank .a).health = .ready ∧ cfg.motion.order = none ∧ cfg.motion.stop = none)
    ∧ ({ cfg with pass.state := .halted }.pass.state = .halted ∧ { cfg with platePresent := true }.platePresent = true
        ∧ ({ cfg with lamps.a := { resetBank true with health := .failed } }.bank .a).health = .failed
        ∧ { cfg with motion.stop := some ⟨0, 5, 0, false⟩ }.motion.stop ≠ none) := by
  refine ⟨?_, by decide, ⟨?_, ?_, rfl⟩, ⟨rfl, rfl, rfl, by decide, rfl, rfl, rfl, rfl⟩, rfl, rfl, rfl, ?_⟩
  · intro code _ e he
    refine ⟨?_, asking_atHead _ _ _ (by simp [leBytes]) (by decide)⟩
    simp at he; omega
  all_goals (intro h; cases h)

/-- R120: the frames taken, and E_flat held in 20..500,000. -/
theorem test_calibrate_values :
    [0, 1, 3, 4, 9, 15, 16, 255].map framesTaken = [1, 1, 2, 4, 8, 8, 16, 16]
      ∧ [0, 19, 20, 500000, 500001].map eFlatTaken = [20, 20, 20, 500000, 500000] := by decide

/-- CalibrationAttemptExposesOrFails: slot S1; slot S2, S1 VALID; the line true; the bank FAILED. -/
theorem witness_CalibrationAttemptExposesOrFails :
    (calibrating.cal.cal = some cal1 ∧ cal1.due = true ∧ cal1.failure = none ∧ calibrating.platePresent = false
        ∧ (calibrating.bank cal1.bank).health = .ready ∧ calibrating.lamps.a.lit = false ∧ calibrating.lamps.b.lit = false
        ∧ calibrating.slot .s1 = none ∧ calibrating.slot .s2 = none)
      ∧ (let s : State := { calibrating with intake.s1 := some { slot1 with state := .valid, taker := .calibration } }
         s.slot .s1 ≠ none ∧ s.slot .s2 = none ∧ ∀ d, s.slot .s1 = some d → d.state ≠ .filling)
      ∧ { calibrating with platePresent := true }.platePresent = true
      ∧ ({ calibrating with lamps.a := { resetBank true with health := .failed } }.bank cal1.bank).health = .failed := by
  refine ⟨⟨rfl, rfl, rfl, rfl, rfl, rfl, rfl, rfl, rfl⟩, ⟨?_, rfl, ?_⟩, rfl, rfl⟩
  · intro h; cases h
  · rintro d ⟨⟩; decide

/-- R123, R126: with the plate-present line true the calibration fails PLATE_PRESENT and ends. -/
theorem test_calAttempt_platePresent :
    (nextOf (.calAttemptStart 0#12) { calibrating with platePresent := true }).map
      (fun t => (t.cal.cal, t.link.notices.map QueuedNotice.notice))
      = some (none, [.calDone ⟨.a, 40000, 4, some .platePresent, 0, 0, none, none, none, 0⟩]) := by decide +kernel

def calSlot : Slot := { freshSlot .calibration 0 0 fullWindow 3968 40000 cfg with reception := .receiving }

/-- A calibration's frame at its deadline. -/
def calTimedOut (rx : LinkRx) : State :=
  { calibrating with cal.cal := some { cal1 with due := false }, intake.s1 := some calSlot, intake.rx := rx, now := calSlot.deadline }

/-- A calibration that has failed, its marked frame in reception and at its deadline. -/
def calClosing : State :=
  { calTimedOut (.receiving .s1) with
    cal.cal := some { cal1 with failure := some .frames, due := false }, intake.s1 := some { calSlot with discard := true } }

/-- CalibrationFramesAreKeptOrRetaken: a whole frame below n and the nth; a short one at attempts 2 and 3; one at its deadline, in reception
and not begun; a marked one of a failed calibration. -/
theorem witness_CalibrationFramesAreKeptOrRetaken :
    (let d := { calSlot with lines := 3072 }
     let s : State := { calibrating with intake.s1 := some d, intake.rx := .receiving .s1 }
     s.cal.cal = some cal1 ∧ cal1.failure = none ∧ s.intake.rx = .receiving .s1 ∧ SlotId.s1 ≠ .s2 ∧ s.slot .s1 = some d
       ∧ d.taker = .calibration ∧ d.discard = false ∧ d.lines = 3072 ∧ d.shortSeen = false ∧ s.slot .s2 = none)
    ∧ (cal1.frameIndex < cal1.n ∧ { cal1 with frameIndex := 4 }.n ≤ 4)
    ∧ ({ calSlot with lines := 3073 }.lines ≠ 3072 ∧ { cal1 with attempt := 2 }.attempt < 3 ∧ 3 ≤ { cal1 with attempt := 3 }.attempt)
    ∧ (∀ rx ∈ [LinkRx.receiving .s1, .idle], (calTimedOut rx).fillingSlot = some .s1 ∧ (calTimedOut rx).slot .s1 = some calSlot
        ∧ calSlot.deadline ≤ (calTimedOut rx).now ∧ (calTimedOut rx).slot .s2 = none)
    ∧ (calClosing.cal.cal = some { cal1 with failure := some .frames, due := false } ∧ calClosing.fillingSlot = some .s1
        ∧ calClosing.slot .s1 = some { calSlot with discard := true } ∧ { calSlot with discard := true }.discard = true
        ∧ calClosing.intake.rx = .receiving .s1 ∧ calSlot.deadline ≤ calClosing.now ∧ calClosing.slot .s2 = none) := by
  refine ⟨⟨rfl, rfl, rfl, by decide, rfl, rfl, rfl, rfl, rfl, rfl⟩, by decide, by decide, ?_,
    rfl, by decide, rfl, rfl, rfl, by decide, rfl⟩
  intro rx _
  exact ⟨rfl, rfl, Nat.le_refl _, rfl⟩

/-- R124: a short calibration frame is retaken. -/
theorem test_calFrameShort :
    (nextOf .frameEnd { calibrating with intake.s1 := some { calSlot with lines := 1 }, intake.rx := .receiving .s1 }).map
      (fun t => (t.intake.s1, t.cal.cal.map fun c => (c.attempt, c.retakes, c.due), t.faults.raised.map (·.kind)))
      = some (none, some (2, 1, true), [.frameShort]) := by decide +kernel

/-- R89, R124: a calibration's frame in reception at its deadline is FRAME_TIMEOUT with the bank, and retaken. -/
theorem test_calFrameTimeout :
    (nextOf .frameDeadline (calTimedOut (.receiving .s1))).map
        (fun t => (t.intake.rx, t.cal.cal.map (·.attempt), t.faults.raised))
        = some (.discarding, some 2, [⟨.frameTimeout, ⟨none, none, none, some .a⟩⟩]) := by decide +kernel

/-- R90, R126: the calibration ends when its marked frame is settled. -/
theorem test_calCloses :
    (nextOf .frameEnd calClosing).map (fun t => (t.intake.s1, t.cal.cal, t.link.notices.length)) = some (none, none, 1) := by decide +kernel

def takingIn (c : Calibration) : State :=
  { cfg with cal.cal := some { c with due := false }
             intake.s1 := some { calSlot with state := .merging, reception := .ended, b := 64, m := 2050 } }

/-- CalibrationTakesInAveragesAndJudges: a frame VALID; a taking in below n, and the nth. -/
theorem witness_CalibrationTakesInAveragesAndJudges :
    (let d := { calSlot with state := .valid }
     let s : State := { calibrating with intake.s1 := some d, intake.validOrder := [.s1] }
     s.mergingSlot .calibration = none ∧ s.intake.validOrder = .s1 :: [] ∧ s.slot .s1 = some d ∧ d.state = .valid
       ∧ d.taker = .calibration)
    ∧ (∀ k ∈ [2, 3], let c : Calibration := { cal1 with takenIn := k }
       (takingIn c).cal.cal = some { c with due := false } ∧ c.failure = none ∧ (takingIn c).mergingSlot .calibration = some .s1)
    ∧ 2 + 1 ≠ cal1.n ∧ 3 + 1 = cal1.n := by
  refine ⟨⟨by decide, rfl, rfl, rfl, rfl⟩, ?_, by decide, by decide⟩
  intro k _
  exact ⟨rfl, rfl, rfl⟩

/-- R125: the fourth frame's taking in makes the flat VALID with Bf 64 and Mref 2,050, and its calibration ends. -/
theorem test_takeInEnd :
    (nextOf .takeInEnd (takingIn { cal1 with takenIn := 3, sumB := 192, sumM := 6150 })).map
      (fun t => (t.cal.flatA.validity, t.cal.flatA.data.map fun d => (d.record.bf, d.record.mref), t.cal.cal))
      = some (.valid, some (64, 2050), none) := by decide +kernel

/-! ### Witnesses: chapter 8 -/

/-- ReportsAreMatchedByNumber: the pass's MOVE; a HOME request; a calibration in HOMING and POSITIONING; a STOP, with and without a reissue
pending; an order with no STOP, whoever its requester is; a report with another number, STOPPED and EMPTY for an order, EMPTY for a STOP;
records with a framing error, another kind code and a wrong check. -/
theorem witness_ReportsAreMatchedByNumber :
    (let s : State := { active .walking with motion.order := some (order1 .move .pass), pass.tile := some (tile1 .moving) }
     s.motion.rxBytes = [] ∧ s.motion.rxError = false ∧ s.motion.order = some (order1 .move .pass)
       ∧ (order1 .move .pass).awaitingReissue = false ∧ (order1 .move .pass).number = 0 ∧ s.pass.state = .walking
       ∧ s.pass.tile = some (tile1 .moving) ∧ s.pass.settle = none)
    ∧ (let s : State := { cfg with motion.order := some (order1 .home .homeRequest), motion.homeRequest := true }
       s.motion.order = some (order1 .home .homeRequest) ∧ s.motion.homeRequest = true)
    ∧ (let s : State := { cfg with motion.stop := some ⟨255, 5, 0, false⟩ }
       s.motion.order = none ∧ s.motion.stop = some ⟨255, 5, 0, false⟩)
    ∧ (∀ phase ∈ [CalPhase.homing, .positioning], ∀ kind, let c : Calibration := { cal1 with phase := phase }
       let s : State := { calibrating with cal.cal := some c, motion.order := some (order1 kind .calibration) }
       s.motion.order = some (order1 kind .calibration) ∧ s.cal.cal = some c ∧ c.phase = phase ∧ s.motion.stop = none
         ∧ (order1 kind .calibration).kind = kind ∧ c.failure = none)
    ∧ (let o : Order := { order1 .move .pass with awaitingReissue := true }
       let s : State := { active .walking with motion.order := some o, motion.stop := some ⟨1, 5, 0, true⟩ }
       s.motion.order = some o ∧ o.awaitingReissue = true ∧ s.motion.stop = some ⟨1, 5, 0, true⟩)
    ∧ (MatchesNothing cfg .done 0
       ∧ MatchesNothing { cfg with motion.order := some (order1 .move .pass) } .stopped 0
       ∧ MatchesNothing { cfg with motion.order := some (order1 .ret .pass) } .empty 0
       ∧ MatchesNothing { cfg with motion.stop := some ⟨7, 5, 0, false⟩ } .empty 7)
    ∧ (let rx := reportBytes 17 0; rx.length = 10 ∧ (rx.map RxByte.byte)[0]? = some 197#8)
    ∧ ((∃ b ∈ (reportBytes 17 0).set 5 ⟨0#8, true⟩, b.framingError = true)
        ∧ ((reportBytes 16 0).map RxByte.byte).getD 1 0#8 ∉ [17#8, 18#8, 19#8, 20#8]
        ∧ (let bs := ((reportBytes 17 0).set 9 ⟨0#8, false⟩).map RxByte.byte
           (bs.getD 9 0#8).toNat ≠ (((bs.drop 1).take 8).map BitVec.toNat).sum % 256)) := by
  refine ⟨⟨rfl, rfl, rfl, rfl, rfl, rfl, rfl, rfl⟩, ⟨rfl, rfl⟩, ⟨rfl, rfl⟩, fun _ _ _ => ⟨rfl, rfl, rfl, rfl, rfl, rfl⟩,
    ⟨rfl, rfl, rfl⟩, ⟨.inr ⟨by rintro o ⟨⟩, .inl (by rintro o ⟨⟩)⟩, .inl ⟨_, rfl, rfl, rfl, .inl rfl⟩,
      .inl ⟨_, rfl, rfl, rfl, .inr ⟨rfl, by decide⟩⟩, .inr ⟨by rintro o ⟨⟩, .inr rfl⟩⟩, by decide, by decide, by decide, by decide⟩

/-- R135, R30: a MOVE's DONE readies its tile. -/
theorem test_moveDone :
    (nextOf (.motionReport (reportBytes 17 0))
        { active .walking with motion.order := some (order1 .move .pass), pass.tile := some (tile1 .moving) }).map
      (fun t => (t.motion.order, t.pass.tile.map (·.moveDone), t.motion.discarded)) = some (none, some true, 0) := by decide +kernel

/-- R138, R139: HALTED for a tile's MOVE is POSITIONER_HALT: the plate is LEFT, the job FAILED, STOP sent. -/
theorem test_halted :
    (nextOf (.motionReport (reportBytes 19 0))
        { active .walking with motion.order := some (order1 .move .pass), pass.tile := some (tile1 .moving), pass.handedOver := 1 }).map
      (fun t => (t.pass.state, t.pass.plate, t.motion.stop.isSome, t.motion.unsure, t.faults.raised.map (·.kind)))
      = some (.finishing, .left, true, true, [.positionerHalt]) := by decide +kernel

/-- R122: a calibration's HOME DONE issues the MOVE to the latched point, and its MOVE DONE makes the first attempt due. -/
theorem test_calOrders :
    (nextOf (.motionReport (reportBytes 17 0))
        { calibrating with cal.cal := some { cal1 with phase := .homing }, motion.order := some (order1 .home .calibration) }).map
      (fun t => (t.cal.cal.map (·.phase), t.motion.order.map fun o => (o.kind, o.arg1, o.arg2), t.motion.unsure))
      = some (some .positioning, some (.move, 200000, 200000), false) := by decide +kernel

/-- R201: a record with a wrong check byte is discarded. -/
theorem test_wrongCheck :
    (nextOf (.motionReport ((reportBytes 17 0).set 9 ⟨0#8, false⟩)) cfg).map (fun t => (t.motion.discarded, t.motion.last))
      = some (1, none) := by decide +kernel

def loading : State :=
  { active .loading with
    motion.order := some (order1 .load .pass)
    pass := { (active .loading).pass with plate := .notLoaded, walkPos := 0, pausePending := true } }

def returning : State :=
  { active .returning with
    motion.order := some (order1 .ret .pass), platePresent := false
    pass := { (active .returning).pass with walkPos := 15, step := .handling } }

/-- HandlerReportsLoadPauseAndEndTheJob: a LOAD with a pause pending, with none, with a cancel and with a mark; the line true and false at it; a
RETURN with nothing handed over and one tile, the line false and true; a LOAD that finds the slot empty. -/
theorem witness_HandlerReportsLoadPauseAndEndTheJob :
    (loading.motion.rxBytes = [] ∧ loading.motion.rxError = false ∧ loading.motion.order = some (order1 .load .pass)
        ∧ (order1 .load .pass).requester = .pass ∧ loading.pass.job = some inHand1 ∧ loading.pass.tile = none
        ∧ loading.pass.state = .loading ∧ loading.platePresent = true ∧ loading.pass.cancelPending = false
        ∧ loading.pass.pausePending = true ∧ loading.pass.mark = none ∧ loading.pass.walkPos < record1.rows * record1.cols
        ∧ loading.pass.handedOver = 0 ∧ loading.pass.plate = .notLoaded)
      ∧ (returning.motion.order = some (order1 .ret .pass) ∧ returning.pass.job = some inHand1 ∧ returning.pass.tile = none
        ∧ returning.pass.state = .returning ∧ returning.pass.step = .handling ∧ returning.platePresent = false
        ∧ returning.pass.handedOver = 0 ∧ returning.faults.raised = [] ∧ returning.pass.plate = .onTable ∧ returning.ladder = none
        ∧ returning.pass.walkPos ≤ record1.rows * record1.cols ∧ returning.motion.stop = none
        ∧ { returning with platePresent := true }.platePresent = true ∧ { returning with pass.handedOver := 1 }.pass.handedOver ≠ 0)
      ∧ ({ loading with pass.pausePending := false }.pass.pausePending = false ∧ (0, 0) = inHand1.record.cell loading.pass.walkPos
        ∧ zoneAnswer loading.zones inHand1.record 0 0 = .none ∧ loading.motion.stop = none
        ∧ { loading with pass.cancelPending := true }.pass.cancelPending = true
        ∧ { loading with pass.mark := some .overtime }.pass.mark ≠ none ∧ { loading with platePresent := false }.platePresent = false) := by
  refine ⟨⟨rfl, rfl, rfl, rfl, rfl, rfl, rfl, rfl, rfl, rfl, rfl, by decide, rfl, rfl⟩, ⟨rfl, rfl, rfl, rfl, rfl, rfl, rfl, rfl, rfl, rfl,
    by decide, rfl, rfl, by decide⟩, rfl, by decide, by decide, rfl, rfl, by decide, rfl⟩

/-- R26, R28: LOAD DONE with no pause pending takes the first tile into hand and issues its MOVE to (44,000, 32,000). -/
theorem test_loadDone :
    (nextOf (.motionReport (reportBytes 17 0)) { loading with pass.pausePending := false }).map
      (fun t => (t.pass.tile.map (·.ordinal), t.motion.expect, t.motion.order.map fun o => (o.arg1, o.arg2)))
      = some (some 0, .present, some (44000, 32000)) := by decide +kernel

/-- R26, R33, R44: LOAD DONE with the line false ends the job FAILED; RETURN DONE with the line true leaves the plate. -/
theorem test_plateSense :
    (nextOf (.motionReport (reportBytes 17 0)) { loading with platePresent := false, faults.jobMark := some .moveRetry }).map
        (fun t => (t.pass.state, t.motion.stop.isSome, t.queue.history.map (·.outcome), t.faults.raised.map (·.kind)))
        = some (.idle, true, [.failed], [.plateSense])
      ∧ (nextOf (.motionReport (reportBytes 17 0)) { returning with platePresent := true, pass.handedOver := 1 }).map
        (fun t => (t.pass.state, t.pass.plate, t.pass.mark, t.faults.raised.map (·.kind)))
        = some (.finishing, .left, some .failed, [.plateSense]) := by decide +kernel

/-- HandlerReportsLoadPauseAndEndTheJob, PLATE_SENSE and SLOT_EMPTY let halt the pass before it acts: the LOAD, and the RETURN. -/
theorem witness_HandlerReports_ahead :
    (∀ k ∈ [FaultKind.plateSense, .slotEmpty], let s := letHalt k { loading with platePresent := false }
     EscalatesFirst s k ∧ s.motion.order = some (order1 .load .pass) ∧ s.pass.state = .loading ∧ s.platePresent = false
       ∧ s.pass.plate = .notLoaded ∧ s.pass.handedOver = 0 ∧ s.motion.stop = none)
    ∧ (let s := letHalt .plateSense { returning with platePresent := true, pass.handedOver := 1 }
       EscalatesFirst s .plateSense ∧ s.motion.order = some (order1 .ret .pass) ∧ s.pass.state = .returning ∧ s.pass.step = .handling
         ∧ s.platePresent = true ∧ s.pass.plate = .onTable ∧ s.ladder = none ∧ s.motion.stop = none) := by
  refine ⟨fun k hk => ⟨(letHalt_escalates _ _ rfl ?_ rfl).1, rfl, rfl, rfl, rfl, rfl, rfl⟩, (letHalt_escalates _ _ rfl rfl rfl).1, rfl, rfl,
    rfl, rfl, rfl, rfl, rfl⟩
  cases k <;> rfl

/-- R26, R33, R44 to R46: halted before the action, LOAD EMPTY ends the job SLOT_EMPTY, and RETURN DONE with the line true leaves the plate, the
job FAILED; the pass stays HALTED. -/
theorem test_handler_ahead :
    (nextOf (.motionReport (reportBytes 18 0)) (letHalt .slotEmpty loading)).map
        (fun t => (t.pass.state, tellsHalted .slotEmpty .loading none t, t.queue.history.map fun e => (e.outcome, e.firstFault)))
        = some (.halted, true, [(.slotEmpty, some .slotEmpty)])
      ∧ (nextOf (.motionReport (reportBytes 17 0)) (letHalt .plateSense { returning with platePresent := true, pass.handedOver := 1 })).map
        (fun t => (t.pass.state, t.pass.plate, t.pass.mark, tellsHalted .plateSense .returning none t))
        = some (.halted, .left, some .failed, true) := by decide +kernel

/-- R33, R34: RETURN DONE with a tile handed over leaves the job ACTIVE in FINISHING. -/
theorem test_returnDoneFinishing :
    (nextOf (.motionReport (reportBytes 17 0)) { returning with pass.handedOver := 1 }).map
      (fun t => (t.pass.state, t.pass.plate, t.pass.job.isSome)) = some (.finishing, .returned, true) := by decide +kernel

/-- R34, R35: RETURN DONE ends the job, DONE. -/
theorem test_returnDone :
    (nextOf (.motionReport (reportBytes 17 0)) returning).map
      (fun t => (t.pass.state, t.queue.jobs, t.queue.history.map fun e => (e.number, e.outcome))) = some (.idle, [], [(1, .done)]) := by
  decide +kernel

/-- A tile's MOVE at its second timeout. -/
def movingLate : State :=
  { active .walking with
    pass.tile := some (tile1 .moving), motion.order := some { order1 .move .pass with retried := true }, now := 5000000 }

/-- A STOP at its limit, no order outstanding and a HOME waiting, as after a halt. -/
def stopAlone : State :=
  { ready with motion.stop := some ⟨1, 5, 0, false⟩, motion.waiting := some ⟨.home, 0, 0, .homeRequest⟩, now := 5000000 }

/-- LimitsRetryAMoveOnceAndThenFail: one µs before the limit and at it; each clause's order and requester; a STOP with reissue pending, and one
alone. -/
theorem witness_LimitsRetryAMoveOnceAndThenFail :
    (4999999 < (order1 .move .pass).issuedAt + (order1 .move .pass).limit * 1000000
        ∧ (order1 .move .pass).issuedAt + (order1 .move .pass).limit * 1000000 ≤ 5000000)
      ∧ (let s : State := { active .walking with motion.order := some (order1 .move .pass), now := 5000000 }
         s.motion.order = some (order1 .move .pass) ∧ (order1 .move .pass).awaitingReissue = false ∧ s.motion.stop = none
           ∧ (order1 .move .pass).retried = false ∧ s.stats.counters.length = 16)
      ∧ (let o : Order := { order1 .move .calibration with retried := true }
         let s : State := { calibrating with motion.order := some o, now := 5000000 }
         s.motion.order = some o ∧ o.retried = true ∧ s.cal.cal = some cal1 ∧ cal1.failure = none ∧ s.slot .s1 = none ∧ s.slot .s2 = none)
      ∧ (let o : Order := { order1 .home .homeRequest with retried := true }
         let s : State := { cfg with motion.order := some o, motion.homeRequest := true, now := 5000000 }
         s.motion.order = some o ∧ s.motion.homeRequest = true)
      ∧ (loading.motion.order = some (order1 .load .pass) ∧ loading.motion.stop = none ∧ loading.pass.tile = none
          ∧ loading.pass.handedOver = 0 ∧ loading.pass.plate = .notLoaded
          ∧ FailsAtLimit (order1 .load .pass) .handlerLimitExpiry .handlerTimeout)
      ∧ (movingLate.motion.order = some { order1 .move .pass with retried := true } ∧ movingLate.motion.stop = none
          ∧ FailsAtLimit { order1 .move .pass with retried := true } .moveLimitExpiry .moveTimeout
          ∧ movingLate.pass.job = some inHand1 ∧ movingLate.pass.state = .walking ∧ movingLate.pass.plate = .onTable
          ∧ movingLate.ladder = none ∧ movingLate.pass.tile = some (tile1 .moving) ∧ (tile1 .moving).phase = .moving
          ∧ (tile1 .moving).plane = none ∧ movingLate.pass.walkPos ≤ inHand1.record.rows * inHand1.record.cols
          ∧ movingLate.pass.handedOver = 0 ∧ { movingLate with pass.handedOver := 1 }.pass.handedOver ≠ 0)
      ∧ (returning.motion.order = some (order1 .ret .pass) ∧ returning.motion.stop = none ∧ returning.pass.plate = .onTable
          ∧ returning.ladder = none ∧ returning.pass.tile = none ∧ FailsAtLimit (order1 .ret .pass) .handlerLimitExpiry .handlerTimeout)
      ∧ (let s : State := { active .walking with
           motion.order := some { order1 .move .pass with awaitingReissue := true }, motion.stop := some ⟨1, 5, 0, true⟩, now := 5000000 }
         s.motion.stop = some ⟨1, 5, 0, true⟩ ∧ 0 + 5 * 1000000 ≤ s.now ∧ 4999999 < 0 + 5 * 1000000)
      ∧ (stopAlone.motion.stop = some ⟨1, 5, 0, false⟩ ∧ stopAlone.motion.order = none ∧ 0 + 5 * 1000000 ≤ stopAlone.now
          ∧ cfg.motion.stop = none ∧ cfg.motion.order = none) := by
  refine ⟨by decide, ⟨rfl, rfl, rfl, rfl, rfl⟩, ⟨rfl, rfl, rfl, rfl, rfl, rfl⟩, ⟨rfl, rfl⟩,
    ⟨rfl, rfl, rfl, rfl, rfl, .inr ⟨rfl, rfl, .inl rfl⟩⟩,
    ⟨rfl, rfl, .inl ⟨rfl, rfl, .inl rfl, rfl⟩, rfl, rfl, rfl, rfl, rfl, rfl, rfl, by decide, rfl, by decide⟩,
    ⟨rfl, rfl, rfl, rfl, rfl, .inr ⟨rfl, rfl, .inr rfl⟩⟩, ⟨rfl, by decide, by decide⟩,
    rfl, rfl, by decide, rfl, rfl⟩

/-- R136: a STOP that runs out alone completes and sets positioner-unsure; the order that waits goes on waiting. -/
theorem test_stopLimit :
    (nextOf .stopLimitExpiry stopAlone).map (fun t => (t.motion.stop, t.motion.unsure, t.motion.waiting.isSome, t.motion.sent))
      = some (none, true, true, []) := by decide +kernel

/-- R137: the first timeout of a MOVE sends STOP with reissue pending; the order stays. -/
theorem test_moveLimit :
    (nextOf .moveLimitExpiry { active .walking with motion.order := some (order1 .move .pass), now := 5000000 }).map
      (fun t => (t.motion.stop.map (·.reissue), t.motion.order.map (·.number), t.faults.raised.map (·.kind)))
      = some (some true, some 0, [.moveRetry]) := by decide +kernel

/-- R44, R137: a tile's MOVE that times out twice leaves the plate and ends the job FAILED with 15 tiles NOT_CAPTURED. -/
theorem test_moveTimeout :
    (nextOf .moveLimitExpiry { movingLate with faults.jobMark := some .moveRetry }).map
      (fun t => (t.pass.state, t.queue.history.map fun e => (e.outcome, e.counts.notCaptured))) = some (.idle, [(.failed, 15)]) := by
  decide +kernel

/-- ReportsAreMatchedByNumber and LimitsRetryAMoveOnceAndThenFail, the fault let halt the pass before it acts: a LOAD's HANDLER_TIMEOUT, and
POSITIONER_HALT and a second MOVE_TIMEOUT of a tile's MOVE. -/
theorem witness_OrderFails_ahead :
    (let s := letHalt .handlerTimeout { loading with now := 5000000 }
     EscalatesFirst s .handlerTimeout ∧ s.motion.order = some (order1 .load .pass) ∧ s.pass.state = .loading ∧ s.pass.tile = none
       ∧ s.pass.handedOver = 0 ∧ s.pass.plate = .notLoaded ∧ s.motion.stop = none)
    ∧ (∀ k ∈ [FaultKind.positionerHalt, .moveTimeout], let s := letHalt k movingLate
       EscalatesFirst s k ∧ s.motion.order = some { order1 .move .pass with retried := true } ∧ s.pass.state = .walking
         ∧ s.pass.plate = .onTable ∧ s.ladder = none ∧ s.pass.tile = some (tile1 .moving) ∧ s.motion.stop = none) := by
  refine ⟨⟨(letHalt_escalates _ _ rfl rfl rfl).1, rfl, rfl, rfl, rfl, rfl, rfl⟩, fun k hk =>
    ⟨(letHalt_escalates _ _ rfl ?_ rfl).1, rfl, rfl, rfl, rfl, rfl, rfl⟩⟩
  cases k <;> rfl

/-- R44 to R46, R137: halted before the action, a tile's MOVE that times out twice leaves the plate, one STOP serving for both; the pass stays
HALTED and the job FAILED. -/
theorem test_moveTimeout_ahead :
    (nextOf .moveLimitExpiry (letHalt .moveTimeout { movingLate with pass.handedOver := 1 })).map
      (fun t => (t.pass.state, t.pass.plate, t.pass.mark, t.motion.sent.length,
        tellsHalted .moveTimeout .walking (some (0, 0)) t))
      = some (.halted, .left, some .failed, 1, true) := by decide +kernel

/-- R44, R138: a RETURN's timeout leaves the plate; a tile still handed over keeps the pass FINISHING. -/
theorem test_returnTimeout :
    (nextOf .handlerLimitExpiry { returning with now := 45000000, pass := { returning.pass with handedOver := 1 } }).map
      (fun t => (t.pass.state, t.pass.plate, t.pass.mark, t.faults.raised.map (·.kind)))
      = some (.finishing, .left, some .failed, [.handlerTimeout]) := by decide +kernel

/-- R138, R139: a LOAD's timeout ends the job FAILED, the position unsure. -/
theorem test_handlerLimit :
    (nextOf .handlerLimitExpiry { loading with now := 5000000, faults.jobMark := some .moveRetry }).map
      (fun t => (t.pass.state, t.motion.unsure, t.queue.history.map fun e => e.outcome)) = some (.idle, true, [.failed]) := by
  decide +kernel

/-- PREPARING with an order of the pass outstanding, at one of its steps. -/
def preparing (kind : OrderKind) (step : PassStep) : State :=
  { active .preparing with
    motion.order := some (order1 kind .pass)
    pass := { (active .preparing).pass with plate := .notLoaded, walkPos := 0, step := step, budget := ⟨.waiting, 60000, 0⟩, loadIssued := false } }

/-- OrdersWaitTheirTurnAndThePlateIsWatched: each clause. -/
theorem witness_OrdersWaitTheirTurnAndThePlateIsWatched :
    (loading.motion.order ≠ none ∧ { cfg with motion.stop := some ⟨0, 5, 0, false⟩ }.motion.stop ≠ none)
      ∧ (let s : State := { cfg with motion.waiting := some ⟨.move, 1, 2, .pass⟩ }
         s.motion.order = none ∧ s.motion.stop = none ∧ s.motion.waiting = some ⟨.move, 1, 2, .pass⟩)
      ∧ (let s : State := { active .returning with pass.step := .waiting }
         s.motion.order = none ∧ s.motion.stop = none ∧ s.motion.waiting = none ∧ s.pass.state = .returning ∧ s.pass.step = .waiting)
      ∧ (AtHead 17 7#8 0#8 [] [] (asking cfg 17 []) ∧ AtHead 17 7#8 0#8 [] [] (asking (active .walking) 17 [])
          ∧ (active .walking).pass.job ≠ none ∧ cfg.pass.job = none ∧ cfg.cal.cal = none ∧ cfg.motion.homeRequest = false
          ∧ cfg.pass.state ≠ .halted ∧ { cfg with pass.state := .halted }.pass.state = .halted)
      ∧ cfg.motion.expect = .none
      ∧ (∀ (kind : OrderKind) (step : PassStep), let s := preparing kind step
         s.motion.rxBytes = [] ∧ s.motion.rxError = false ∧ s.motion.order = some (order1 kind .pass) ∧ (order1 kind .pass).number < 256
           ∧ s.motion.stop = none ∧ s.pass.job = some inHand1 ∧ s.pass.state = .preparing ∧ s.pass.step = step ∧ s.pass.mark = none
           ∧ s.platePresent = true ∧ s.pass.tile = none ∧ s.pass.handedOver = 0 ∧ s.pass.plate = .notLoaded
           ∧ { s with pass.mark := some .cancelled }.pass.mark ≠ none)
      ∧ (let s : State := { returning with motion.order := some (order1 .move .pass), pass.step := .moving }
         s.motion.order = some (order1 .move .pass) ∧ s.pass.state = .returning ∧ s.pass.step = .moving ∧ s.pass.job = some inHand1
           ∧ s.motion.stop = none)
      ∧ (let s : State := { active .walking with motion.expect := .present, pass.handedOver := 1 }
         s.platePresent = true ∧ s.motion.expect = .present ∧ s.pass.job = some inHand1 ∧ s.pass.tile = none ∧ s.ladder = none
           ∧ s.pass.state = .walking ∧ s.pass.plate = .onTable ∧ 1 ≤ s.pass.handedOver ∧ s.motion.stop = none) := by
  refine ⟨⟨?_, ?_⟩, ⟨rfl, rfl, rfl⟩, ⟨rfl, rfl, rfl, rfl, rfl⟩,
    ⟨asking_atHead _ _ _ (by decide) (by decide), asking_atHead _ _ _ (by decide) (by decide), ?_, rfl, rfl, rfl, by decide, rfl⟩, rfl,
    (fun k step => ⟨rfl, rfl, rfl, by simp [order1], rfl, rfl, rfl, rfl, rfl, rfl, rfl, rfl, rfl, by simp⟩), ⟨rfl, rfl, rfl, rfl, rfl⟩,
    rfl, rfl, rfl, rfl, rfl, rfl, rfl, by decide, rfl⟩ <;> (intro h; cases h)

/-- OrdersWaitTheirTurnAndThePlateIsWatched, TABLE_OCCUPIED after HOME and PLATE_SENSE at the line's fall let halt the pass before it acts. -/
theorem witness_OrdersWait_ahead :
    (let s := letHalt .tableOccupied (preparing .home .homing)
     EscalatesFirst s .tableOccupied ∧ s.pass.state = .preparing ∧ s.pass.step = .homing ∧ s.pass.mark = none ∧ s.platePresent = true
       ∧ s.pass.tile = none ∧ s.pass.plate = .notLoaded ∧ s.motion.stop = none)
    ∧ (∀ p ∈ [PassState.walking, .paused, .returning],
       let s := letHalt .plateSense { active p with motion.expect := .present, pass.handedOver := 1 }
       EscalatesFirst s .plateSense ∧ s.platePresent = true ∧ s.motion.expect = .present ∧ s.pass.job = some inHand1 ∧ s.pass.tile = none
         ∧ s.ladder = none ∧ s.pass.state = p ∧ s.pass.plate = .onTable ∧ 1 ≤ s.pass.handedOver ∧ s.motion.stop = none) :=
  ⟨⟨(letHalt_escalates _ _ rfl rfl rfl).1, rfl, rfl, rfl, rfl, rfl, rfl, rfl⟩,
    fun _ _ => ⟨(letHalt_escalates _ _ rfl rfl rfl).1, rfl, rfl, rfl, rfl, rfl, rfl, rfl, Nat.le_refl 1, rfl⟩⟩

/-- R143, R46, R177: either order of PLATE_SENSE's action and its halt leaves HALTED with the plate LEFT and the job FAILED; HALTED says
WALKING where the halt came first and FINISHING where the action did. -/
theorem test_plateFall_eitherOrder :
    let s : State := { active .walking with motion.expect := .present, pass.handedOver := 1, platePresent := false }
    (nextOf (.platePresentChange false) (letHalt .plateSense { s with platePresent := true })).map
        (fun t => (t.pass.state, t.pass.plate, t.pass.mark, tellsHalted .plateSense .walking none t))
        = some (.halted, .left, some .failed, true)
      ∧ (nextOf .haltEscalation (takeRaised 0 (plateSense s))).map
        (fun t => (t.pass.state, t.pass.plate, t.pass.mark, tellsHalted .plateSense .finishing none t))
        = some (.halted, .left, some .failed, true) := by decide +kernel

/-- In the states of the witnesses above nothing is let come before an action, as the clauses that say so ask. -/
theorem witness_nothingAhead :
    ready.faults.ahead = [] ∧ (∀ o, (pausedZones o).faults.ahead = []) ∧ (∀ p, (active p).faults.ahead = [])
      ∧ (∀ p, (expiring p).faults.ahead = []) ∧ (∀ l, (expiringLadder l).faults.ahead = []) ∧ due1.faults.ahead = []
      ∧ (∀ r l, (lastMerge r l).faults.ahead = []) ∧ loading.faults.ahead = [] ∧ returning.faults.ahead = []
      ∧ movingLate.faults.ahead = [] ∧ (∀ kind step, (preparing kind step).faults.ahead = []) ∧ exposing.faults.ahead = []
      ∧ (∀ d, (receiving d).faults.ahead = []) ∧ ∀ s, (twoBanks s).faults = s.faults :=
  ⟨rfl, fun _ => rfl, fun _ => rfl, fun _ => rfl, fun _ => rfl, rfl, fun _ _ => rfl, rfl, rfl, rfl, fun _ _ => rfl, rfl, fun _ => rfl,
    fun _ => rfl⟩

/-- R26, R36, R166: the MOVE to the load point done, LOAD is issued with the job's slot, the budget runs and the histogram is the job's. -/
theorem test_loadIssued :
    (nextOf (.motionReport (reportBytes 17 0)) (preparing .move .moving)).map
      (fun t => (t.pass.loadIssued, t.pass.budget.state, t.stats.histState, t.motion.order.map fun o => (o.kind, o.arg1)))
      = some (true, .running, .opened, some (.load, 1)) := by decide +kernel

/-- R33, R36, R142: at the load point again, RETURN is issued, the budget STOPPED and nothing expected of the line. -/
theorem test_returnIssued :
    (nextOf (.motionReport (reportBytes 17 0))
        { returning with motion.order := some (order1 .move .pass), motion.expect := .present, pass.step := .moving }).map
      (fun t => (t.pass.budget.state, t.motion.expect, t.motion.order.map fun o => (o.kind, o.arg1)))
      = some (.stopped, .none, some (.ret, 1)) := by decide +kernel

/-- R141: HOME is taken and issued. -/
theorem test_home :
    (nextOf .home (asking cfg 17 [])).map (fun t => (t.motion.order.map fun o => (o.kind, o.requester), t.motion.sent))
      = some (some (.home, .homeRequest), [[197#8, 2#8, 0#8, 0#8, 0#8, 0#8, 0#8, 0#8, 0#8, 2#8]]) := by decide

/-- ZoneTableEditsAndAnswers: an entry taken, with x1 one past x0; each field that refuses; one entry cleared, all, and neither. -/
theorem witness_ZoneTableEditsAndAnswers :
    (∀ index enabled kind classes : Byte, ∀ x1 ∈ [5, 6],
        AtHead 19 7#8 0#8
          (index :: enabled :: kind :: (leBytes 4 5 ++ leBytes 4 0 ++ leBytes 4 x1 ++ leBytes 4 400000 ++ [classes])) []
          (asking cfg 19 (index :: enabled :: kind :: (leBytes 4 5 ++ leBytes 4 0 ++ leBytes 4 x1 ++ leBytes 4 400000 ++ [classes]))))
      ∧ cfg.zones.length = 8
      ∧ (∀ index : Byte, AtHead 20 7#8 0#8 [index] [] (asking cfg 20 [index]))
      ∧ ((7#8 : Byte).toNat ≤ 7 ∧ 7 < (8#8 : Byte).toNat ∧ (8#8 : Byte) ≠ 255#8 ∧ (254#8 : Byte) ≠ 255#8) := by
  refine ⟨?_, rfl, fun i => asking_atHead _ _ _ (by simp) (by decide), by decide⟩
  intro a b c d x1 _
  exact asking_atHead _ _ _ (by simp [leBytes]) (by decide)

/-- R147: an entry with x1 equal to x0 is refused at index 6; one that holds is kept with its hits 0. -/
theorem test_setZone :
    (nextOf .setZone (asking cfg 19 ([1#8, 1#8, 1#8] ++ leBytes 4 5 ++ leBytes 4 0 ++ leBytes 4 5 ++ leBytes 4 9 ++ [255#8]))).map
        (fun t => (t.zones.getD 1 none, t.link.replies)) = some (none, [⟨32787, 7#8, .refused .badField 6 .empty⟩])
      ∧ (nextOf .setZone (asking cfg 19 ([1#8, 1#8, 1#8] ++ leBytes 4 5 ++ leBytes 4 0 ++ leBytes 4 6 ++ leBytes 4 9 ++ [255#8]))).map
        (fun t => t.zones.getD 1 none) = some (some ⟨true, .guard, 5, 0, 6, 9, 255#8, 0⟩) := by decide +kernel

/-! ### Witnesses: chapters 9 and 10 -/

/-- RecordWritingKeepsTheLog: unread 0, 127 and 256, the last across a wrap of the sequence; a ring of 256 records; 32 notices queued. -/
theorem witness_RecordWritingKeepsTheLog :
    (let s : State := { cfg with out.records := List.replicate 256 record97, out.newest := 200, out.readMark := 4294967240
                                 link.notices := List.replicate 32 notice1 }
     s.out.records.length ≤ 256 ∧ 32 ≤ s.link.notices.length ∧ s.stats.counters.length = 16
       ∧ (∀ k ∈ s.stats.counters, k.value ≤ 4294967295)
       ∧ ((256 : Nat) : Int) = ((200 : Nat) - (4294967240 : Nat) : Int) % 4294967296)
    ∧ ((127 : Nat) : Int) = ((1000 : Nat) - (873 : Nat) : Int) % 4294967296
    ∧ ((0 : Nat) : Int) = ((cfg.out.newest : Int) - cfg.out.readMark) % 4294967296 := by
  refine ⟨⟨?_, ?_, rfl, (by decide : ∀ k ∈ resetStats.counters, k.value ≤ 4294967295), by decide⟩, by decide, by decide⟩
  · exact Nat.le_of_eq List.length_replicate
  · exact Nat.le_of_eq List.length_replicate.symm

def held1 : TileRecord := { record97 with sequence := 1 }

/-- RecordsAndTilesLeaveThePart: a sequence held and one not; NEXT with one unread and with none; a READY buffer; a SENDING one at its header, a
row and its end; a link not CONFIGURED. -/
theorem witness_RecordsAndTilesLeaveThePart :
    (∀ n ∈ [0, 1], n < 4294967296 ∧ AtHead 22 7#8 0#8 (0#8 :: leBytes 4 n) [] (asking cfg 22 (0#8 :: leBytes 4 n)))
    ∧ (let s : State := { cfg with out.records := [held1], out.newest := 1 }
       s.out.records = [] ++ held1 :: [] ∧ held1.sequence = 1 ∧ (∀ q ∈ s.out.records, q.sequence ≠ 0) ∧ s.out.newest ≠ s.out.readMark
         ∧ 1 = (s.out.readMark + 1) % 4294967296)
    ∧ (AtHead 22 7#8 0#8 [1#8] [] (asking cfg 22 [1#8]) ∧ cfg.out.newest = cfg.out.readMark)
    ∧ (let s : State := { cfg with out.t2 := some (buf1 .ready (some 0)), out.lastStamp := 0 }
       s.link.state = .configured ∧ (∀ k c, s.buf k = some c → c.state ≠ .sending) ∧ s.buf .t2 = some (buf1 .ready (some 0)))
    ∧ (let b : Buf := { buf1 .sending (some 0) with rows := [[]] }
       let s : State := { cfg with out.t1 := some b }
       s.buf .t1 = some b ∧ b.state = .sending ∧ (∀ k c, k ≠ .t1 → s.buf k = some c → c.state ≠ .sending) ∧ b.headerTaken = false
         ∧ { b with headerTaken := true }.rowsTaken < b.rows.length
         ∧ b.rows.length ≤ { b with headerTaken := true, rowsTaken := 1 }.rowsTaken)
    ∧ State.reset.link.state ≠ .configured := by
  refine ⟨?_, by decide, ⟨asking_atHead _ _ _ (by decide) (by decide), rfl⟩, ⟨rfl, ?_, rfl⟩, ⟨rfl, rfl, ?_, rfl, by decide, by decide⟩,
    by decide⟩
  · intro n hn
    refine ⟨?_, asking_atHead _ _ _ (by simp [leBytes]) (by decide)⟩
    simp at hn; omega
  · intro k c h; cases k <;> cases h <;> decide
  · intro k c hk h; cases k <;> first | exact absurd rfl hk | cases h

/-- R160: NEXT returns record 1 and moves the mark. -/
theorem test_readNext :
    (nextOf .readTileRecord (asking { cfg with out.records := [held1], out.newest := 1 } 22 [1#8])).map
      (fun t => (t.out.readMark, t.link.replies)) = some (1, [⟨32790, 7#8, .ok (.tileRecord (some held1) 1 1 0)⟩]) := by
  decide +kernel

/-- CountersSaturateFireAndClear: a counter one below 2^31 and one below its maximum; READ-COUNTERS with 0, 1, 2. -/
theorem witness_CountersSaturateFireAndClear :
    (let s : State := { cfg with
       stats.counters := (List.replicate 16 resetCounter).set 13 ⟨4294967294, .fired, .armed⟩, link.notices := List.replicate 30 notice1 }
     s.stats.counters.length = 16 ∧ s.counter .pixelsOver = ⟨4294967294, .fired, .armed⟩
       ∧ (s.counter .pixelsOver).value ≤ 4294967295)
    ∧ (∀ clear : Byte, AtHead 25 7#8 0#8 [clear] [] (asking cfg 25 [clear])) ∧ 1 < (2#8 : Byte).toNat :=
  ⟨by decide, fun c => asking_atHead _ _ _ (by simp) (by decide), by decide⟩

/-! ### Witnesses: chapter 11 and the reads -/

def raised1 : Raised := ⟨.lampDrift, noCtx⟩

/-- FaultTakenRecordsByMaskAndSeverity: a fault raised, its kind masked and unmasked, its count at 255, 32 notices queued. -/
theorem witness_FaultTakenRecordsByMaskAndSeverity :
    (let s : State := { cfg with faults.raised := [raised1], link.notices := List.replicate 32 notice1 }
     s.faults.raised[0]? = some raised1 ∧ s.kind .lampDrift = ⟨false, 0, false, .corrected⟩ ∧ s.faults.kinds.length = 16
       ∧ s.params.notifyCorrected = false)
    ∧ (let s : State := { cfg with faults.kinds := cfg.faults.kinds.set 0 ⟨true, 255, true, .fatal⟩ }
       (s.kind .lampDrift).masked = true ∧ (s.kind .lampDrift).count = 255) := by decide

/-- FaultTakenRecordsByMaskAndSeverity, a number past the last fault raised: the fault it means is still to come (log 68). -/
theorem test_faultTaken_ahead :
    (nextOf (.faultTaken 1) { cfg with faults.raised := [raised1] }).map (fun t => (t.faults.raised, t.faults.ahead))
        = some ([raised1], [.recorded])
      ∧ (nextOf (.faultTaken 2) { cfg with faults.raised := [raised1] }).map (·.faults.ahead) = some [.no, .recorded]
      ∧ (nextOf (.faultTaken 0) { cfg with faults.ahead := [.halted] }).map (·.faults.ahead) = some [.halted] := by decide +kernel

/-- R178, R179: LAMP_DRIFT fills the CORRECTED slot and posts nothing by default. -/
theorem test_faultTaken :
    (nextOf (.faultTaken 0) { cfg with faults.raised := [raised1] }).map
      (fun t => (t.faults.corrected.map (·.kind), t.faults.serious, t.link.notices)) = some (some .lampDrift, none, []) := by
  decide +kernel

/-- FaultRequestsControlClearAndInject: kinds 0, 15, 16 and 255; mask and severity present and absent, in and out of range; the lock open and shut;
a masked kind, a FATAL one, and CORRECTED and DEGRADED ones. -/
theorem witness_FaultRequestsControlClearAndInject :
    cfg.faults.kinds.length = 16
      ∧ (∀ code m v : Byte, AtHead 26 7#8 0#8 [code, 1#8, m, 1#8, v] [] (asking cfg 26 [code, 1#8, m, 1#8, v])
          ∧ AtHead 26 7#8 0#8 [code, 0#8, 0#8] [] (asking cfg 26 [code, 0#8, 0#8])
          ∧ AtHead 27 7#8 0#8 [code] [] (asking cfg 27 [code]) ∧ AtHead 28 7#8 0#8 [code] [] (asking cfg 28 [code])
          ∧ AtHead 29 7#8 0#8 [] [] (asking cfg 29 []))
      ∧ (15 < (16#8 : Byte).toNat ∧ (16#8 : Byte) ≠ 255#8 ∧ allKinds[(15#8 : Byte).toNat]? = some .plateSense)
      ∧ (1 < (2#8 : Byte).toNat ∧ 2 < (3#8 : Byte).toNat ∧ (1#8 : Byte).toNat ≤ 1 ∧ (2#8 : Byte).toNat ≤ 2)
      ∧ (cfg.faults.locked = false ∧ { cfg with faults.locked := true }.faults.locked = true)
      ∧ ((cfg.kind .plateSense).masked = false ∧ (cfg.kind .plateSense).severity = .fatal)
      ∧ ((cfg.kind .lampDrift).masked = false ∧ (cfg.kind .lampDrift).severity = .corrected ∧ (cfg.kind .guardTile).severity = .degraded)
      ∧ ({ cfg with faults.kinds := cfg.faults.kinds.set 15 ⟨false, 0, true, .fatal⟩ }.kind .plateSense).masked = true := by
  refine ⟨rfl, fun code m v => ⟨?_, ?_, ?_, ?_, ?_⟩, by decide, by decide, ⟨rfl, rfl⟩, by decide, by decide, by decide⟩ <;>
    exact asking_atHead _ _ _ (by simp) (by decide)

/-- R185: an injected PLATE_SENSE is recorded and escalates, and carries out no kind action. -/
theorem test_inject :
    (nextOf .injectFault (asking cfg 28 [15#8])).map (fun t => (t.faults.escalations, t.pass.state, t.motion.stop))
      = some ([(.plateSense, true)], .idle, none) := by decide +kernel

/-- R179, R184: an injected LAMP_DRIFT, CORRECTED, fills the slot of its class, escalates nothing, and answers so. -/
theorem test_inject_corrected :
    (nextOf .injectFault (asking cfg 28 [0#8])).map
      (fun t => (t.faults.corrected.map fun f => (f.kind, f.ctx.injected), t.faults.escalations, t.link.replies))
      = some (some (.lampDrift, true), [], [⟨32796, 7#8, .ok (.injected true 1 .corrected .filled)⟩]) := by decide +kernel

/-- ReadsReturnWhatStands: a job number held and one not; the history likewise; each parameter code, and ALL. -/
theorem witness_ReadsReturnWhatStands :
    (∀ code ∈ [3, 4], ∀ body ∈ [[0#8], 1#8 :: leBytes 2 1, 1#8 :: leBytes 2 65535],
        AtHead code 7#8 0#8 body [] (asking ready code body))
      ∧ (ready.queue.jobs = [] ++ queued1 :: [] ∧ queued1.number = 1 ∧ ∀ q ∈ ready.queue.jobs, q.number ≠ 65535)
      ∧ (∀ code ∈ [10, 34, 35], AtHead code 7#8 0#8 [] [] (asking (active .walking) code []))
      ∧ (∀ name : Byte, AtHead 32 7#8 0#8 [name] [] (asking cfg 32 [name])) := by
  refine ⟨?_, by decide, fun code _ => asking_atHead _ _ _ (by decide) (by decide), fun n => asking_atHead _ _ _ (by simp) (by decide)⟩
  intro code _ body hb
  refine asking_atHead _ _ _ ?_ (by decide)
  simp [leBytes] at hb
  rcases hb with rfl | rfl | rfl <;> decide

/-- ReadsReturnWhatStands, the blocks' reads: each read at the head of the intake of a station at work; READ-INTAKE with its flag 0, 1 and 2. -/
theorem witness_ReadsReturnWhatStands_blocks :
    (∀ code ∈ [12, 14, 16, 18, 21, 23, 24, 30], AtHead code 7#8 0#8 [] [] (asking exposing code []))
      ∧ (∀ flag : Byte, AtHead 13 7#8 0#8 [flag] [] (asking exposing 13 [flag])) ∧ 1 < (2#8 : Byte).toNat :=
  ⟨fun _ _ => asking_atHead _ _ _ (by decide) (by decide), fun _ => asking_atHead _ _ _ (by simp) (by decide), by decide⟩

/-- R195, R200: READ-TIME's reply frame, byte by byte: kind 32,802, tag 7, flags 0, length 8, status OK, the count, TIME_RES and
the wrap count. -/
theorem test_replyFrame :
    replyFrame ⟨32802, 7#8, .ok (.time 9 16 2)⟩
      = [34#8, 128#8, 7#8, 0#8, 8#8, 0#8, 0#8, 9#8, 0#8, 0#8, 0#8, 16#8, 2#8, 0#8] := by decide

/-- R7, R120, R200: an ADJUSTED reply sends each clamped value in its field's size: max_extensions 1 byte and under_limit 2, after number 1,
position 1 and 15 tiles; CALIBRATE's E_flat 4 and n 1, before bank A, 20 µs, n 16, top rung 7 and no HOME first. -/
theorem test_replyFrame_clamps :
    contentBytes (.enqueued 1 1 15 [(15, 3), (16, 1000)]) = [1#8, 0#8, 1#8, 15#8, 0#8, 2#8, 15#8, 3#8, 16#8, 232#8, 3#8]
      ∧ contentBytes (.calibrating [(2, 20), (3, 16)] .a 20 16 7 false)
        = [2#8, 2#8, 20#8, 0#8, 0#8, 0#8, 3#8, 16#8] ++ [0#8, 20#8, 0#8, 0#8, 0#8, 16#8, 7#8, 0#8] := by decide

/-- R71, R80, R176, R200: LAMP-RESET's reply sends READY as 0 and a clear input as 1; SET-FAULT-CONTROL of one kind, left masked and FATAL,
sends its mask 0 and its severity 2 alone. -/
theorem test_replyFrame_codes :
    replyFrame ⟨32779, 7#8, .ok (.lamp .ready false)⟩ = [11#8, 128#8, 7#8, 0#8, 3#8, 0#8, 0#8, 0#8, 1#8]
      ∧ replyFrame ⟨32794, 7#8, .ok (.faultControl [(.noLight, true, .fatal)])⟩
        = [26#8, 128#8, 7#8, 0#8, 3#8, 0#8, 0#8, 0#8, 2#8] := by decide

/-- R84, R95, R150, R200: a FREE slot, plane and buffer have code 0; VALID, FULL and READY have 2. -/
theorem test_state_codes :
    (slotCode none, planeCode none, bufCode none) = ([0#8], [0#8], [0#8])
      ∧ (slotCode (some .valid), planeCode (some .full), bufCode (some .ready)) = ([2#8], [2#8], [2#8]) := by decide

/-- R134, R200: an outstanding order sends a MOVE's x and y in 4 bytes each, a LOAD's slot in 1, and nothing for HOME; then PASS, 5 s, the issue
time and retried no. -/
theorem test_orderField :
    orderField { order1 .move .pass with arg1 := 400000, arg2 := 1 }
        = [0#8, 0#8, 128#8, 26#8, 6#8, 0#8, 1#8, 0#8, 0#8, 0#8] ++ [0#8, 5#8, 0#8, 0#8, 0#8, 0#8, 0#8]
      ∧ orderField { order1 .load .pass with arg1 := 24 } = [2#8, 0#8, 24#8] ++ [0#8, 5#8, 0#8, 0#8, 0#8, 0#8, 0#8]
      ∧ orderField (order1 .home .pass) = [1#8, 0#8] ++ [0#8, 5#8, 0#8, 0#8, 0#8, 0#8, 0#8] := by decide

/-- R51, R154: the record of a tile on a bank of top rung 7 ends with it; that of a tile without a ladder marks it absent. -/
theorem test_recordTopRung :
    (tileRecordField (plainRecord inHand1 0 0 0 .notCaptured (some fields1.shown) 0 0)).drop 46 = [1#8, 7#8]
      ∧ (tileRecordField (plainRecord inHand1 0 0 0 .skipped none 0 0)).getLast? = some 0#8 := by decide

/-- R160, R200: a refused READ-TILE-RECORD carries the three figures alone; R20, R21, R51: an IDLE pass sends 28 bytes behind the
status, its absent fields one each. -/
theorem test_contentBytes :
    contentBytes (.tileRecord none 5 3 2) = [5#8, 0#8, 0#8, 0#8, 3#8, 0#8, 0#8, 0#8, 2#8, 0#8]
      ∧ ((readPass cfg).1 |> fun b => (replyBody b).length) = 29 := by decide

end Sys2Proof.Tests
end

section
/-! The travel check of a job (R5): one lemma for the line of targets along an axis, the check's three answers, and O19 from them. -/
namespace Sys2Proof.Machine
open Sys2Proof

/-- R5's reason for checking the last tile alone: along an axis the targets grow with the tile's index, so a bound on the last of the `n`
targets is a bound on each. -/
theorem forall_target_le_iff_last {n : Nat} (hn : 1 ≤ n) (origin stride half bound : Nat) :
    (∀ k < n, origin + k * stride + half ≤ bound) ↔ origin + (n - 1) * stride + half ≤ bound := by
  constructor
  · intro h
    exact h (n - 1) (by omega)
  · intro hlast k hk
    have hgrow : k * stride ≤ (n - 1) * stride := Nat.mul_le_mul_right stride (by omega)
    omega

namespace JobRecord

theorem forall_targetX_le_iff_lastX (r : JobRecord) (hcols : 1 ≤ r.cols) :
    (∀ j < r.cols, r.targetX j ≤ Config.travelMax) ↔ r.lastX ≤ Config.travelMax :=
  forall_target_le_iff_last hcols r.originX r.stepX (r.fieldX / 2) Config.travelMax

theorem forall_targetY_le_iff_lastY (r : JobRecord) (hrows : 1 ≤ r.rows) :
    (∀ i < r.rows, r.targetY i ≤ Config.travelMax) ↔ r.lastY ≤ Config.travelMax :=
  forall_target_le_iff_last hrows r.originY r.stepY (r.fieldY / 2) Config.travelMax

theorem outOfTravel_of_lastX (r : JobRecord) (hx : Config.travelMax < r.lastX) : r.outOfTravel = some (6, r.lastX) :=
  if_pos hx

theorem outOfTravel_of_lastY (r : JobRecord) (hx : r.lastX ≤ Config.travelMax) (hy : Config.travelMax < r.lastY) :
    r.outOfTravel = some (7, r.lastY) :=
  (if_neg (Nat.not_lt.mpr hx)).trans (if_pos hy)

theorem outOfTravel_eq_none_iff (r : JobRecord) :
    r.outOfTravel = none ↔ r.lastX ≤ Config.travelMax ∧ r.lastY ≤ Config.travelMax := by
  rcases Nat.lt_or_ge Config.travelMax r.lastX with hx | hx
  · simp [r.outOfTravel_of_lastX hx, hx]
  rcases Nat.lt_or_ge Config.travelMax r.lastY with hy | hy
  · simp [r.outOfTravel_of_lastY hx hy, hy]
  · simp [outOfTravel, Nat.not_lt.mpr hx, Nat.not_lt.mpr hy, hx, hy]

/-- R5 over the whole grid. The grid has a tile in it, so a bound on all its tiles bounds each axis by itself. -/
theorem outOfTravel_eq_none_iff_forall_target (r : JobRecord) (hrows : 1 ≤ r.rows) (hcols : 1 ≤ r.cols) :
    r.outOfTravel = none ↔
      ∀ i j, i < r.rows → j < r.cols → r.targetX j ≤ Config.travelMax ∧ r.targetY i ≤ Config.travelMax := by
  rw [outOfTravel_eq_none_iff, ← r.forall_targetX_le_iff_lastX hcols, ← r.forall_targetY_le_iff_lastY hrows]
  constructor
  · rintro ⟨hX, hY⟩ i j hi hj
    exact ⟨hX j hj, hY i hi⟩
  · intro h
    exact ⟨fun j hj => (h 0 j hrows hj).1, fun i hi => (h i 0 hi hcols).2⟩

end JobRecord

/-- Settles O19: the last target bounds all the targets of its axis, and the check looks at x first. -/
theorem travelCheckCoversEveryTarget : Obligations.TravelCheckCoversEveryTarget := by
  intro r hrows hcols
  refine ⟨r.outOfTravel_eq_none_iff_forall_target hrows hcols, ?failsOnX, ?failsOnY⟩
  case failsOnX =>
    rintro _ rfl hx
    exact r.outOfTravel_of_lastX hx
  case failsOnY =>
    rintro _ _ rfl rfl hx hy
    exact r.outOfTravel_of_lastY hx hy

end Sys2Proof.Machine
end

section
/-! The outcome of a pixel at a rung (R94): the signal, when each outcome is the one taken, and O39 from them. -/
namespace Sys2Proof.Machine
open Sys2Proof

/-- R94's signal in its two cases: the model's truncated subtraction is 0 below the black level. -/
theorem signal_eq_ite (p b : Nat) : signal p b = if b ≤ p then p - b else 0 := by
  split
  case isTrue => rfl
  case isFalse h => exact Nat.sub_eq_zero_of_le (Nat.le_of_not_le h)

theorem signal_eq_zero_of_le {p b : Nat} (h : p ≤ b) : signal p b = 0 :=
  Nat.sub_eq_zero_of_le h

theorem signal_le_of_lt {p c : Nat} (b : Nat) (h : p < c) : signal p b ≤ c - 1 - b :=
  Nat.sub_le_sub_right (Nat.le_sub_one_of_lt h) b

theorem pixelOutcome_of_clip {p c : Nat} (b l : Nat) (hclip : c ≤ p) : pixelOutcome p b c l = .clipped :=
  if_pos hclip

theorem pixelOutcome_of_under {p b c l : Nat} (hclip : p < c) (hfloor : signal p b < l) : pixelOutcome p b c l = .under :=
  (if_neg (Nat.not_le.mpr hclip)).trans (if_pos hfloor)

theorem pixelOutcome_of_valid {p b c l : Nat} (hclip : p < c) (hfloor : l ≤ signal p b) :
    pixelOutcome p b c l = .valid (signal p b) :=
  (if_neg (Nat.not_le.mpr hclip)).trans (if_neg (Nat.not_lt.mpr hfloor))

/-- A valid outcome comes from the last branch alone: the sample is below the clip level and the signal it carries reaches the floor. -/
theorem pixelOutcome_eq_valid_iff (p b c l sg : Nat) :
    pixelOutcome p b c l = .valid sg ↔ p < c ∧ l ≤ signal p b ∧ signal p b = sg := by
  rcases Nat.lt_or_ge p c with hclip | hclip
  · rcases Nat.lt_or_ge (signal p b) l with hfloor | hfloor
    · simp [pixelOutcome_of_under hclip hfloor, Nat.not_le.mpr hfloor]
    · simp [pixelOutcome_of_valid hclip hfloor, hclip, hfloor]
  · simp [pixelOutcome_of_clip b l hclip, Nat.not_lt.mpr hclip]

/-- R94's range of a valid signal: the floor bounds it from below, the clip level less the black level from above. -/
theorem valid_signal_mem_range {p b c l sg : Nat} (h : pixelOutcome p b c l = .valid sg) : l ≤ sg ∧ sg ≤ c - 1 - b := by
  obtain ⟨hclip, hfloor, rfl⟩ := (pixelOutcome_eq_valid_iff p b c l sg).mp h
  exact ⟨hfloor, signal_le_of_lt b hclip⟩

/-- Settles O39: one lemma per branch of R94's chain, and the valid signal's range from the branch that yields it. -/
theorem pixelOutcomeIsTheFirstThatHolds : Obligations.PixelOutcomeIsTheFirstThatHolds := by
  intro p b c l
  refine ⟨signal_eq_ite p b, pixelOutcome_of_clip b l, pixelOutcome_of_under, pixelOutcome_of_valid, ?validRange, ?atBlack⟩
  case validRange =>
    intro sg hl hc hvalid
    obtain ⟨hlow, hhigh⟩ := valid_signal_mem_range hvalid
    exact ⟨hlow, hhigh, by omega, by omega⟩
  case atBlack =>
    intro hl hblack hclip
    have hfloor : signal p b < l := signal_eq_zero_of_le hblack ▸ hl
    exact pixelOutcome_of_under hclip hfloor

end Sys2Proof.Machine
end

section
/-! The converter's logarithm (R107): the table's entry beside the powers that say it is the nearest integer, the rise of the table that follows
from them, and O43 from both. -/
namespace Sys2Proof.Machine
open Sys2Proof

/-- R107's nearest integer said by powers: 2 c - 1 < 512 × log2(1 + m / 256) < 2 c + 1. -/
abbrev IsNearestLog (m c : Nat) : Prop :=
  2 ^ (2 * c) * 256 ^ 512 < 2 * (256 + m) ^ 512 ∧ (256 + m) ^ 512 < 2 ^ (2 * c + 1) * 256 ^ 512

/-- The table is data, so its 256 entries are checked one by one. -/
theorem logTable_isNearestLog : ∀ m < 256, IsNearestLog m (logTable.getD m 0) := by decide +kernel

theorem logTable_zero : logTable.getD 0 0 = 0 := rfl

theorem logTable_last : logTable.getD 255 0 = 255 := rfl

/-- If 512 × log2 grows from m to m' by less than e, the nearest integers stand less than e / 2 + 1 apart. -/
theorem IsNearestLog.two_mul_lt {m m' c c' e : Nat} (h : IsNearestLog m c) (h' : IsNearestLog m' c')
    (hgrow : (256 + m') ^ 512 ≤ 2 ^ e * (256 + m) ^ 512) : 2 * c' < 2 * c + e + 2 := by
  obtain ⟨-, hupper⟩ := h
  obtain ⟨hlower', -⟩ := h'
  have hpow : 2 ^ (2 * c') * 256 ^ 512 < 2 ^ (2 * c + e + 2) * 256 ^ 512 :=
    calc 2 ^ (2 * c') * 256 ^ 512
      _ < 2 * (256 + m') ^ 512 := hlower'
      _ ≤ 2 * (2 ^ e * (256 + m) ^ 512) := Nat.mul_le_mul_left 2 hgrow
      _ ≤ 2 * (2 ^ e * (2 ^ (2 * c + 1) * 256 ^ 512)) :=
        Nat.mul_le_mul_left 2 (Nat.mul_le_mul_left _ hupper.le)
      _ = 2 ^ (2 * c + e + 2) * 256 ^ 512 := by
        generalize 256 ^ 512 = scale
        ring
  exact (Nat.pow_lt_pow_iff_right Nat.one_lt_two).mp (Nat.lt_of_mul_lt_mul_right hpow)

theorem IsNearestLog.mono {m m' c c' : Nat} (h : IsNearestLog m c) (h' : IsNearestLog m' c') (hm : m' ≤ m) : c' ≤ c := by
  have hgrow : (256 + m') ^ 512 ≤ 2 ^ 0 * (256 + m) ^ 512 := by
    rw [pow_zero, one_mul]
    gcongr
  have hapart := h.two_mul_lt h' hgrow
  omega

/-- If b / a is at most p / q, the n-th power grows from a to b by no more than from q to p. -/
theorem pow_le_mul_pow_of_ratio_le {a b p q n f : Nat} (hq : 0 < q) (hratio : q * b ≤ p * a) (hf : p ^ n ≤ f * q ^ n) :
    b ^ n ≤ f * a ^ n := by
  refine Nat.le_of_mul_le_mul_left ?_ (Nat.pow_pos hq : 0 < q ^ n)
  calc q ^ n * b ^ n
    _ = (q * b) ^ n := (Nat.mul_pow ..).symm
    _ ≤ (p * a) ^ n := Nat.pow_le_pow_left hratio n
    _ = p ^ n * a ^ n := Nat.mul_pow ..
    _ ≤ f * q ^ n * a ^ n := Nat.mul_le_mul_right _ hf
    _ = q ^ n * (f * a ^ n) := by ring

/-- One step of m multiplies 1 + m / 256 by 257 / 256 at the most, and 512 × log2(257 / 256) is below 3. -/
theorem pow_succ_le_eight_mul_pow (m : Nat) : (256 + (m + 1)) ^ 512 ≤ 2 ^ 3 * (256 + m) ^ 512 := by
  have hlog : 257 ^ 512 ≤ 2 ^ 3 * 256 ^ 512 := by decide +kernel
  exact pow_le_mul_pow_of_ratio_le (by decide) (by omega) hlog

theorem IsNearestLog.succ_le_add_two {m c c' : Nat} (h : IsNearestLog m c) (h' : IsNearestLog (m + 1) c') : c' ≤ c + 2 := by
  have hapart := h.two_mul_lt h' (pow_succ_le_eight_mul_pow m)
  omega

theorem logTable_le {m : Nat} (hm : m < 256) : logTable.getD m 0 ≤ 255 :=
  (logTable_isNearestLog 255 (by decide)).mono (logTable_isNearestLog m hm) (Nat.le_of_lt_succ hm)

theorem logTable_succ {m : Nat} (hm : m < 255) :
    logTable.getD m 0 ≤ logTable.getD (m + 1) 0 ∧ logTable.getD (m + 1) 0 ≤ logTable.getD m 0 + 2 := by
  have here := logTable_isNearestLog m (by omega)
  have next := logTable_isNearestLog (m + 1) (by omega)
  exact ⟨next.mono here m.le_succ, here.succ_le_add_two next⟩

/-- R107's m, the eight bits of x below its leading one. -/
theorem mantissa_lt {x k : Nat} (hx : x < 2 ^ (k + 1)) : (x - 2 ^ k) * 256 / 2 ^ k < 256 := by
  rw [Nat.pow_succ] at hx
  exact Nat.div_lt_of_lt_mul (Nat.mul_lt_mul_of_pos_right (by omega) (by decide))

/-- L over the octave of leading one k. -/
theorem logUnits_of_octave {x k : Nat} (hlow : 2 ^ k ≤ x) (hhigh : x < 2 ^ (k + 1)) :
    logUnits x = 256 * k + logTable.getD ((x - 2 ^ k) * 256 / 2 ^ k) 0 := by
  have hne : x ≠ 0 := (Nat.two_pow_pos k |>.trans_le hlow).ne'
  have hlog : x.log2 = k := (Nat.log2_eq_iff hne).mpr ⟨hlow, hhigh⟩
  rw [logUnits, hlog]

theorem logUnits_two_pow (k : Nat) : logUnits (2 ^ k) = 256 * k := by
  rw [logUnits_of_octave le_rfl (Nat.pow_lt_pow_succ Nat.one_lt_two), Nat.sub_self, Nat.zero_mul, Nat.zero_div, logTable_zero, Nat.add_zero]

theorem logUnits_lt_of_lt_two_pow {x n : Nat} (hpos : 1 ≤ x) (hx : x < 2 ^ n) : logUnits x < 256 * n := by
  have hne : x ≠ 0 := Nat.ne_of_gt hpos
  have hoctave : x.log2 < n := (Nat.log2_lt hne).mpr hx
  have hentry := logTable_le (mantissa_lt (Nat.lt_log2_self (n := x)))
  rw [logUnits_of_octave (Nat.log2_self_le hne) Nat.lt_log2_self]
  omega

/-- Settles O43: the entry of each m is the nearest integer, its rise follows from that, and L puts it under the leading one. -/
theorem logarithmIsTheNearestInteger : Obligations.LogarithmIsTheNearestInteger := by
  refine ⟨?nearest, ⟨logTable_zero, logTable_last, fun _ => logTable_succ⟩, logUnits_two_pow, ?bound, logUnits_two_pow 0, by decide +kernel⟩
  case nearest =>
    rintro x k m hlow hhigh rfl
    have hm := mantissa_lt hhigh
    exact ⟨Nat.le_of_lt_succ hm, _, logUnits_of_octave hlow hhigh, rfl, logTable_isNearestLog _ hm⟩
  case bound =>
    intro x hpos hx
    exact Nat.le_of_lt_succ (logUnits_lt_of_lt_two_pow (n := 19) hpos hx)

end Sys2Proof.Machine
end

section
/-! What every operation keeps (R8, R9, R72, R162, R190; 00, "Capacities"): the bounds block by block, the relation `Keeps` between the state
before an operation and the state after it, and its rule for each operation that writes a bounded field. -/
namespace Sys2Proof.Machine
open Sys2Proof

/-! ### The bounds, block by block -/

def PlateQueue.Bounded (q : PlateQueue) : Prop := q.jobs.length ≤ 16 ∧ q.history.length ≤ 8

def Lamps.Bounded (l : Lamps) : Prop := l.a.failures ≤ 255 ∧ l.b.failures ≤ 255

/-- The lines that a frame slot or the last frame record counts. -/
def Intake.Bounded (i : Intake) : Prop :=
  (∀ d ∈ i.s1, d.lines ≤ 65535) ∧ (∀ d ∈ i.s2, d.lines ≤ 65535) ∧ (∀ f ∈ i.last, f.lines ≤ 65535) ∧ i.discarded ≤ 65535

def Plane.Bounded (p : Plane) : Prop := ∀ n ∈ p.stamp, n ≤ 4294967295

def Merge.Bounded (m : Merge) : Prop := (∀ p ∈ m.p1, p.Bounded) ∧ (∀ p ∈ m.p2, p.Bounded) ∧ m.lastStamp ≤ 4294967295

def Conversion.Bounded (c : Conversion) : Prop := c.figures.bins.length = 41 ∧ ∀ n ∈ c.lastCode, n ≤ 4095

def Flat.Bounded (f : Flat) : Prop := ∀ d ∈ f.data, d.record.age ≤ 65535

def CalStore.Bounded (c : CalStore) : Prop := c.flatA.Bounded ∧ c.flatB.Bounded

def Motion.Bounded (m : Motion) : Prop := m.nextNumber < 256 ∧ m.discarded ≤ 65535

def ZonesBounded (zones : List (Option Zone)) : Prop := zones.length = 8 ∧ ∀ z, some z ∈ zones → z.hits ≤ 65535

def Buf.Bounded (b : Buf) : Prop := ∀ n ∈ b.stamp, n ≤ 4294967295

def Output.Bounded (o : Output) : Prop :=
  ((∀ b ∈ o.t1, b.Bounded) ∧ (∀ b ∈ o.t2, b.Bounded) ∧ (∀ b ∈ o.t3, b.Bounded) ∧ (∀ b ∈ o.t4, b.Bounded))
    ∧ o.lastStamp ≤ 4294967295 ∧ o.records.length ≤ 256 ∧ (∀ r ∈ o.records, r.sequence ≤ 4294967295)
    ∧ o.newest ≤ 4294967295 ∧ o.readMark ≤ 4294967295

def Stats.Bounded (st : Stats) : Prop :=
  (st.counters.length = 16 ∧ ∀ c ∈ st.counters, c.value ≤ 4294967295) ∧ (st.bins.length = 41 ∧ ∀ n ∈ st.bins, n ≤ 4294967295)
    ∧ st.nOver ≤ 4294967295 ∧ st.nUnder ≤ 4294967295 ∧ st.nDefect ≤ 4294967295

def Faults.Bounded (f : Faults) : Prop := f.kinds.length = 16 ∧ ∀ k ∈ f.kinds, k.count ≤ 255

def TimeBase.Bounded (t : TimeBase) : Prop := t.wraps ≤ 65535 ∧ t.count ≤ 4294967295

/-- `StoresOk` and `CountsOk`, block by block. -/
structure Bounded (s : State) : Prop where
  queue : s.queue.Bounded
  lamps : s.lamps.Bounded
  intake : s.intake.Bounded
  merge : s.merge.Bounded
  conv : ∀ c ∈ s.conv, c.Bounded
  cal : s.cal.Bounded
  motion : s.motion.Bounded
  zones : ZonesBounded s.zones
  out : s.out.Bounded
  stats : s.stats.Bounded
  faults : s.faults.Bounded
  time : s.time.Bounded

theorem forall_bank {p : BankId → Prop} : (∀ i, p i) ↔ p .a ∧ p .b :=
  ⟨fun h => ⟨h _, h _⟩, fun ⟨ha, hb⟩ i => by cases i <;> assumption⟩
theorem forall_slot {p : SlotId → Prop} : (∀ i, p i) ↔ p .s1 ∧ p .s2 :=
  ⟨fun h => ⟨h _, h _⟩, fun ⟨h1, h2⟩ i => by cases i <;> assumption⟩
theorem forall_plane {p : PlaneId → Prop} : (∀ i, p i) ↔ p .p1 ∧ p .p2 :=
  ⟨fun h => ⟨h _, h _⟩, fun ⟨h1, h2⟩ i => by cases i <;> assumption⟩
theorem forall_buf {p : BufId → Prop} : (∀ i, p i) ↔ p .t1 ∧ p .t2 ∧ p .t3 ∧ p .t4 :=
  ⟨fun h => ⟨h _, h _, h _, h _⟩, fun ⟨h1, h2, h3, h4⟩ i => by cases i <;> assumption⟩

theorem State.flatRecord_age (s : State) (i : BankId) :
    (∀ r, s.flatRecord i = some r → r.age ≤ 65535) ↔ (s.flat i).Bounded := by
  simp [State.flatRecord, Flat.Bounded]

theorem State.plane_stamp (s : State) (i : PlaneId) :
    (∀ p n, s.plane i = some p → p.stamp = some n → n ≤ 4294967295) ↔ ∀ p ∈ s.plane i, p.Bounded :=
  ⟨fun h p hp n hn => h p n hp hn, fun h p n hp hn => h p hp n hn⟩

theorem State.buf_stamp (s : State) (i : BufId) :
    (∀ d n, s.buf i = some d → d.stamp = some n → n ≤ 4294967295) ↔ ∀ d ∈ s.buf i, d.Bounded :=
  ⟨fun h d hd n hn => h d n hd hn, fun h d n hd hn => h d hd n hn⟩

theorem bounded_iff (s : State) : Bounded s ↔ StoresOk s ∧ CountsOk s := by
  simp only [StoresOk, CountsOk, SaturatingCountsOk, WrappingNumbersOk, State.flatRecord_age, State.plane_stamp, State.buf_stamp,
    forall_bank, forall_slot, forall_plane, forall_buf]
  constructor
  · rintro ⟨hq, hl, hi, hm, hc, hcal, hmo, hz, ho, hst, hf, ht⟩
    obtain ⟨hs1, hs2, hlast, hdisc⟩ := hi
    obtain ⟨hp1, hp2, hfull⟩ := hm
    obtain ⟨hbufs, hend, hrec, hseq, hnew, hmark⟩ := ho
    obtain ⟨⟨hcounters, hvalues⟩, ⟨hbins, hbin⟩, hclasses⟩ := hst
    exact ⟨⟨hq.1, hq.2, hrec, hz.1, hf.1, hcounters, hbins, hc⟩,
      ⟨hvalues, hbin, hclasses, hf.2, hl, hdisc, hmo.2, ⟨hs1, hs2⟩, hlast, hcal, hz.2, ht.1⟩,
      hmo.1, ht.2, hnew, hmark, hseq, hfull, ⟨hp1, hp2⟩, hend, hbufs⟩
  · rintro ⟨⟨hjobs, hhist, hrec, hz, hk, hcounters, hbins, hconv⟩,
      ⟨hvalues, hbin, hclasses, hkc, hl, hdisc, hmd, hs, hlast, hcal, hhits, hwr⟩,
      hnn, htc, hnew, hmark, hseq, hfull, hp, hend, hbufs⟩
    exact ⟨⟨hjobs, hhist⟩, hl, ⟨hs.1, hs.2, hlast, hdisc⟩, ⟨hp.1, hp.2, hfull⟩, hconv, hcal, ⟨hnn, hmd⟩, ⟨hz, hhits⟩,
      ⟨hbufs, hend, hrec, hseq, hnew, hmark⟩, ⟨⟨hcounters, hvalues⟩, ⟨hbins, hbin⟩, hclasses⟩, ⟨hk, hkc⟩, hwr, htc⟩

/-! ### What an operation keeps -/

/-- What an operation of the part keeps: of the request link it touches the notices alone, and those within their 32 places; at most one
bank is lit, under its record; every store and count stays in its bounds; the queue's jobs stay apart. -/
structure Keeps (s t : State) : Prop where
  link : t.link = { s.link with notices := t.link.notices, dropped := t.link.dropped }
  notices : s.link.notices.length ≤ 32 → t.link.notices.length ≤ 32
  lamps : LampsOk s → LampsOk t
  bounds : Bounded s → Bounded t
  jobs : JobsOk s → JobsOk t

protected theorem Keeps.refl (s : State) : Keeps s s := ⟨rfl, id, id, id, id⟩

theorem Keeps.trans {r s t : State} (h : Keeps r s) (k : Keeps s t) : Keeps r t :=
  ⟨by rw [k.link, h.link], k.notices ∘ h.notices, k.lamps ∘ h.lamps, k.bounds ∘ h.bounds, k.jobs ∘ h.jobs⟩

theorem Keeps.linkOk {s t : State} (h : Keeps s t) (hs : LinkOk s) : LinkOk t := by
  obtain ⟨hin, hre, hno⟩ := hs
  refine ⟨?_, ?_, h.notices hno⟩ <;> rw [h.link] <;> assumption

section Rules
variable {r s : State}

/-- The fields in which no bound stands: whatever is written there, all bounds are kept. -/
theorem Keeps.unbounded {run : RunState} {pass : Pass} {ladder : Option Ladder} {line : Option Nat} {rx : LinkRx} {valid : List SlotId}
    {cal : Option Calibration} {staleSet raisedSet : BankSet} {order : Option Order} {stop : Option StopOrder} {unsure : Bool}
    {position : Option (Nat × Nat)} {expect : Expectation} {last : Option LastReport} {homeRequest : Bool} {waiting : Option Wanted}
    {rxBytes : List Byte} {rxError : Bool} {sent : List (List Byte)} {histState : HistState} {histJob : Option (Nat × List Byte)}
    {tilesAdded lastCleared : Nat} {corrected serious : Option FaultSlot} {locked : Bool} {jobMark : Option FaultKind} {raised : List Raised}
    {escalations : List (FaultKind × Bool)} {ahead : List Ahead} {params : Params} {elapsed : Nat} {platePresent : Bool} {now drawn : Nat}
    {pending : List Instr} (h : Keeps r s) :
    Keeps r { s with
      queue.run := run, pass := pass, ladder := ladder, lamps.line := line, intake.rx := rx, intake.validOrder := valid, cal.cal := cal
      cal.staleSet := staleSet, cal.raisedSet := raisedSet, motion.order := order, motion.stop := stop, motion.unsure := unsure
      motion.position := position, motion.expect := expect, motion.last := last, motion.homeRequest := homeRequest
      motion.waiting := waiting, motion.rxBytes := rxBytes, motion.rxError := rxError, motion.sent := sent
      stats.histState := histState, stats.histJob := histJob, stats.tilesAdded := tilesAdded, stats.lastCleared := lastCleared
      faults.corrected := corrected, faults.serious := serious, faults.locked := locked, faults.jobMark := jobMark
      faults.raised := raised, faults.escalations := escalations, faults.ahead := ahead, params := params, time.elapsed := elapsed
      platePresent := platePresent, now := now, drawn := drawn, pending := pending } :=
  h.trans ⟨rfl, id, id, fun b => ⟨b.queue, b.lamps, b.intake, b.merge, b.conv, b.cal, b.motion, b.zones, b.out, b.stats, b.faults, b.time⟩, id⟩

end Rules

end Sys2Proof.Machine
end

section
/-! The rules of `Keeps` for the operations that write a bounded field, in the order of the model's files. -/
namespace Sys2Proof.Machine
open Sys2Proof

variable {r s : State}

/-! ### One block written whole -/

theorem Keeps.withOut (h : Keeps r s) (o : Output) (ho : Bounded s → o.Bounded) : Keeps r { s with out := o } :=
  h.trans ⟨rfl, id, id, fun b => { b with out := ho b }, id⟩

theorem Keeps.withStats (h : Keeps r s) (st : Stats) (hst : Bounded s → st.Bounded) : Keeps r { s with stats := st } :=
  h.trans ⟨rfl, id, id, fun b => { b with stats := hst b }, id⟩

theorem Keeps.withFaults (h : Keeps r s) (f : Faults) (hf : Bounded s → f.Bounded) : Keeps r { s with faults := f } :=
  h.trans ⟨rfl, id, id, fun b => { b with faults := hf b }, id⟩

theorem Keeps.withTime (h : Keeps r s) (t : TimeBase) (ht : Bounded s → t.Bounded) : Keeps r { s with time := t } :=
  h.trans ⟨rfl, id, id, fun b => { b with time := ht b }, id⟩

theorem Keeps.withZones (h : Keeps r s) (z : List (Option Zone)) (hz : Bounded s → ZonesBounded z) : Keeps r { s with zones := z } :=
  h.trans ⟨rfl, id, id, fun b => { b with zones := hz b }, id⟩

theorem Keeps.withMotion (h : Keeps r s) (m : Motion) (hm : Bounded s → m.Bounded) : Keeps r { s with motion := m } :=
  h.trans ⟨rfl, id, id, fun b => { b with motion := hm b }, id⟩

theorem Keeps.withIntake (h : Keeps r s) (i : Intake) (hi : Bounded r → Bounded s → i.Bounded) : Keeps r { s with intake := i } where
  link := h.link
  notices := h.notices
  lamps := h.lamps
  bounds b := { h.bounds b with intake := hi b (h.bounds b) }
  jobs := h.jobs

theorem Keeps.withMerge (h : Keeps r s) (m : Merge) (hm : Bounded s → m.Bounded) : Keeps r { s with merge := m } :=
  h.trans ⟨rfl, id, id, fun b => { b with merge := hm b }, id⟩

theorem Keeps.withCal (h : Keeps r s) (c : CalStore) (hc : Bounded s → c.Bounded) : Keeps r { s with cal := c } :=
  h.trans ⟨rfl, id, id, fun b => { b with cal := hc b }, id⟩

theorem Keeps.withConv (h : Keeps r s) (c : Option Conversion) (hc : Bounded s → ∀ x ∈ c, x.Bounded) : Keeps r { s with conv := c } :=
  h.trans ⟨rfl, id, id, fun b => { b with conv := hc b }, id⟩

theorem Keeps.withQueue (h : Keeps r s) (q : PlateQueue) (hq : Bounded s → q.Bounded) (hj : JobsOk s → JobsOk { s with queue := q }) :
    Keeps r { s with queue := q } :=
  h.trans ⟨rfl, id, id, fun b => { b with queue := hq b }, hj⟩

theorem Keeps.withLamps (h : Keeps r s) (l : Lamps) (hl : Bounded s → l.Bounded) (hlit : LampsOk s → LampsOk { s with lamps := l }) :
    Keeps r { s with lamps := l } :=
  h.trans ⟨rfl, id, hlit, fun b => { b with lamps := hl b }, id⟩

/-! ### The numbered stores -/

/-- R72 said bank by bank: a bank is lit when the exposure record names it. -/
theorem lampsOk_iff (s : State) : LampsOk s ↔ ∀ i, (s.bank i).lit = decide (s.lamps.exposure.map (·.bank) = some i) := by
  rw [forall_bank]
  unfold LampsOk
  cases s.lamps.exposure <;> simp [State.bank]

/-- A bank written with its lit state as it was. -/
theorem Keeps.setBank (h : Keeps r s) (i : BankId) (d : Bank) (hlit : d.lit = (s.bank i).lit) (hd : Bounded s → d.failures ≤ 255) :
    Keeps r (s.setBank i d) := by
  have hok : LampsOk s → LampsOk (s.setBank i d) := by
    simp only [lampsOk_iff, State.setBank_frame]
    intro hl k
    by_cases hk : k = i
    · rw [hk, bank_setBank, hlit, hl]
    · rw [bank_setBank_ne s d hk, hl]
  cases i with
  | a => exact h.withLamps _ (fun b => ⟨hd b, b.lamps.2⟩) hok
  | b => exact h.withLamps _ (fun b => ⟨b.lamps.1, hd b⟩) hok

theorem Bounded.bank {s : State} (h : Bounded s) (i : BankId) : (s.bank i).failures ≤ 255 := by
  cases i with
  | a => exact h.lamps.1
  | b => exact h.lamps.2

theorem Keeps.setFlat (h : Keeps r s) (i : BankId) (f : Flat) (hf : Bounded s → f.Bounded) : Keeps r (s.setFlat i f) := by
  cases i with
  | a => exact h.withCal _ fun b => ⟨hf b, b.cal.2⟩
  | b => exact h.withCal _ fun b => ⟨b.cal.1, hf b⟩

theorem Bounded.flat {s : State} (h : Bounded s) (i : BankId) : (s.flat i).Bounded := by
  cases i with
  | a => exact h.cal.1
  | b => exact h.cal.2

theorem Keeps.setSlot (h : Keeps r s) (i : SlotId) (d : Option Slot) (hd : Bounded r → ∀ x ∈ d, x.lines ≤ 65535) :
    Keeps r (s.setSlot i d) := by
  cases i with
  | s1 => exact h.withIntake _ fun b0 b => ⟨hd b0, b.intake.2.1, b.intake.2.2⟩
  | s2 => exact h.withIntake _ fun b0 b => ⟨b.intake.1, hd b0, b.intake.2.2⟩

theorem Bounded.slot {s : State} (h : Bounded s) (i : SlotId) : ∀ d ∈ s.slot i, d.lines ≤ 65535 := by
  cases i with
  | s1 => exact h.intake.1
  | s2 => exact h.intake.2.1

/-- A slot changed by `f`, which keeps the lines received in their bound. -/
theorem Keeps.mapSlot (h : Keeps r s) (i : SlotId) (f : Slot → Slot) (hf : ∀ d, d.lines ≤ 65535 → (f d).lines ≤ 65535) :
    Keeps r (s.setSlot i ((s.slot i).map f)) :=
  h.setSlot i _ fun b x hx => by
    obtain ⟨d, hd, rfl⟩ := Option.map_eq_some_iff.mp hx
    exact hf d ((h.bounds b).slot i d hd)

theorem Keeps.setPlane (h : Keeps r s) (i : PlaneId) (p : Option Plane) (hp : Bounded s → ∀ x ∈ p, x.Bounded) :
    Keeps r (s.setPlane i p) := by
  cases i with
  | p1 => exact h.withMerge _ fun b => ⟨hp b, b.merge.2⟩
  | p2 => exact h.withMerge _ fun b => ⟨b.merge.1, hp b, b.merge.2.2⟩

theorem Bounded.plane {s : State} (h : Bounded s) (i : PlaneId) : ∀ p ∈ s.plane i, p.Bounded := by
  cases i with
  | p1 => exact h.merge.1
  | p2 => exact h.merge.2.1

/-- A plane changed by `f`, which leaves its stamp. -/
theorem Keeps.mapPlane (h : Keeps r s) (i : PlaneId) (f : Plane → Plane) (hf : ∀ p, (f p).stamp = p.stamp) :
    Keeps r (s.setPlane i ((s.plane i).map f)) :=
  h.setPlane i _ fun b x hx => by
    obtain ⟨p, hp, rfl⟩ := Option.map_eq_some_iff.mp hx
    rw [Plane.Bounded, hf]
    exact b.plane i p hp

theorem Keeps.setBuf (h : Keeps r s) (i : BufId) (d : Option Buf) (hd : Bounded s → ∀ x ∈ d, x.Bounded) : Keeps r (s.setBuf i d) := by
  cases i with
  | t1 => exact h.withOut _ fun b => ⟨⟨hd b, b.out.1.2⟩, b.out.2⟩
  | t2 => exact h.withOut _ fun b => ⟨⟨b.out.1.1, hd b, b.out.1.2.2⟩, b.out.2⟩
  | t3 => exact h.withOut _ fun b => ⟨⟨b.out.1.1, b.out.1.2.1, hd b, b.out.1.2.2.2⟩, b.out.2⟩
  | t4 => exact h.withOut _ fun b => ⟨⟨b.out.1.1, b.out.1.2.1, b.out.1.2.2.1, hd b⟩, b.out.2⟩

theorem Bounded.buf {s : State} (h : Bounded s) (i : BufId) : ∀ d ∈ s.buf i, d.Bounded := by
  obtain ⟨h1, h2, h3, h4⟩ := h.out.1
  cases i with
  | t1 => exact h1
  | t2 => exact h2
  | t3 => exact h3
  | t4 => exact h4

theorem Keeps.releaseSlot (h : Keeps r s) (i : SlotId) : Keeps r (s.releaseSlot i) :=
  (h.setSlot i none fun _ _ hx => nomatch hx).unbounded

theorem Keeps.releasePlane (h : Keeps r s) (i : PlaneId) : Keeps r (s.releasePlane i) :=
  h.setPlane i none fun _ _ hx => nomatch hx

/-! ### Ops.lean and Flags.lean -/

theorem Keeps.postNotice (h : Keeps r s) (n : Notice) : Keeps r (postNotice n s) := by
  refine h.trans ⟨?_, postNotice_bounded n s, ?_, ?_, ?_⟩
  · rw [postNotice_eq]
    unfold Link.posted
    split <;> rfl
  all_goals rw [postNotice_eq]
  · exact id
  · exact fun b => ⟨b.queue, b.lamps, b.intake, b.merge, b.conv, b.cal, b.motion, b.zones, b.out, b.stats, b.faults, b.time⟩
  · exact id

theorem Keeps.raiseFault (h : Keeps r s) (k : FaultKind) (ctx : Ctx) : Keeps r (raiseFault k ctx s) := h.unbounded

theorem forall_mem_set {α : Type} {p : α → Prop} {l : List α} {i : Nat} {a : α} (hl : ∀ x ∈ l, p x) (ha : p a) :
    ∀ x ∈ l.set i a, p x := fun x hx => (List.mem_or_eq_of_mem_set hx).elim (hl x) fun e => e ▸ ha

theorem Keeps.addCounter (h : Keeps r s) (c : CounterId) (n : Nat) : Keeps r (addCounter c n s) := by
  unfold Machine.addCounter
  dsimp only
  generalize hnew : Counter.mk _ _ _ = new
  have hval : new.value ≤ 4294967295 := by rw [← hnew]; exact satAdd_le _ _ _
  have hset : Keeps r { s with stats.counters := s.stats.counters.set c.index new } :=
    h.withStats _ fun b => ⟨⟨by simpa using b.stats.1.1, forall_mem_set b.stats.1.2 hval⟩, b.stats.2⟩
  repeat' split
  · exact (hset.postNotice _).postNotice _
  · exact hset.postNotice _
  · exact hset.postNotice _
  · exact hset

theorem Keeps.draw (h : Keeps r s) : Keeps r s.draw := h.unbounded

theorem Keeps.stopBudget (h : Keeps r s) : Keeps r (stopBudget s) := h.unbounded

theorem Keeps.wrapTime (h : Keeps r s) : Keeps r (wrapTime s) :=
  (h.withTime _ fun _ => ⟨satAdd_le _ _ _, Nat.zero_le _⟩).postNotice _

theorem Keeps.countUs (h : Keeps r s) (hs : s.time.count < 4294967295) : Keeps r (countUs s) := by
  unfold Machine.countUs
  split
  · exact h.unbounded
  · exact h.withTime _ fun b => ⟨b.time.1, hs⟩

theorem Keeps.tickTime (h : Keeps r s) : Keeps r (tickTime s) := by
  unfold Machine.tickTime
  split
  · next hlt => exact h.countUs hlt
  split
  · exact h.unbounded
  · exact h.wrapTime.countUs (by simp [Machine.wrapTime])

theorem Keeps.setKind (h : Keeps r s) (k : FaultKind) (v : KindState) (hv : Bounded s → v.count ≤ 255) : Keeps r (s.setKind k v) :=
  h.withFaults _ fun b => ⟨by simpa using b.faults.1, forall_mem_set b.faults.2 (hv b)⟩

theorem Bounded.kind {s : State} (h : Bounded s) (k : FaultKind) : (s.kind k).count ≤ 255 := by
  unfold State.kind
  rcases Nat.lt_or_ge k.index s.faults.kinds.length with hk | hk
  · rw [List.getD_eq_getElem _ _ hk]
    exact h.faults.2 _ (List.getElem_mem hk)
  · rw [List.getD_eq_default _ _ hk]
    exact Nat.zero_le _

theorem Keeps.markSeen (h : Keeps r s) (k : FaultKind) : Keeps r (markSeen k s) := by
  unfold Machine.markSeen
  dsimp only
  split
  · exact (h.setKind k _ fun _ => satAdd_le _ _ _).unbounded
  · exact h.setKind k _ fun _ => satAdd_le _ _ _

theorem Keeps.takeSlot (h : Keeps r s) (k : FaultKind) (ctx : Context) (cls : Severity) : Keeps r (takeSlot k ctx cls s).1 := by
  cases cls <;> exact h.unbounded

theorem Keeps.recordFault (h : Keeps r s) (k : FaultKind) (ctx : Ctx) (injected : Bool) : Keeps r (recordFault k ctx injected s).1 := by
  unfold Machine.recordFault
  dsimp only
  have hseen := h.markSeen k
  split
  · exact hseen
  have hslot := hseen.takeSlot k ⟨ctx, s.tag, injected⟩ (s.kind k).severity
  repeat' split
  · exact (hslot.postNotice _).unbounded
  · exact hslot.unbounded
  · exact hslot.postNotice _
  · exact hslot

theorem Keeps.takeRaised (h : Keeps r s) (n : Nat) : Keeps r (takeRaised n s) := by
  unfold Machine.takeRaised
  split
  · exact h
  · exact h.unbounded.recordFault _ _ _

theorem Keeps.hitZone (h : Keeps r s) (i : Nat) : Keeps r (hitZone i s) := by
  refine h.withZones _ fun b => ⟨by simpa using b.zones.1, fun z hz => ?_⟩
  rcases List.mem_or_eq_of_mem_set hz with hmem | heq
  · exact b.zones.2 z hmem
  · obtain ⟨y, -, rfl⟩ := Option.map_eq_some_iff.mp heq.symm
    exact satAdd_le _ _ _

end Sys2Proof.Machine
end

section
/-! The rules of `Keeps` for the shared operations of the units, in the order of the model's files. -/
namespace Sys2Proof.Machine
open Sys2Proof

variable {r s : State}

theorem Keeps.foldl {α : Type} {f : State → α → State} (hf : ∀ s a, Keeps s (f s a)) (l : List α) (h : Keeps r s) :
    Keeps r (l.foldl f s) := by
  induction l generalizing s with
  | nil => exact h
  | cons a l ih => exact ih (h.trans (hf s a))

theorem mod_modU32_le (n : Nat) : n % modU32 ≤ 4294967295 := Nat.le_of_lt_succ (Nat.mod_lt n (by decide))

/-! ### Output.lean -/

theorem Keeps.joinRing (h : Keeps r s) (t : TileRecord) : Keeps r (joinRing t s) := by
  refine h.withOut _ fun b => ?_
  obtain ⟨hbufs, hend, hlen, hseq, -, hmark⟩ := b.out
  refine ⟨hbufs, hend, joinRing_bounded t s hlen, fun x hx => ?_, mod_modU32_le _, hmark⟩
  rcases List.mem_append.mp hx with hold | hnew
  · split at hold
    · exact hseq x hold
    · exact hseq x (List.mem_of_mem_drop hold)
  · rw [List.mem_singleton.mp hnew]
    exact mod_modU32_le _

theorem Keeps.setReadMark (h : Keeps r s) (n : Nat) (hn : Bounded s → n ≤ 4294967295) : Keeps r { s with out.readMark := n } :=
  h.withOut _ fun b => by
    obtain ⟨hbufs, hend, hlen, hseq, hnew, -⟩ := b.out
    exact ⟨hbufs, hend, hlen, hseq, hnew, hn b⟩

theorem Keeps.logNotices (h : Keeps r s) (unread : Nat) : Keeps r (logNotices unread s) := by
  unfold Machine.logNotices
  split
  · exact (h.setReadMark _ fun _ => mod_modU32_le _).postNotice _
  split
  · exact h.postNotice _
  · exact h

theorem Keeps.tileDone (h : Keeps r s) (t : TileRecord) (quiet : Bool) : Keeps r (tileDone t quiet s) := by
  unfold Machine.tileDone
  split
  · exact h
  · exact h.postNotice _

theorem Keeps.countStatus (h : Keeps r s) (t : TileRecord) : Keeps r (countStatus t s) := by
  unfold Machine.countStatus
  split
  · exact h
  all_goals exact h.addCounter _ _

theorem Keeps.writeRecord (h : Keeps r s) (t : TileRecord) (quiet : Bool) : Keeps r (writeRecord t quiet s) :=
  (((h.joinRing t).unbounded.logNotices _).tileDone t quiet).countStatus t

theorem Keeps.markRead (h : Keeps r s) (seq : Nat) (hseq : Bounded s → seq ≤ 4294967295) : Keeps r (markRead seq s) := by
  unfold Machine.markRead
  split
  · exact h.setReadMark seq hseq
  · exact h

theorem State.heldRecord_mem {s : State} {seq : Nat} {t : TileRecord} (h : s.heldRecord seq = some t) : t ∈ s.out.records :=
  List.mem_of_find?_eq_some h

/-- Opened by `delta`: the equation lemmas of `readTileRecord` have the kernel evaluate `unread`. -/
theorem readTileRecord_leaves (choice : RecordChoice) (s : State) :
    (readTileRecord choice s).2 = s ∨ ∃ t ∈ s.out.records, (readTileRecord choice s).2 = markRead t.sequence s := by
  delta readTileRecord
  generalize hnext : (if s.unread = 0 then none else s.heldRecord ((s.out.readMark + 1) % modU32)) = next
  cases choice with
  | unknown => exact .inl rfl
  | sequence n =>
    cases ht : s.heldRecord n with
    | none => exact .inl (by simp only [ht])
    | some t => exact .inr ⟨t, State.heldRecord_mem ht, by simp only [ht]⟩
  | next =>
    cases next with
    | none => exact .inl rfl
    | some t => exact .inr ⟨t, State.heldRecord_mem (Option.ite_none_left_eq_some.mp hnext).2, rfl⟩
theorem Keeps.readTileRecord (h : Keeps r s) (choice : RecordChoice) : Keeps r (readTileRecord choice s).2 := by
  rcases readTileRecord_leaves choice s with heq | ⟨t, ht, heq⟩
  · rw [heq]
    exact h
  · rw [heq]
    exact h.markRead _ fun b => b.out.2.2.2.1 t ht

theorem Buf.unsend_stamp (d : Buf) : d.unsend.stamp = d.stamp := by
  unfold Buf.unsend
  split <;> rfl

theorem Keeps.unsendBuffers (h : Keeps r s) : Keeps r (unsendBuffers s) := by
  refine h.withOut _ fun b => ⟨?_, b.out.2⟩
  have hun : ∀ i, ∀ x ∈ (s.buf i).map Buf.unsend, x.Bounded := fun i x hx => by
    obtain ⟨d, hd, rfl⟩ := Option.map_eq_some_iff.mp hx
    rw [Buf.Bounded, Buf.unsend_stamp]
    exact b.buf i d hd
  exact ⟨hun .t1, hun .t2, hun .t3, hun .t4⟩

theorem takeImageFrame_stamp {d e : Buf} (h : takeImageFrame d = some e) : e.stamp = d.stamp := by
  unfold takeImageFrame at h
  split at h
  · cases h; rfl
  split at h
  · cases h; rfl
  · cases h

/-- The image sender's changes of a buffer, which leave its stamp. -/
theorem Keeps.bindBuf (h : Keeps r s) (i : BufId) (f : Buf → Option Buf) (hf : ∀ d e, f d = some e → e.stamp = d.stamp) :
    Keeps r (s.setBuf i ((s.buf i).bind f)) :=
  h.setBuf i _ fun b x hx => by
    obtain ⟨d, hd, he⟩ := Option.bind_eq_some_iff.mp hx
    rw [Buf.Bounded, hf d x he]
    exact b.buf i d hd

/-! ### Stats.lean -/

theorem Keeps.openHistogram (h : Keeps r s) (job : Nat × List Byte) : Keeps r (openHistogram job s) :=
  h.withStats _ fun b => ⟨b.stats.1, ⟨List.length_replicate, by simp⟩, Nat.zero_le _, Nat.zero_le _, Nat.zero_le _⟩

theorem Keeps.freezeHistogram (h : Keeps r s) : Keeps r (freezeHistogram s) := by
  unfold Machine.freezeHistogram
  split
  · exact h.unbounded
  all_goals exact h

theorem Keeps.addHistogram (h : Keeps r s) (g : ConvFigures) (hg : Bounded s → g.bins.length = 41) : Keeps r (addHistogram g s) := by
  unfold Machine.addHistogram
  split
  · refine h.withStats _ fun b => ⟨b.stats.1, ⟨?_, fun n hn => ?_⟩, satAdd_le _ _ _, satAdd_le _ _ _, satAdd_le _ _ _⟩
    · rw [List.length_zipWith, b.stats.2.1.1, hg b, Nat.min_self]
    · obtain ⟨i, hi, rfl⟩ := List.getElem_of_mem hn
      rw [List.getElem_zipWith]
      exact satAdd_le _ _ _
  all_goals exact h

theorem Keeps.countConversion (h : Keeps r s) (g : ConvFigures) (attention : Bool) : Keeps r (countConversion g attention s) := by
  unfold Machine.countConversion
  cases attention with
  | true => exact ((((h.addCounter _ _).addCounter _ _).addCounter _ _).addCounter _ _).addCounter _ _
  | false => exact (((h.addCounter _ _).addCounter _ _).addCounter _ _).addCounter _ _

theorem Keeps.countJobEnd (h : Keeps r s) (outcome : JobOutcome) : Keeps r (countJobEnd outcome s) := by
  cases outcome with
  | cancelled => exact h
  | _ => exact h.addCounter _ _

theorem Keeps.clearCounters (h : Keeps r s) : Keeps r (clearCounters s) :=
  h.withStats _ fun b => ⟨⟨List.length_replicate, fun c hc => by rw [List.eq_of_mem_replicate hc]; exact Nat.zero_le _⟩, b.stats.2⟩

theorem Keeps.readCounters (h : Keeps r s) (clear : Nat) : Keeps r (readCounters clear s).2 := by
  unfold Machine.readCounters
  dsimp only
  split
  · exact h
  · exact h
  · exact h.clearCounters

/-! ### Faults.lean -/

theorem Keeps.controlKind (h : Keeps r s) (mask : Option Bool) (severity : Option Severity) (k : FaultKind) :
    Keeps r (controlKind mask severity s k) :=
  h.setKind k _ fun b => b.kind k

theorem Keeps.setFaultControl (h : Keeps r s) (a : Nat × Option Nat × Option Nat) : Keeps r (setFaultControl a s).2 := by
  unfold Machine.setFaultControl
  split
  · exact h
  dsimp only
  repeat' split
  · exact h
  · exact h
  · exact h
  · exact h.foldl (fun s k => (Keeps.refl s).controlKind _ _ k) _

theorem Keeps.clearKind (h : Keeps r s) (k : FaultKind) : Keeps r (clearKind s k) := h.setKind k _ fun _ => Nat.zero_le _

theorem Keeps.clearFault (h : Keeps r s) (code : Nat) : Keeps r (clearFault code s).2 := by
  unfold Machine.clearFault
  split
  · exact h
  · exact (h.foldl (fun s k => (Keeps.refl s).clearKind k) _).unbounded

theorem Keeps.injectFault (h : Keeps r s) (code : Nat) : Keeps r (injectFault code s).2 := by
  unfold Machine.injectFault
  split
  · exact h
  split
  · exact h
  · exact h.recordFault _ _ _

/-! ### Motion.lean -/

theorem Keeps.sendRecord (h : Keeps r s) (bytes : List Byte) : Keeps r (sendRecord bytes s) := h.unbounded

theorem Keeps.takeNumber (h : Keeps r s) : Keeps r (takeNumber s) :=
  h.withMotion _ fun b => ⟨Nat.mod_lt _ (by decide), b.motion.2⟩

theorem Keeps.issueEffects (h : Keeps r s) (kind : OrderKind) : Keeps r (issueEffects kind s) := by
  cases kind with
  | move => exact h
  | home => exact h
  | load =>
    unfold Machine.issueEffects
    dsimp only
    repeat' split
    · exact Keeps.openHistogram h.unbounded _
    · exact Keeps.openHistogram h.unbounded _
    · exact h.unbounded
    · exact h.unbounded
  | ret => exact h.stopBudget.unbounded

theorem Keeps.issueOrder (h : Keeps r s) (w : Wanted) (retried : Bool) : Keeps r (issueOrder w retried s) :=
  (h.takeNumber.unbounded.sendRecord _).issueEffects _

theorem Keeps.wantOrder (h : Keeps r s) (w : Wanted) : Keeps r (wantOrder w s) := by
  unfold Machine.wantOrder
  split
  · exact h.issueOrder w false
  · exact h.unbounded

theorem Keeps.newStop (h : Keeps r s) (reissue : Bool) : Keeps r (newStop reissue s) := h.takeNumber.unbounded.sendRecord _

theorem Keeps.sendStop (h : Keeps r s) : Keeps r (sendStop s) := by
  unfold Machine.sendStop
  dsimp only
  split
  · exact h.unbounded
  · exact h.unbounded.newStop false

theorem Keeps.retryStop (h : Keeps r s) : Keeps r (retryStop s) := h.unbounded.newStop true

theorem Keeps.completeStop (h : Keeps r s) (unsure : Bool) : Keeps r (completeStop unsure s) := by
  unfold Machine.completeStop
  dsimp only
  split
  · split
    · exact h.unbounded.issueOrder _ true
    · exact h.unbounded
  · exact h.unbounded

theorem Keeps.discardReport (h : Keeps r s) : Keeps r (discardReport s) := h.withMotion _ fun b => ⟨b.motion.1, satAdd_le _ _ _⟩

theorem Keeps.noteReport (h : Keeps r s) (kind : ReportKind) (number : Nat) : Keeps r (noteReport kind number s) := h.unbounded

theorem Keeps.assemble (h : Keeps r s) (x : RxByte) : Keeps r (assemble x s).1 := by
  unfold Machine.assemble
  dsimp only
  split
  · exact h
  split
  · exact h.unbounded
  · exact h.unbounded

theorem Keeps.endOrder (h : Keeps r s) (o : Order) : Keeps r (endOrder o s) := by
  unfold Machine.endOrder
  dsimp only
  split <;> exact h.unbounded

/-! ### Lamp.lean -/

/-- Lighting a bank, both being dark: the record names it (R72). -/
theorem Keeps.expose (h : Keeps r s) (i : BankId) (purpose : Purpose) (e : Nat) (reading : Sample) (hdark : s.anyLit = false) :
    Keeps r (expose i purpose e reading s) := by
  have hoff : ∀ k, (s.bank k).lit = false := by simpa [State.anyLit, State.bank, forall_bank] using hdark
  have hok : LampsOk (Machine.expose i purpose e reading s) := by
    rw [lampsOk_iff]
    intro k
    by_cases hk : k = i
    · subst hk; cases k <;> simp [Machine.expose, State.setBank, State.bank]
    · have := hoff k
      revert hk this
      cases i <;> cases k <;> simp_all [Machine.expose, State.setBank, State.bank]
  refine h.trans ⟨?_, ?_, fun _ => hok, fun b => ?_, ?_⟩
  all_goals cases i
  all_goals first | rfl | exact id | skip
  all_goals exact { b with lamps := b.lamps }

/-- An exposure that runs out leaves no bank lit (R73). -/
theorem Keeps.darkenAtEnd (h : Keeps r s) (x : Exposure) (hx : s.lamps.exposure = some x) : Keeps r (darkenAtEnd x s) := by
  have hok : LampsOk s → LampsOk (Machine.darkenAtEnd x s) := by
    simp only [lampsOk_iff, hx]
    intro hl k
    have := hl k
    revert this
    cases hb : x.bank <;> cases k <;> simp [Machine.darkenAtEnd, State.setBank, State.bank, hb]
  refine h.trans ⟨?_, ?_, hok, fun b => ?_, ?_⟩
  all_goals unfold Machine.darkenAtEnd
  all_goals cases x.bank
  all_goals first | rfl | exact id | skip
  all_goals exact { b with lamps := b.lamps }

theorem Keeps.darkenNow (h : Keeps r s) : Keeps r (darkenNow s) := h.withLamps _ (fun b => b.lamps) fun _ => ⟨rfl, rfl⟩

theorem Keeps.failBank (h : Keeps r s) (i : BankId) (lit : Bool) : Keeps r (failBank i lit s) :=
  h.setBank i _ rfl fun _ => satAdd_le _ _ _

theorem Keeps.darkFault (h : Keeps r s) (i : BankId) : Keeps r (darkFault i s) := (h.failBank i false).raiseFault _ _

theorem Keeps.setFaultInput (h : Keeps r s) (i : BankId) (asserted : Bool) : Keeps r (setFaultInput i asserted s) :=
  h.setBank i _ rfl fun b => b.bank i

theorem Keeps.assertedFaults (h : Keeps r s) : Keeps r (assertedFaults s) := by
  unfold Machine.assertedFaults
  dsimp only
  repeat' split
  · exact (h.darkFault _).darkFault _
  · exact h.darkFault _
  · exact h.darkFault _
  · exact h

theorem Keeps.lampReset (h : Keeps r s) (code : Nat) : Keeps r (lampReset code s).2 := by
  unfold Machine.lampReset
  repeat' split
  · exact h
  · exact h
  · exact h.setBank _ _ rfl fun b => b.bank _

/-! ### Intake.lean -/

theorem takeLine_lines (samples : List Sample) (d : Slot) : (takeLine samples d).lines ≤ 65535 := by
  unfold takeLine
  dsimp only
  split <;> exact satAdd_le _ _ _

/-- The last frame record counts the lines of a slot. -/
theorem Keeps.noteFrame (h : Keeps r s) (d : Slot) (verdict : FrameVerdict) (figures : Option (Nat × Nat))
    (hd : Bounded r → d.lines ≤ 65535) : Keeps r (noteFrame d verdict figures s) :=
  h.withIntake _ fun b0 b => ⟨b.intake.1, b.intake.2.1, fun f hf => by cases hf; exact hd b0, b.intake.2.2.2⟩

theorem Keeps.dropFrame (h : Keeps r s) (i : SlotId) (d : Slot) (verdict : FrameVerdict) (hd : Bounded r → d.lines ≤ 65535) :
    Keeps r (dropFrame i d verdict s) :=
  (h.releaseSlot i).noteFrame d verdict none hd

theorem Keeps.validateFrame (h : Keeps r s) (i : SlotId) (d : Slot) (m : Nat) (hd : Bounded r → d.lines ≤ 65535) :
    Keeps r (validateFrame i d m s) :=
  Keeps.noteFrame (Keeps.unbounded (h.setSlot i _ fun b x hx => by cases hx; exact hd b)) d .valid _ hd

theorem Keeps.markFilling (h : Keeps r s) (taker : Taker) : Keeps r (markFilling taker s) := by
  unfold Machine.markFilling
  split
  · exact h
  · refine h.mapSlot _ _ fun d hd => ?_
    split <;> exact hd

theorem Keeps.freeValid (h : Keeps r s) (taker : Taker) : Keeps r (freeValid taker s) :=
  h.foldl (fun s i => by
    split
    · exact (Keeps.refl s).releaseSlot i
    · exact Keeps.refl s) _

theorem Keeps.countDiscarded (h : Keeps r s) : Keeps r (countDiscarded s) :=
  h.withIntake _ fun _ b => ⟨b.intake.1, b.intake.2.1, b.intake.2.2.1, satAdd_le _ _ _⟩

theorem Keeps.countStray (h : Keeps r s) : Keeps r (countStray s) := h.countDiscarded.unbounded

theorem Keeps.startFrame (h : Keeps r s) : Keeps r (startFrame s) := by
  unfold Machine.startFrame
  dsimp only
  split
  · exact Keeps.unbounded (h.mapSlot _ _ fun _ hd => hd)
  · exact h.countStray

theorem Keeps.readIntake (h : Keeps r s) (flag : Nat) : Keeps r (readIntake flag s).2 := by
  unfold Machine.readIntake
  dsimp only
  split
  · exact h
  · exact h
  · exact h.withIntake _ fun _ b => ⟨b.intake.1, b.intake.2.1, b.intake.2.2.1, Nat.zero_le _⟩

/-! ### Merge.lean and Ladder.lean -/

theorem Keeps.fillPlane (h : Keeps r s) (i : PlaneId) (fields : LadderFields) : Keeps r (fillPlane i fields s) := by
  refine (h.setPlane i _ fun b x hx => ?_).withMerge _ fun b => ⟨b.merge.1, b.merge.2.1, mod_modU32_le _⟩
  obtain ⟨p, -, rfl⟩ := Option.map_eq_some_iff.mp hx
  intro n hn
  cases hn
  exact mod_modU32_le _

theorem Keeps.setFlight (h : Keeps r s) (i : SlotId) (st : FlightState) : Keeps r (setFlight i st s) := h.unbounded

theorem Keeps.mapLadder (h : Keeps r s) (f : Ladder → Ladder) : Keeps r (mapLadder f s) := h.unbounded

theorem Keeps.staleCheck (h : Keeps r s) (i : BankId) : Keeps r (staleCheck i s) := by
  unfold Machine.staleCheck
  dsimp only
  repeat' split
  · exact h.unbounded
  · exact Keeps.raiseFault h.unbounded _ _
  · exact h.unbounded

theorem Keeps.takeBank (h : Keeps r s) (job : JobRecord) (i : BankId) : Keeps r (takeBank job i s) := h.unbounded.staleCheck i

theorem Keeps.enterRung (h : Keeps r s) (e : RungEntry) : Keeps r (enterRung e s) := h.unbounded

theorem Keeps.endFlight (h : Keeps r s) (i : SlotId) : Keeps r (endFlight i s) := h.unbounded

theorem Keeps.clearCurrent (h : Keeps r s) : Keeps r (clearCurrent s) := h.unbounded

theorem Keeps.discardWaiting (h : Keeps r s) : Keeps r (discardWaiting s) := (h.mapLadder _).freeValid _

theorem Keeps.moveBank (h : Keeps r s) : Keeps r (moveBank s) := by
  unfold Machine.moveBank
  split
  · dsimp only
    split
    · exact (h.takeBank _ _).mapLadder _
    · exact h.takeBank _ _
  · exact h

theorem Keeps.clearTilePlane (h : Keeps r s) : Keeps r (clearTilePlane s) := by
  unfold Machine.clearTilePlane
  split
  · exact h.mapPlane _ _ fun _ => rfl
  · exact h

theorem Keeps.finishRestart (h : Keeps r s) (policy : Bool) : Keeps r (finishRestart policy s) :=
  ((h.clearTilePlane.mapLadder _).addCounter _ _).moveBank

theorem Keeps.restart (h : Keeps r s) (policy : Bool) : Keeps r (restart policy s) := by
  unfold Machine.restart
  dsimp only
  split
  · exact h.discardWaiting.mapLadder _
  · exact h.discardWaiting.finishRestart policy

theorem Keeps.frameSucceeded (h : Keeps r s) (i : SlotId) (rung clipped pixels : Nat) :
    Keeps r (frameSucceeded i rung clipped pixels s) := by
  unfold Machine.frameSucceeded
  dsimp only
  split
  · exact ((h.setFlight _ _).clearCurrent.mapLadder _).addCounter _ _
  · exact (h.setFlight _ _).clearCurrent.mapLadder _

theorem Keeps.stopLadder (h : Keeps r s) (why : Stopping) : Keeps r (stopLadder why s) := by
  unfold Machine.stopLadder
  split
  · exact h
  split
  · exact h
  dsimp only
  split
  · exact (h.mapLadder _).mapLadder _
  · exact (h.mapLadder _).mapLadder _
  all_goals exact ((h.mapLadder _).markFilling _).discardWaiting

theorem Keeps.cutExposure (h : Keeps r s) : Keeps r (cutExposure s) := by
  unfold Machine.cutExposure
  split
  · split <;> exact h.darkenNow.markFilling _
  · exact h.darkenNow

theorem Keeps.extend (h : Keeps r s) : Keeps r (extend s) := (h.mapLadder _).addCounter _ _

theorem Keeps.startAttempt (h : Keeps r s) (l : Ladder) (window : Window) (rung a : Nat) (i : SlotId) (reading : Sample)
    (hdark : s.anyLit = false) : Keeps r (startAttempt l window rung a i reading s) := by
  unfold Machine.startAttempt
  dsimp only
  have hclaim := fun f => Keeps.expose ((h.setSlot i (some (freshSlot .ladder rung a window l.c (rungExposure (s.eFlat l.bank) rung) s))
    fun _ x hx => by cases hx; exact Nat.zero_le _).mapLadder f) l.bank .rung (rungExposure (s.eFlat l.bank) rung) reading
    (by simpa [State.anyLit] using hdark)
  split
  · exact (hclaim _).addCounter _ _
  · exact hclaim _

/-! ### Calibration.lean -/

theorem Keeps.mapCal (h : Keeps r s) (f : Calibration → Calibration) : Keeps r (mapCal f s) := h.unbounded

theorem Keeps.endCal (h : Keeps r s) (c : Calibration) (judged : Option (Nat × Nat)) (made : Option (Nat × Nat × Nat)) :
    Keeps r (endCal c judged made s) :=
  h.unbounded.postNotice _

theorem Keeps.closeCal (h : Keeps r s) : Keeps r (closeCal s) := by
  unfold Machine.closeCal
  split
  · split
    · exact h.endCal _ _ _
    · exact h
  · exact h

theorem Keeps.failCal (h : Keeps r s) (reason : CalFailure) : Keeps r (failCal reason s) := by
  unfold Machine.failCal
  split
  · exact h
  split
  · exact h
  · exact (((h.mapCal _).markFilling _).freeValid _).closeCal

theorem Keeps.calibrate (h : Keeps r s) (args : List Nat) : Keeps r (calibrate args s).2 := by
  unfold Machine.calibrate
  dsimp only
  repeat' split
  all_goals first | exact h | exact Keeps.wantOrder h.unbounded _

theorem Keeps.calOrderDone (h : Keeps r s) : Keeps r (calOrderDone s) := by
  unfold Machine.calOrderDone
  split
  · exact h
  split
  · exact Keeps.wantOrder h.unbounded _
  · exact h.unbounded
  · exact h
  · exact h

theorem Keeps.calExposureEnd (h : Keeps r s) (m : Nat) : Keeps r (calExposureEnd m s) := h.mapCal _

theorem Keeps.calFrameValid (h : Keeps r s) : Keeps r (calFrameValid s) := h.mapCal _

theorem Keeps.calFrameFailed (h : Keeps r s) : Keeps r (calFrameFailed s) := by
  unfold Machine.calFrameFailed
  split
  · exact h
  dsimp only
  repeat' split
  · exact (h.mapCal _).closeCal
  · exact (h.mapCal _).mapCal _
  · exact (h.mapCal _).failCal _

theorem Keeps.judgeCal (h : Keeps r s) (c : Calibration) : Keeps r (judgeCal c s) := by
  unfold Machine.judgeCal
  dsimp only
  repeat' split
  · exact h.endCal _ _ _
  · exact h.endCal _ _ _
  · refine (h.setFlat c.bank _ fun _ d hd => ?_).endCal _ _ _
    cases hd
    exact Nat.zero_le _

theorem Keeps.ageFlat (h : Keeps r s) (i : BankId) : Keeps r (ageFlat i s) :=
  h.setFlat i _ fun _ d hd => by
    obtain ⟨x, -, rfl⟩ := Option.map_eq_some_iff.mp hd
    exact satAdd_le _ _ _

theorem Keeps.ageFlats (h : Keeps r s) (used : BankSet) : Keeps r (ageFlats used s) := by
  unfold Machine.ageFlats
  dsimp only
  repeat' split
  · exact (h.ageFlat _).ageFlat _
  · exact h.ageFlat _
  · exact h.ageFlat _
  · exact h

theorem Keeps.levelChanged (h : Keeps r s) (i : BankId) (level : Nat) : Keeps r (levelChanged i level s) := by
  unfold Machine.levelChanged
  split
  · exact h
  · exact h.setFlat i _ fun b => b.flat i

/-! ### Converter.lean -/

theorem convertPixel_code_le (bf l : Nat) (left : Option Nat) (p : FlatPixel) (m : MergeRec) (hleft : ∀ n ∈ left, n ≤ 4095) :
    (convertPixel bf l left p m).code ≤ 4095 := by
  unfold convertPixel
  split
  · cases left with
    | none => exact Nat.zero_le _
    | some n => exact hleft n rfl
  · cases m with
    | valid rung signal => exact Nat.min_le_left _ _
    | _ => simp

theorem convertRow_code_le (bf l : Nat) (left : Option Nat) (px : List (FlatPixel × MergeRec)) (hleft : ∀ n ∈ left, n ≤ 4095) :
    ∀ w ∈ convertRow bf l left px, w.code ≤ 4095 := by
  induction px generalizing left with
  | nil => simp [convertRow]
  | cons x px ih =>
    have hhead := convertPixel_code_le bf l left x.1 x.2 hleft
    intro w hw
    rcases List.mem_cons.mp hw with rfl | htail
    · exact hhead
    · exact ih _ (fun n hn => by cases hn; exact hhead) w htail

theorem addPixel_bins_length (g : ConvFigures) (p : PixOut) : (addPixel g p).bins.length = g.bins.length := by
  unfold addPixel
  split <;> simp

theorem foldl_addPixel_bins_length (words : List PixOut) (g : ConvFigures) :
    (words.foldl addPixel g).bins.length = g.bins.length := by
  induction words generalizing g with
  | nil => rfl
  | cons w words ih => rw [List.foldl_cons, ih, addPixel_bins_length]

theorem Conversion.Bounded.after {c : Conversion} (h : c.Bounded) (words : List PixOut) (hw : ∀ w ∈ words, w.code ≤ 4095)
    (rowEnds : Bool) : (c.after words rowEnds).Bounded := by
  have hbins : (words.foldl addPixel c.figures).bins.length = 41 := by rw [foldl_addPixel_bins_length, h.1]
  unfold Conversion.after
  dsimp only
  split
  · exact ⟨hbins, fun n hn => nomatch hn⟩
  · refine ⟨hbins, fun n hn => ?_⟩
    cases hlast : words.getLast? with
    | none => exact h.2 n (by simpa [hlast] using hn)
    | some w =>
      obtain rfl : w.code = n := by simpa [hlast] using hn
      exact hw w (List.mem_of_getLast? hlast)

theorem Keeps.convertNext (h : Keeps r s) (n : Option Nat) : Keeps r (convertNext n s) := by
  unfold Machine.convertNext
  split
  · exact h
  · next c hc =>
    split
    · next p d e _ _ he =>
      refine (h.setBuf c.buffer _ fun b x hx => ?_).withConv _ fun b x hx => ?_
      · cases hx
        exact b.buf c.buffer e he
      · cases hx
        have hcb : c.Bounded := b.conv c (by simpa using hc)
        exact hcb.after _ (convertRow_code_le _ _ _ _ hcb.2) _
    · refine h.withConv _ fun b x hx => ?_
      cases hx
      exact (b.conv c hc).after [] (fun _ hw => nomatch hw) true

theorem Keeps.convertRows (h : Keeps r s) (n : Nat) : Keeps r (convertRows n s) := by
  induction n generalizing s with
  | zero => exact h
  | succ n ih => exact ih (h.convertNext none)

theorem Keeps.convertPixels (h : Keeps r s) (n : Nat) : Keeps r (convertPixels n s) := by
  induction n generalizing s with
  | zero => exact h
  | succ n ih =>
    unfold Machine.convertPixels
    split
    · exact ih (h.convertNext (some 1))
    · exact h

theorem Keeps.converterTick (h : Keeps r s) : Keeps r (converterTick s) := by
  unfold Machine.converterTick
  split
  · exact h
  · exact h.draw.convertPixels _

theorem Keeps.readyBuffer (h : Keeps r s) (c : Conversion) (sequence : Nat) : Keeps r (readyBuffer c sequence s) := by
  refine (h.setBuf c.buffer _ fun b x hx => ?_).withOut _ fun b => ⟨b.out.1, mod_modU32_le _, b.out.2.2⟩
  obtain ⟨d, -, rfl⟩ := Option.map_eq_some_iff.mp hx
  intro n hn
  cases hn
  exact mod_modU32_le _

theorem Keeps.idle (h : Keeps r s) : Keeps r (idle s) := h.unbounded.tickTime.unbounded.converterTick

end Sys2Proof.Machine
end

section
/-! The rules of `Keeps` for the operations of the pass controller and for those above it, in the order of the model's files. -/
namespace Sys2Proof.Machine
open Sys2Proof

variable {r s : State}

/-! ### Pass.lean: the job's end -/

theorem Keeps.fileHistory (h : Keeps r s) (e : HistoryEntry) : Keeps r (fileHistory e s) := by
  unfold Machine.fileHistory
  dsimp only
  generalize hkept : (if s.queue.history.length < Config.historyCap then s.queue.history else s.queue.history.drop 1) = kept
  refine Keeps.postNotice (h.withQueue { s.queue with history := kept ++ [e] } (fun b => ⟨b.queue.1, ?_⟩) id) _
  have hlen := b.queue.2
  rw [← hkept, Config.historyCap]
  split <;> simp <;> omega

theorem Keeps.recordBeforeEnd (h : Keeps r s) : Keeps r (recordBeforeEnd s) := by
  unfold Machine.recordBeforeEnd
  split
  · exact h
  · exact h
  · split
    · exact h.draw
    · exact h.draw.takeRaised _

theorem Keeps.takeFirstFault (h : Keeps r s) : Keeps r (takeFirstFault s).2 := h.recordBeforeEnd.unbounded

/-- Jobs leaving the queue, the others in their order: the numbers and slots that stay are as far apart as before. -/
theorem JobsOk.filter {s : State} (h : JobsOk s) (p : QueueJob → Bool) (run : RunState) :
    JobsOk { s with queue.jobs := s.queue.jobs.filter p, queue.run := run } := by
  obtain ⟨hnext, hlen, hrange, hnumbers, hslots⟩ := h
  have hsub : (s.queue.jobs.filter p).Sublist s.queue.jobs := List.filter_sublist
  exact ⟨hnext, hsub.length_le.trans hlen, fun j hj => hrange j (List.mem_of_mem_filter hj), hnumbers.sublist (hsub.map _),
    hslots.sublist (hsub.map _)⟩

theorem Keeps.filterJobs (h : Keeps r s) (p : QueueJob → Bool) (run : RunState) :
    Keeps r { s with queue.jobs := s.queue.jobs.filter p, queue.run := run } :=
  h.withQueue _ (fun b => ⟨(List.length_filter_le _ _).trans b.queue.1, b.queue.2⟩) fun hj => hj.filter p run

theorem Keeps.clearPass (h : Keeps r s) : Keeps r (clearPass s) := h.unbounded

theorem Keeps.endJob (h : Keeps r s) (occupied : Bool) : Keeps r (endJob occupied s) := by
  unfold Machine.endJob
  split
  · exact h
  · next j hj =>
    dsimp only
    have hfiled := fun p run => (h.takeFirstFault.fileHistory (s.entryOf j s.outcome (Machine.takeFirstFault s).1)).filterJobs p run
    refine Keeps.clearPass ?_
    split
    · exact Keeps.freezeHistogram (((hfiled _ _).countJobEnd _).ageFlats _)
    · exact ((hfiled _ _).countJobEnd _).ageFlats _

theorem Keeps.jobEndCheck (h : Keeps r s) : Keeps r (jobEndCheck s) := by
  unfold Machine.jobEndCheck
  split
  · exact h.endJob false
  · exact h

/-! ### Pass.lean: the walk -/

theorem Keeps.recordUndecided (h : Keeps r s) (j : JobInHand) (o : Nat) : Keeps r (recordUndecided j s o) := by
  unfold Machine.recordUndecided
  exact h.writeRecord _ _

theorem Keeps.closeWalk (h : Keeps r s) : Keeps r (closeWalk s) := by
  unfold Machine.closeWalk
  split
  · exact h
  · next j hj =>
    dsimp only
    split
    · exact h.unbounded
    · exact (h.foldl (fun s o => (Keeps.refl s).recordUndecided j o) _).unbounded

theorem Keeps.freeTilePlane (h : Keeps r s) : Keeps r (freeTilePlane s) := by
  unfold Machine.freeTilePlane
  split
  · exact h
  split
  · exact h
  · exact (h.releasePlane _).unbounded

theorem Keeps.recordTile (h : Keeps r s) : Keeps r (recordTile s) := by
  unfold Machine.recordTile
  split
  · exact h.freeTilePlane.unbounded.writeRecord _ _
  · exact h

theorem Keeps.beginReturn (h : Keeps r s) : Keeps r (beginReturn s) := by
  unfold Machine.beginReturn
  split <;> exact Keeps.wantOrder h.unbounded _

theorem Keeps.enterReturning (h : Keeps r s) : Keeps r (enterReturning s) := by
  unfold Machine.enterReturning
  dsimp only
  split
  · exact Keeps.beginReturn h.unbounded
  · exact h.unbounded

theorem Keeps.enterPaused (h : Keeps r s) (point : ResumePoint) : Keeps r (enterPaused point s) := h.unbounded

theorem Keeps.takeTile (h : Keeps r s) (j : JobInHand) : Keeps r (takeTile j s) := h.unbounded

theorem Keeps.decideRecord (h : Keeps r s) (j : JobInHand) (status : TileStatus) : Keeps r (decideRecord j status s) := by
  unfold Machine.decideRecord
  split
  · exact h
  · exact Keeps.writeRecord h.unbounded _ _

theorem Keeps.boundaryLoop (h : Keeps r s) (n : Nat) : Keeps r (boundaryLoop n s) := by
  induction n generalizing s with
  | zero => exact h
  | succ n ih =>
    unfold Machine.boundaryLoop
    split
    · exact h
    · next j hj =>
      dsimp only
      generalize hs' : (if s.pass.mark.isSome ∧ s.pass.walkPos < j.record.tiles then Machine.closeWalk s else s) = s'
      have h' : Keeps r s' := by
        rw [← hs']
        split
        · exact h.closeWalk
        · exact h
      split
      · exact h'.enterPaused _
      split
      · split
        · exact ih (((h'.takeTile j).hitZone _).decideRecord j _)
        · split
          · exact ih ((((h'.takeTile j).hitZone _).raiseFault _ _).decideRecord j _)
          · exact ih (Keeps.decideRecord (((h'.takeTile j).hitZone _).raiseFault _ _).unbounded j _)
          · exact ((h'.takeTile j).hitZone _).raiseFault _ _
          · exact ((h'.takeTile j).hitZone _).raiseFault _ _
        · exact Keeps.wantOrder (h'.takeTile j).unbounded _
      · exact h'.enterReturning

theorem Keeps.boundary (h : Keeps r s) : Keeps r (boundary s) := by
  unfold Machine.boundary
  split
  · exact h
  · exact h
  · exact h.boundaryLoop _

/-! ### Pass.lean: settling the tile in hand -/

theorem Keeps.afterSettle (h : Keeps r s) (dest : SettleTo) : Keeps r (afterSettle dest s) := by
  unfold Machine.afterSettle
  split
  · exact h.boundary
  · split
    · exact h.jobEndCheck
    · exact h.enterReturning
  · exact h.jobEndCheck
  · exact h

theorem Keeps.settleNow (h : Keeps r s) (dest : SettleTo) : Keeps r (settleNow dest s) := h.recordTile.afterSettle dest

theorem Keeps.handOver (h : Keeps r s) (l : Ladder) : Keeps r (handOver l s) := by
  unfold Machine.handOver
  dsimp only
  refine Keeps.boundary ?_
  split
  · exact (h.fillPlane _ _).unbounded
  · exact h.unbounded

theorem Keeps.ladderDone (h : Keeps r s) (l : Ladder) : Keeps r (ladderDone l s) := by
  unfold Machine.ladderDone
  split
  · split
    · exact h.extend
    split
    · exact h.handOver l
    · exact h.settleNow _
  · exact h

theorem Keeps.progress (h : Keeps r s) : Keeps r (progress s) := by
  unfold Machine.progress
  split
  · exact h
  split
  · split
    · exact h.ladderDone _
    · exact h
  · dsimp only
    repeat' split
    · exact h.settleNow _
    · exact h.freeTilePlane.settleNow _
    · exact h
    · exact h.freeTilePlane

theorem Keeps.settle (h : Keeps r s) (dest : SettleTo) : Keeps r (settle dest s) := by
  unfold Machine.settle
  split
  · exact h.afterSettle _
  split
  · exact Keeps.progress h.unbounded
  · split
    · exact h.unbounded
    · exact h.settleNow _
  · exact h.settleNow _
  · exact h.settleNow _

/-! ### Pass.lean: halt, and what comes before an action -/

theorem Keeps.endHome (h : Keeps r s) (result : HomeResult) (kind : Option FaultKind) : Keeps r (endHome result kind s) := by
  unfold Machine.endHome
  split
  · exact Keeps.postNotice h.unbounded _
  · exact h

theorem Keeps.haltTile (h : Keeps r s) : Keeps r (haltTile s) := by
  unfold Machine.haltTile
  split
  · exact h.jobEndCheck
  · exact Keeps.progress h.unbounded
  · exact h.settle _

theorem Keeps.halt (h : Keeps r s) (kind : FaultKind) (injected : Bool) : Keeps r (halt kind injected s) := by
  unfold Machine.halt
  split
  · exact h
  · exact ((((Keeps.stopLadder h.cutExposure.sendStop.stopBudget.unbounded _).postNotice _).haltTile).failCal _).endHome _ _

theorem Keeps.haltNext (h : Keeps r s) : Keeps r (haltNext s) := by
  unfold Machine.haltNext
  split
  · exact h
  · exact Keeps.halt h.unbounded _ _

theorem Keeps.takeAhead (h : Keeps r s) : Keeps r (takeAhead s) := by
  unfold Machine.takeAhead
  split
  · exact h
  · dsimp only
    split
    · exact h.unbounded
    · exact Keeps.takeRaised h.unbounded _
    · exact (Keeps.takeRaised h.unbounded _).haltNext

theorem Keeps.takeGuards (h : Keeps r s) (n : Nat) : Keeps r (takeGuards n s) := by
  induction n generalizing s with
  | zero => exact h
  | succ n ih =>
    unfold Machine.takeGuards
    split
    · exact h
    · exact h
    · split
      · exact ih (Keeps.boundary (Keeps.decideRecord h.takeAhead.unbounded _ _))
      · exact h

theorem Keeps.takeGuard (h : Keeps r s) : Keeps r (takeGuard s) := h.takeGuards _

/-! ### Pass.lean: fatal actions -/

theorem Keeps.setMark (h : Keeps r s) (m : Mark) : Keeps r (setMark m s) := h.unbounded

theorem Keeps.markUnlessSet (h : Keeps r s) (m : Mark) : Keeps r (markUnlessSet m s) := by
  unfold Machine.markUnlessSet
  split
  · exact h
  · exact h.setMark m

theorem Keeps.leavePlate (h : Keeps r s) : Keeps r (leavePlate s) := by
  unfold Machine.leavePlate
  split
  · exact h.unbounded
  · exact h

theorem Keeps.enterFinishing (h : Keeps r s) : Keeps r (enterFinishing s) := by
  unfold Machine.enterFinishing
  split
  · exact h
  · exact h.unbounded

theorem Keeps.darkenAndStop (h : Keeps r s) : Keeps r (darkenAndStop s) := (Keeps.cutExposure h.unbounded).sendStop

theorem Keeps.fatalLeave (h : Keeps r s) : Keeps r (fatalLeave s) := by
  unfold Machine.fatalLeave
  split
  · exact h.darkenAndStop
  · have hdark := (h.setMark .failed).stopBudget.darkenAndStop
    dsimp only
    split
    · exact hdark.jobEndCheck
    · exact hdark.jobEndCheck
    · exact hdark.jobEndCheck
    · exact hdark.jobEndCheck
    · exact ((hdark.leavePlate.closeWalk).stopLadder _).enterFinishing.settle _

theorem Keeps.noLight (h : Keeps r s) : Keeps r (noLight s) := by
  unfold Machine.noLight
  dsimp only
  split <;> exact (((h.setMark _).stopBudget.stopLadder _).closeWalk).settle _

theorem Keeps.plateSense (h : Keeps r s) : Keeps r (plateSense s) := (h.raiseFault _ _).takeAhead.fatalLeave

theorem Keeps.motionFatal (h : Keeps r s) (kind : FaultKind) (requester : Requester) : Keeps r (motionFatal kind requester s) := by
  unfold Machine.motionFatal
  have hraised := h.raiseFault kind (s.requesterCtx requester)
  cases requester with
  | pass => exact Keeps.fatalLeave (Keeps.sendStop hraised.takeAhead.unbounded).unbounded
  | calibration => exact Keeps.failCal (Keeps.sendStop hraised.unbounded).unbounded _
  | homeRequest => exact Keeps.endHome (Keeps.sendStop hraised.unbounded).unbounded _ _

/-! ### Pass.lean: the requests -/

theorem Keeps.pause (h : Keeps r s) : Keeps r (pause s).2 := by
  unfold Machine.pause
  dsimp only
  repeat' split
  all_goals first | exact h | exact h.unbounded

theorem Keeps.runBudget (h : Keeps r s) : Keeps r (runBudget s) := by
  unfold Machine.runBudget
  split
  · exact h.unbounded
  · exact h

theorem Keeps.resumePaused (h : Keeps r s) : Keeps r (resumePaused s) := by
  unfold Machine.resumePaused
  dsimp only
  split
  · exact (Keeps.runBudget h.unbounded).boundary.takeGuard
  · exact (Keeps.runBudget h.unbounded).enterReturning

theorem Keeps.resume (h : Keeps r s) : Keeps r (resume s).2 := by
  unfold Machine.resume
  repeat' split
  · exact h
  · exact h
  · exact h.resumePaused
  · exact h.unbounded

theorem Keeps.clearTile (h : Keeps r s) : Keeps r (clearTile s) := by
  unfold Machine.clearTile
  split
  · exact h.recordTile
  · exact h.unbounded

theorem Keeps.clearHaltJob (h : Keeps r s) (ret : Bool) : Keeps r (clearHaltJob ret s) := by
  unfold Machine.clearHaltJob
  have hclosed := (h.setMark .failed).clearTile.closeWalk
  dsimp only
  split
  · exact hclosed.enterReturning
  · refine Keeps.jobEndCheck ?_
    split
    · exact Keeps.unbounded hclosed.leavePlate
    · exact hclosed.unbounded

theorem Keeps.clearHalt (h : Keeps r s) (code : Nat) : Keeps r (clearHalt code s).2 := by
  unfold Machine.clearHalt
  split
  · exact h
  split
  · dsimp only
    split
    · exact h.unbounded
    · exact Keeps.clearHaltJob h.unbounded _
  · exact h

theorem Keeps.home (h : Keeps r s) : Keeps r (home s).2 := by
  unfold Machine.home
  repeat' split
  · exact h
  · exact h
  · exact Keeps.wantOrder h.unbounded _

end Sys2Proof.Machine
end

section
/-! The rules of `Keeps` for the queue, the ends of orders, the events of capture, the parameters and the zone table. -/
namespace Sys2Proof.Machine
open Sys2Proof

variable {r s : State}

/-! ### Queue.lean: a job taken (R8, R9) -/

theorem nextNumber_range (n : Nat) : 1 ≤ nextNumber n ∧ nextNumber n ≤ 65535 := by
  unfold nextNumber
  split <;> omega

/-- The numbers R8 counts through: `k` places upward from `n`, passing from 65,535 to 1. -/
theorem nextNumber_iterate {n : Nat} (hn : 1 ≤ n ∧ n ≤ 65535) (k : Nat) :
    nextNumber^[k] n = (n - 1 + k) % 65535 + 1 := by
  induction k with
  | zero =>
    simp only [Function.iterate_zero, id]
    omega
  | succ k ih =>
    rw [Function.iterate_succ_apply', ih, nextNumber]
    split <;> omega

/-- The number given is the first tried that is free; with all `fuel` of them taken it is the one after them. -/
theorem freeNumber_spec (jobs : List QueueJob) (fuel n : Nat) :
    ∃ k ≤ fuel, freeNumber jobs fuel n = nextNumber^[k] n ∧ (∀ i < k, nextNumber^[i] n ∈ jobs.map (·.number))
      ∧ (k < fuel → nextNumber^[k] n ∉ jobs.map (·.number)) := by
  induction fuel generalizing n with
  | zero => exact ⟨0, le_rfl, rfl, fun _ h => absurd h (Nat.not_lt_zero _), fun h => absurd h (Nat.lt_irrefl _)⟩
  | succ fuel ih =>
    unfold freeNumber
    split
    case isTrue htaken =>
      obtain ⟨k, hk, heq, htried, hfree⟩ := ih (nextNumber n)
      refine ⟨k + 1, Nat.succ_le_succ hk, heq, fun i hi => ?_, fun h => hfree (Nat.lt_of_succ_lt_succ h)⟩
      cases i with
      | zero => simpa using htaken
      | succ i => exact htried i (Nat.lt_of_succ_lt_succ hi)
    case isFalse hfree =>
      exact ⟨0, Nat.zero_le _, rfl, fun _ h => absurd h (Nat.not_lt_zero _), fun _ => by simpa using hfree⟩

/-- With fewer than 16 jobs, 16 numbers tried are one too many for all to be taken (R8). -/
theorem exists_untaken {jobs : List QueueJob} {n : Nat} (hn : 1 ≤ n ∧ n ≤ 65535) (hlen : jobs.length < 16) :
    ¬ ∀ k < 16, nextNumber^[k] n ∈ jobs.map (·.number) := by
  intro hall
  have htried : ((List.range 16).map fun k => nextNumber^[k] n).Nodup := by
    refine List.Nodup.map_on (fun i hi j hj hij => ?_) List.nodup_range
    simp only [nextNumber_iterate hn] at hij
    rw [List.mem_range] at hi hj
    omega
  have hsub : ((List.range 16).map fun k => nextNumber^[k] n) ⊆ jobs.map (·.number) := by
    intro x hx
    obtain ⟨i, hi, rfl⟩ := List.mem_map.mp hx
    exact hall i (List.mem_range.mp hi)
  have hle := (List.subperm_of_subset htried hsub).length_le
  simp at hle
  omega

/-- The number a job takes: the first, counting upward from `n`, that no job of a queue with room holds (R8). -/
theorem freeNumber_first {jobs : List QueueJob} {n : Nat} (hn : 1 ≤ n ∧ n ≤ 65535) (hlen : jobs.length < 16) :
    ∃ k ≤ 15, freeNumber jobs 16 n = (n - 1 + k) % 65535 + 1 ∧ freeNumber jobs 16 n ∉ jobs.map (·.number)
      ∧ ∀ i < k, (n - 1 + i) % 65535 + 1 ∈ jobs.map (·.number) := by
  obtain ⟨k, hk, heq, htried, hfree⟩ := freeNumber_spec jobs 16 n
  have hlt : k < 16 := by
    refine Nat.lt_of_le_of_ne hk ?_
    rintro rfl
    exact exists_untaken hn hlen htried
  refine ⟨k, Nat.le_of_lt_succ hlt, heq.trans (nextNumber_iterate hn k), heq ▸ hfree hlt, fun i hi => ?_⟩
  rw [← nextNumber_iterate hn]
  exact htried i hi

theorem freeNumber_fresh (jobs : List QueueJob) (n : Nat) (hn : 1 ≤ n ∧ n ≤ 65535) (hlen : jobs.length < 16) :
    freeNumber jobs 16 n ∉ jobs.map (·.number) ∧ 1 ≤ freeNumber jobs 16 n ∧ freeNumber jobs 16 n ≤ 65535 := by
  obtain ⟨k, -, hnumber, hfree, -⟩ := freeNumber_first hn hlen
  exact ⟨hfree, by omega, by omega⟩

theorem Keeps.acceptJob (h : Keeps r s) (job : RawJob) (hlen : s.queue.jobs.length < 16) (hslot : s.claimant job.record.slot = none) :
    Keeps r (acceptJob job s).2 := by
  refine h.withQueue _ (fun b => ⟨by simp; omega, b.queue.2⟩) fun hj => ?_
  obtain ⟨hnext, -, hrange, hnumbers, hslots⟩ := hj
  obtain ⟨hfresh, hfreshRange⟩ := freeNumber_fresh s.queue.jobs s.queue.next hnext hlen
  refine ⟨nextNumber_range _, by simp; omega, fun j hj => ?_, ?_, ?_⟩
  · rcases List.mem_append.mp hj with hold | hnew
    · exact hrange j hold
    · rw [List.mem_singleton.mp hnew]
      exact hfreshRange
  · rw [List.map_append]
    exact List.nodup_append.mpr ⟨hnumbers, List.nodup_singleton _, fun a ha b hb e => hfresh (by simp_all [Config.queueCap])⟩
  · rw [List.map_append]
    refine List.nodup_append.mpr ⟨hslots, List.nodup_singleton _, fun a ha b hb e => ?_⟩
    obtain ⟨j, hj, rfl⟩ := List.mem_map.mp ha
    have hne := List.find?_eq_none.mp hslot j hj
    simp_all

theorem Keeps.enqueue (h : Keeps r s) (job : RawJob) : Keeps r (enqueue job s).2 := by
  unfold Machine.enqueue
  split
  · exact h
  split
  · exact h
  split
  · exact h
  · next hroom =>
    split
    · exact h
    · next hslot => exact h.acceptJob job (Nat.lt_of_not_le hroom) hslot

/-! ### Queue.lean: cancels, the run state, JOB_START -/

theorem Keeps.cancelQueued (h : Keeps r s) (j : QueueJob) : Keeps r (cancelQueued j s) := (h.filterJobs _ s.queue.run).fileHistory _

theorem Keeps.takeCancel (h : Keeps r s) : Keeps r (takeCancel s) := (Keeps.stopBudget h.unbounded).markUnlessSet _

theorem Keeps.cancelActive (h : Keeps r s) : Keeps r (cancelActive s).2 := by
  unfold Machine.cancelActive
  dsimp only
  split
  · exact h
  · exact h
  · exact h
  · exact Keeps.jobEndCheck h.takeCancel.unbounded
  · exact h.takeCancel.unbounded
  · exact (h.takeCancel.closeWalk.stopLadder _).settle _
  · exact h.takeCancel.closeWalk.enterReturning
  · exact h

theorem Keeps.cancel (h : Keeps r s) (number : Nat) : Keeps r (cancel number s).2 := by
  unfold Machine.cancel
  split
  · exact h
  split
  · exact h.cancelActive
  · exact h.cancelQueued _

theorem Keeps.startQueue (h : Keeps r s) : Keeps r (startQueue s).2 := by
  unfold Machine.startQueue
  split
  · exact h
  · exact h.unbounded

theorem Keeps.stopQueue (h : Keeps r s) : Keeps r (stopQueue s).2 := by
  unfold Machine.stopQueue
  split
  · exact h.unbounded
  · exact h

theorem Keeps.bankChoice (h : Keeps r s) (j : JobInHand) : Keeps r (bankChoice j s) := by
  unfold Machine.bankChoice
  split
  · exact (h.setMark _).endJob false
  · have htaken := fun i => h.takeBank j.record i
    dsimp only
    split
    · exact Keeps.wantOrder (Keeps.unbounded ((htaken _).postNotice _)) _
    · exact Keeps.wantOrder (htaken _).unbounded _

theorem Keeps.prepCheck (h : Keeps r s) : Keeps r (prepCheck s) := by
  unfold Machine.prepCheck
  split
  · exact h
  split
  · exact ((h.raiseFault _ _).takeAhead.setMark _).endJob true
  · exact h.bankChoice _

theorem Keeps.prepare (h : Keeps r s) (j : JobInHand) : Keeps r (prepare j s) := h.unbounded

/-- The head job becomes ACTIVE: its number and its slot stay. -/
theorem Keeps.activateHead (h : Keeps r s) {q : QueueJob} {rest : List QueueJob} (hq : s.queue.jobs = q :: rest) (started : Option Nat) :
    Keeps r { s with queue.jobs := { q with active := true, started := started } :: rest } := by
  refine h.withQueue _ (fun b => ⟨by simpa [hq] using b.queue.1, b.queue.2⟩) fun hj => ?_
  obtain ⟨hnext, hlen, hrange, hnumbers, hslots⟩ := hj
  rw [hq] at hlen hrange hnumbers hslots
  refine ⟨hnext, hlen, fun j hj => ?_, hnumbers, hslots⟩
  rcases List.mem_cons.mp hj with rfl | hmem
  · exact hrange q List.mem_cons_self
  · exact hrange j (List.mem_cons_of_mem _ hmem)

/-! ### Orders.lean -/

theorem Keeps.enterLoading (h : Keeps r s) : Keeps r (enterLoading s) := by
  unfold Machine.enterLoading
  split
  · exact h
  · exact Keeps.wantOrder h.unbounded _

theorem Keeps.preparingDone (h : Keeps r s) : Keeps r (preparingDone s) := by
  unfold Machine.preparingDone
  split
  · exact h.jobEndCheck
  · exact h.prepCheck
  · exact h.enterLoading

theorem Keeps.loadDone (h : Keeps r s) : Keeps r (loadDone s) := by
  unfold Machine.loadDone
  dsimp only
  repeat' split
  · exact (Keeps.closeWalk h.unbounded).enterReturning
  · exact (Keeps.boundary h.unbounded).takeGuard
  · exact h.plateSense

theorem Keeps.loadEmpty (h : Keeps r s) : Keeps r (loadEmpty s) := by
  unfold Machine.loadEmpty
  have hraised := fun ctx => (h.raiseFault .slotEmpty ctx).takeAhead
  dsimp only
  repeat' split
  · exact hraised _
  · exact ((hraised _).markUnlessSet _).endJob false
  · exact (hraised _).markUnlessSet _
  · exact ((hraised _).markUnlessSet _).jobEndCheck

theorem Keeps.tileMoved (h : Keeps r s) : Keeps r (tileMoved s) := by
  unfold Machine.tileMoved
  split
  · exact h.settleNow _
  · exact h.unbounded

theorem Keeps.returnDone (h : Keeps r s) : Keeps r (returnDone s) := by
  unfold Machine.returnDone
  dsimp only
  split
  · refine Keeps.fatalLeave ?_
    split
    · exact Keeps.unbounded (h.raiseFault _ _).takeAhead
    · exact (h.raiseFault _ _).takeAhead
  · exact Keeps.jobEndCheck h.unbounded

theorem Keeps.returningDone (h : Keeps r s) : Keeps r (returningDone s) := by
  unfold Machine.returningDone
  split
  · exact Keeps.wantOrder h.unbounded _
  · exact Keeps.wantOrder h.unbounded _
  · exact h.returnDone
  · exact h

theorem Keeps.passOrderDone (h : Keeps r s) : Keeps r (passOrderDone s) := by
  unfold Machine.passOrderDone
  split
  · exact h.preparingDone
  · exact h.loadDone
  · exact h.tileMoved
  · exact h.returningDone
  all_goals exact h

theorem Keeps.orderDone (h : Keeps r s) (o : Order) : Keeps r (orderDone o s) := by
  unfold Machine.orderDone
  dsimp only
  split
  · exact (h.endOrder o).passOrderDone
  · exact (h.endOrder o).calOrderDone
  · exact (h.endOrder o).endHome _ _

theorem Keeps.takeReport (h : Keeps r s) (kind : ReportKind) (number : Nat) : Keeps r (takeReport kind number s) := by
  unfold Machine.takeReport
  have hnoted := h.noteReport kind number
  dsimp only
  split
  · exact hnoted.orderDone _
  · exact (hnoted.endOrder _).loadEmpty
  · exact Keeps.motionFatal hnoted.unbounded _ _
  · exact hnoted.completeStop _
  · exact hnoted.discardReport

theorem Keeps.takeByte (h : Keeps r s) (x : RxByte) : Keeps r (takeByte s x) := by
  unfold Machine.takeByte
  have hassembled := h.assemble x
  split
  · next heq => rwa [heq] at hassembled
  · next heq =>
    rw [heq] at hassembled
    split
    · exact hassembled.discardReport
    · exact hassembled.takeReport _ _

/-! ### Capture.lean: a failed attempt -/

theorem Keeps.loseRung (h : Keeps r s) (rung started : Nat) : Keeps r (loseRung rung started s) := by
  unfold Machine.loseRung
  split
  · exact h
  · exact (((h.enterRung _).addCounter _ _).raiseFault _ _).takeAhead.mapLadder _

theorem Keeps.decideFailure (h : Keeps r s) (bankFault : Bool) (rung a started : Nat) :
    Keeps r (decideFailure bankFault rung a started s) := by
  unfold Machine.decideFailure
  split
  · repeat' split
    · exact h.restart _
    · exact h
    · exact h.restart _
    · exact h.mapLadder _
    · exact h.loseRung _ _
  · exact h

theorem Keeps.failExposure (h : Keeps r s) (bankFault : Bool) : Keeps r (failExposure bankFault s) := by
  unfold Machine.failExposure
  dsimp only
  split
  · exact h.takeAhead
  · exact (h.takeAhead.markFilling _).decideFailure _ _ _ _

theorem Keeps.exposureRanOut (h : Keeps r s) (x : Exposure) (verdict : Verdict) : Keeps r (exposureRanOut x verdict s) := by
  unfold Machine.exposureRanOut
  repeat' split
  · exact h.calExposureEnd _
  · exact (h.raiseFault _ _).failExposure _
  · exact h
  · exact h

theorem Keeps.exposureFaulted (h : Keeps r s) (purpose : Purpose) : Keeps r (exposureFaulted purpose s) := by
  unfold Machine.exposureFaulted
  split
  · exact h.failExposure _
  · exact h.failCal _

theorem Keeps.litFault (h : Keeps r s) (i : BankId) (x : Exposure) : Keeps r (litFault i x s) :=
  ((h.darkenNow.failBank i true).raiseFault _ _).exposureFaulted _

/-! ### Capture.lean: frames, attempts, planes, merges, conversions, the budget -/

theorem Keeps.progressOn (h : Keeps r s) : Keeps r (progressOn s) := h.progress.takeGuard

theorem Keeps.frameDiscarded (h : Keeps r s) (i : SlotId) (d : Slot) (hd : Bounded r → d.lines ≤ 65535) :
    Keeps r (frameDiscarded i d s) := by
  unfold Machine.frameDiscarded
  have hdropped := h.dropFrame i d .discarded hd
  dsimp only
  split
  · exact (hdropped.endFlight i).clearCurrent.progressOn
  · exact hdropped.closeCal

theorem Keeps.frameFailed (h : Keeps r s) (i : SlotId) (d : Slot) (kind : FaultKind) (verdict : FrameVerdict)
    (hd : Bounded r → d.lines ≤ 65535) : Keeps r (frameFailed i d kind verdict s) := by
  unfold Machine.frameFailed
  have hraised := fun ctx => (h.dropFrame i d verdict hd).raiseFault kind ctx
  dsimp only
  split
  · exact ((((hraised _).takeAhead.endFlight i).clearCurrent).decideFailure _ _ _ _).progressOn
  · exact (hraised _).calFrameFailed

theorem Keeps.frameValid (h : Keeps r s) (i : SlotId) (d : Slot) (hd : Bounded r → d.lines ≤ 65535) : Keeps r (frameValid i d s) := by
  unfold Machine.frameValid
  dsimp only
  split
  · exact ((h.validateFrame i d 0 hd).frameSucceeded _ _ _ _).progressOn
  · exact (h.validateFrame i d _ hd).calFrameValid

theorem Keeps.judgeFrame (h : Keeps r s) (i : SlotId) (broken : Bool) : Keeps r (judgeFrame i broken s) := by
  unfold Machine.judgeFrame
  split
  · exact h
  · next d hd =>
    have hlines : Bounded r → d.lines ≤ 65535 := fun b => (h.bounds b).slot i d hd
    repeat' split
    · exact h.frameDiscarded i d hlines
    · exact h.frameFailed i d _ _ hlines
    · exact h.frameValid i d hlines

theorem Keeps.giveUpFrame (h : Keeps r s) (i : SlotId) (marked : Bool) : Keeps r (giveUpFrame i marked s) := by
  unfold Machine.giveUpFrame
  split
  · exact h.unbounded
  · exact h

theorem Keeps.failedBankDue (h : Keeps r s) (l : Ladder) (rung a : Nat) : Keeps r (failedBankDue l rung a s) := by
  unfold Machine.failedBankDue
  repeat' split
  · exact h.moveBank
  · exact h.restart _
  · exact (h.raiseFault _ _).takeAhead.noLight

theorem claimedPlane_bounded (owner : Owner) (c l : Nat) : (claimedPlane owner c l).Bounded := fun _ hn => nomatch hn

theorem Keeps.claimPlane (h : Keeps r s) (j : JobInHand) (t : Tile) (b : BankInUse) (i : PlaneId) : Keeps r (claimPlane j t b i s) :=
  (h.setPlane i (some (claimedPlane ⟨j.number, j.record, t.row, t.col, t.ordinal, t.started⟩ s.params.clipLevel s.params.signalFloor))
    fun _ x hx => by cases hx; exact claimedPlane_bounded _ _ _).unbounded

theorem Keeps.rungMerged (h : Keeps r s) (f : Flight) : Keeps r (rungMerged f s) := by
  unfold Machine.rungMerged
  split
  · exact h.finishRestart _
  · exact h.enterRung _

theorem Keeps.attentionPause (h : Keeps r s) (attention : Bool) : Keeps r (attentionPause attention s) := by
  unfold Machine.attentionPause
  repeat' split
  all_goals first | exact h | exact h.unbounded

theorem Keeps.finishConversion (h : Keeps r s) (c : Conversion) (fields : LadderFields) (hc : s.conv = some c) :
    Keeps r (finishConversion c fields s) := by
  unfold Machine.finishConversion
  have hrecorded := fun t n => (((h.writeRecord t n).attentionPause t.attention).readyBuffer c
    (Machine.attentionPause t.attention (Machine.writeRecord t n s)).out.newest).addHistogram c.figures
      fun b => (b.conv c (by simpa using hc)).1
  exact Keeps.jobEndCheck (Keeps.withConv (((hrecorded _ _).countConversion _ _).releasePlane _) none fun _ x hx => nomatch hx).unbounded

theorem Keeps.windUp (h : Keeps r s) : Keeps r (windUp s) := by
  unfold Machine.windUp
  have hmarked := h.markUnlessSet .overtime
  dsimp only
  split
  · split
    · exact hmarked.closeWalk
    · split
      · exact (hmarked.closeWalk.stopLadder _).progress
      · exact hmarked.closeWalk.settle _
  · split
    · exact hmarked
    · exact hmarked.closeWalk.settle _
  · exact hmarked

/-! ### Params.lean and Zones.lean -/

theorem Keeps.setTimeRes (h : Keeps r s) (n : Nat) : Keeps r (setTimeRes n s) := by
  unfold Machine.setTimeRes
  split
  · exact h
  · exact h.unbounded

theorem Keeps.setLevel (h : Keeps r s) (i : BankId) (n : Nat) : Keeps r (setLevel i n s) := by
  unfold Machine.setLevel
  split
  · exact h
  · cases i <;> exact (h.levelChanged _ n).unbounded

theorem Keeps.setNumber (h : Keeps r s) (p : ParamId) (n : Nat) : Keeps r (setNumber p n s) := by
  cases p with
  | lampLevelA => exact h.setLevel .a n
  | lampLevelB => exact h.setLevel .b n
  | timeRes => exact h.setTimeRes n
  | notifyCorrected => exact h
  | notifyDegraded => exact h
  | notifyFatal => exact h
  | counterNotify => exact h
  | _ => exact h.unbounded

theorem Keeps.setOnOff (h : Keeps r s) (p : ParamId) (on : Bool) : Keeps r (setOnOff p on s) := by
  unfold Machine.setOnOff
  split
  · exact h.unbounded
  · exact h.unbounded
  · exact h.unbounded
  · exact h

theorem Keeps.setNamed (h : Keeps r s) (p : ParamId) (v : RawValue) : Keeps r (setNamed p v s).2 := by
  unfold Machine.setNamed
  split
  · split
    · exact h
    · exact h.setNumber _ _
  · exact h.setOnOff _ _
  · split
    · exact h.unbounded
    · exact h
  · exact h

theorem Keeps.setParam (h : Keeps r s) (arg : Nat × RawValue) : Keeps r (setParam arg s).2 := by
  unfold Machine.setParam
  split
  · split
    · exact h
    · split
      · exact h
      · exact h.setNamed _ _
  · split
    · exact h
    · exact h.setNamed _ _

theorem Keeps.setTime (h : Keeps r s) (arg : Nat × Option Nat) (hcount : arg.1 ≤ 4294967295) : Keeps r (setTime arg s).2 := by
  have hloaded : Keeps r (Machine.loadCount arg.1 s) := h.withTime _ fun b => ⟨b.time.1, hcount⟩
  unfold Machine.setTime
  dsimp only
  split
  · exact hloaded
  · exact hloaded.setTimeRes _

theorem Keeps.setZone (h : Keeps r s) (args : List Nat) : Keeps r (setZone args s).2 := by
  unfold Machine.setZone
  split
  · exact h
  · refine h.withZones _ fun b => ⟨by simpa using b.zones.1, fun z hz => ?_⟩
    rcases List.mem_or_eq_of_mem_set hz with hmem | heq
    · exact b.zones.2 z hmem
    · cases heq
      exact Nat.zero_le _

theorem Keeps.clearZone (h : Keeps r s) (code : Nat) : Keeps r (clearZone code s).2 := by
  unfold Machine.clearZone
  dsimp only
  repeat' split
  · exact h.withZones _ fun _ => ⟨rfl, fun z hz => by simp [resetZones] at hz⟩
  · refine h.withZones _ fun b => ⟨by simpa using b.zones.1, fun z hz => ?_⟩
    rcases List.mem_or_eq_of_mem_set hz with hmem | heq
    · exact b.zones.2 z hmem
    · cases heq
  · exact h

end Sys2Proof.Machine
end

section
/-! The request rows as one family: each is `serve` of its block, each block keeps the bounds, and a block that refuses leaves the state
(R189 to R191); O9 and O10 from them. -/
namespace Sys2Proof.Machine
open Sys2Proof

/-- What a request row hands to `serve`: how its body is read, and what its unit answers. -/
def requestBlock : Instr → List Byte → State → ReplyBody × State
  | .enqueuePlate => withBody jobLayout enqueue
  | .cancelPlate => withBody (numBody 2) cancel
  | .readQueue => withBody (optBody 2) readQueue
  | .readHistory => withBody (optBody 2) readHistory
  | .startQueue => noBody startQueue
  | .stopQueue => noBody stopQueue
  | .pause => noBody pause
  | .resume => noBody resume
  | .clearHalt => withBody (numBody 1) clearHalt
  | .readPass => noBody readPass
  | .lampReset => withBody (numBody 1) lampReset
  | .readLamps => noBody readLamps
  | .readIntake => withBody (numBody 1) readIntake
  | .readConverter => noBody readConverter
  | .calibrate => withBody (numsBody calSizes) calibrate
  | .readCalibration => noBody readCalibration
  | .home => noBody home
  | .readMotion => noBody readMotion
  | .setZone => withBody (numsBody zoneSizes) setZone
  | .clearZone => withBody (numBody 1) clearZone
  | .readZones => noBody readZones
  | .readTileRecord => withBody choiceLayout readTileRecord
  | .readLogState => noBody readLogState
  | .readHistogram => noBody readHistogram
  | .readCounters => withBody (numBody 1) readCounters
  | .setFaultControl => withBody faultControlLayout setFaultControl
  | .clearFault => withBody (numBody 1) clearFault
  | .injectFault => withBody (numBody 1) injectFault
  | .lockInjection => noBody lockInjection
  | .readFaults => noBody readFaults
  | .setParam => withBody setParamLayout setParam
  | .getParam => withBody (numBody 1) getParam
  | .setTime => withBody setTimeLayout setTime
  | .readTime => noBody readTime
  | .identify => noBody identify
  | _ => fun _ s => (refuse .badField, s)

theorem exec_eq_serve {c : Instr} {code : Nat} (h : requestCode c = some code) (s : State) :
    exec c s = serve code (requestBlock c) s := by
  cases c <;> cases h <;> rfl

theorem requestCode_le {c : Instr} {code : Nat} (h : requestCode c = some code) : code < 65536 := by
  cases c <;> cases h <;> decide

/-! ### What a block keeps -/

variable {r s : State}

theorem Keeps.noBody {block : State → ReplyBody × State} (h : Keeps r s) (hb : Keeps r (block s).2) (body : List Byte) :
    Keeps r (noBody block body s).2 := by
  cases body with
  | nil => exact hb
  | cons x xs => exact h

theorem Keeps.withBody {α : Type} {layout : List Byte → Option α} {block : α → State → ReplyBody × State} (h : Keeps r s)
    (body : List Byte) (hb : ∀ a, layout body = some a → Keeps r (block a s).2) : Keeps r (withBody layout block body s).2 := by
  unfold Machine.withBody
  split
  · next a ha => exact hb a ha
  · exact h

theorem readQueue_snd (n : Option Nat) (s : State) : (readQueue n s).2 = s := by
  unfold readQueue
  repeat' split
  all_goals rfl

theorem readHistory_snd (n : Option Nat) (s : State) : (readHistory n s).2 = s := by
  unfold readHistory
  repeat' split
  all_goals rfl

theorem getParam_snd (code : Nat) (s : State) : (getParam code s).2 = s := by
  unfold getParam
  repeat' split
  all_goals rfl

theorem takeNum_lt {n v : Nat} {bs rest : List Byte} (h : takeNum n bs = some (v, rest)) : v < 256 ^ n := by
  unfold takeNum at h
  split at h
  · cases h
  · next hlen =>
    cases h
    have hlt := leNat_lt (bs.take n)
    rwa [List.length_take, Nat.min_eq_left (Nat.not_lt.mp hlen)] at hlt

/-- The count of a SET-TIME is read from 4 bytes. -/
theorem setTimeLayout_count {body : List Byte} {a : Nat × Option Nat} (h : setTimeLayout body = some a) : a.1 ≤ 4294967295 := by
  unfold setTimeLayout at h
  cases hn : takeNum 4 body with
  | none => simp [hn] at h
  | some x =>
    have hlt := takeNum_lt (v := x.1) (rest := x.2) hn
    simp only [hn, Option.bind_eq_bind, Option.bind_some, Option.pure_def, Option.bind_eq_some_iff, Option.some.injEq] at h
    obtain ⟨res, -, rfl⟩ := h
    exact Nat.le_of_lt_succ hlt

theorem requestBlock_keeps (c : Instr) (body : List Byte) (s : State) : Keeps s (requestBlock c body s).2 := by
  have h := Keeps.refl s
  cases c with
  | enqueuePlate => exact h.withBody body fun a _ => h.enqueue a
  | cancelPlate => exact h.withBody body fun a _ => h.cancel a
  | readQueue => exact h.withBody body fun a _ => by rw [readQueue_snd]; exact h
  | readHistory => exact h.withBody body fun a _ => by rw [readHistory_snd]; exact h
  | startQueue => exact h.noBody h.startQueue body
  | stopQueue => exact h.noBody h.stopQueue body
  | pause => exact h.noBody h.pause body
  | resume => exact h.noBody h.resume body
  | clearHalt => exact h.withBody body fun a _ => h.clearHalt a
  | lampReset => exact h.withBody body fun a _ => h.lampReset a
  | readIntake => exact h.withBody body fun a _ => h.readIntake a
  | calibrate => exact h.withBody body fun a _ => h.calibrate a
  | home => exact h.noBody h.home body
  | setZone => exact h.withBody body fun a _ => h.setZone a
  | clearZone => exact h.withBody body fun a _ => h.clearZone a
  | readTileRecord => exact h.withBody body fun a _ => h.readTileRecord a
  | readCounters => exact h.withBody body fun a _ => h.readCounters a
  | setFaultControl => exact h.withBody body fun a _ => h.setFaultControl a
  | clearFault => exact h.withBody body fun a _ => h.clearFault a
  | injectFault => exact h.withBody body fun a _ => h.injectFault a
  | lockInjection => exact h.noBody h.unbounded body
  | setParam => exact h.withBody body fun a _ => h.setParam a
  | getParam => exact h.withBody body fun a _ => by rw [getParam_snd]; exact h
  | setTime => exact h.withBody body fun a ha => h.setTime a (setTimeLayout_count ha)
  | readPass | readLamps | readConverter | readCalibration | readMotion | readZones | readLogState | readHistogram | readFaults
  | readTime | identify => exact h.noBody h body
  | _ => exact h

/-! ### What a block that refuses leaves -/

/-- The answer is a refusal. -/
def ReplyBody.isRefused : ReplyBody → Bool
  | .refused _ _ _ => true
  | .ok _ | .adjusted _ => false

/-- A unit's answer with the state it leaves: where it refuses, the state is the one it was asked in (R189). -/
def LeavesIfRefused (s : State) (a : ReplyBody × State) : Prop := a.1.isRefused = true → a.2 = s

theorem leaves_same (s : State) (reply : ReplyBody) : LeavesIfRefused s (reply, s) := fun _ => rfl

theorem leaves_ok (s t : State) (content : Content) : LeavesIfRefused s (.ok content, t) := fun h => nomatch h

theorem leaves_okOrAdjusted (s t : State) (content : Content) (p : Prop) [Decidable p] :
    LeavesIfRefused s (if p then .ok content else .adjusted content, t) := by
  intro h
  split at h <;> cases h

theorem noBody_leaves {block : State → ReplyBody × State} (hb : ∀ s, LeavesIfRefused s (block s)) (body : List Byte) (s : State) :
    LeavesIfRefused s (noBody block body s) := by
  cases body with
  | nil => exact hb s
  | cons x xs => exact leaves_same s _

theorem withBody_leaves {α : Type} {layout : List Byte → Option α} {block : α → State → ReplyBody × State}
    (hb : ∀ a s, LeavesIfRefused s (block a s)) (body : List Byte) (s : State) : LeavesIfRefused s (withBody layout block body s) := by
  unfold withBody
  split
  · exact hb _ s
  · exact leaves_same s _

theorem enqueue_leaves (a : RawJob) (s : State) : LeavesIfRefused s (enqueue a s) := by
  unfold enqueue
  repeat' split
  · exact leaves_same s _
  · exact leaves_same s _
  · exact leaves_same s _
  · exact leaves_same s _
  · exact leaves_okOrAdjusted s _ _ _

theorem cancelActive_leaves (s : State) : LeavesIfRefused s (cancelActive s) := by
  unfold cancelActive
  dsimp only
  split
  case h_4 | h_5 | h_6 | h_7 => exact leaves_ok s _ _
  all_goals exact leaves_same s _

theorem cancel_leaves (n : Nat) (s : State) : LeavesIfRefused s (cancel n s) := by
  unfold cancel
  split
  · exact leaves_same s _
  split
  · exact cancelActive_leaves s
  · exact leaves_ok s _ _

theorem startQueue_leaves (s : State) : LeavesIfRefused s (startQueue s) := by
  unfold startQueue
  split
  · exact leaves_same s _
  · exact leaves_ok s _ _

theorem stopQueue_leaves (s : State) : LeavesIfRefused s (stopQueue s) := by
  unfold stopQueue
  split
  · exact leaves_ok s _ _
  · exact leaves_same s _

theorem pause_leaves (s : State) : LeavesIfRefused s (pause s) := by
  unfold pause
  dsimp only
  split
  · exact leaves_same s _
  split
  · exact leaves_same s _
  · exact leaves_same s _
  · exact leaves_same s _
  · exact leaves_same s _
  · exact leaves_ok s _ _

theorem resume_leaves (s : State) : LeavesIfRefused s (resume s) := by
  unfold resume
  repeat' split
  · exact leaves_same s _
  · exact leaves_same s _
  · exact leaves_ok s _ _
  · exact leaves_ok s _ _

theorem clearHalt_leaves (n : Nat) (s : State) : LeavesIfRefused s (clearHalt n s) := by
  unfold clearHalt
  split
  · exact leaves_same s _
  split
  · dsimp only
    split <;> exact leaves_ok s _ _
  · exact leaves_same s _

theorem lampReset_leaves (n : Nat) (s : State) : LeavesIfRefused s (lampReset n s) := by
  unfold lampReset
  repeat' split
  · exact leaves_same s _
  · exact leaves_same s _
  · exact leaves_ok s _ _

theorem readIntake_leaves (n : Nat) (s : State) : LeavesIfRefused s (readIntake n s) := by
  unfold readIntake
  dsimp only
  split
  · exact leaves_same s _
  · exact leaves_same s _
  · exact leaves_ok s _ _

theorem calibrate_leaves (args : List Nat) (s : State) : LeavesIfRefused s (calibrate args s) := by
  unfold calibrate
  split
  · split
    · exact leaves_same s _
    split
    · exact leaves_same s _
    split
    · exact leaves_same s _
    split
    · exact leaves_same s _
    split
    · exact leaves_same s _
    · exact leaves_okOrAdjusted s _ _ _
  · exact leaves_same s _

theorem home_leaves (s : State) : LeavesIfRefused s (home s) := by
  unfold home
  repeat' split
  · exact leaves_same s _
  · exact leaves_same s _
  · exact leaves_ok s _ _

theorem setZone_leaves (args : List Nat) (s : State) : LeavesIfRefused s (setZone args s) := by
  unfold setZone
  split
  · exact leaves_same s _
  · exact leaves_ok s _ _

theorem clearZone_leaves (n : Nat) (s : State) : LeavesIfRefused s (clearZone n s) := by
  unfold clearZone
  dsimp only
  repeat' split
  · exact leaves_ok s _ _
  · exact leaves_ok s _ _
  · exact leaves_same s _

/-- Opened by `delta`, as `readTileRecord_leaves` is. -/
theorem readTileRecord_leavesIfRefused (choice : RecordChoice) (s : State) : LeavesIfRefused s (readTileRecord choice s) := by
  delta readTileRecord
  generalize (if s.unread = 0 then none else s.heldRecord ((s.out.readMark + 1) % modU32)) = next
  cases choice with
  | unknown => exact leaves_same s _
  | sequence n =>
    dsimp only
    cases s.heldRecord n with
    | none => exact leaves_same s _
    | some t => exact leaves_ok s _ _
  | next =>
    cases next with
    | none => exact leaves_same s _
    | some t => exact leaves_ok s _ _

theorem readCounters_leaves (n : Nat) (s : State) : LeavesIfRefused s (readCounters n s) := by
  unfold readCounters
  dsimp only
  split
  · exact leaves_same s _
  · exact leaves_same s _
  · exact leaves_ok s _ _

theorem setFaultControl_leaves (a : Nat × Option Nat × Option Nat) (s : State) : LeavesIfRefused s (setFaultControl a s) := by
  unfold setFaultControl
  split
  · exact leaves_same s _
  dsimp only
  repeat' split
  · exact leaves_same s _
  · exact leaves_same s _
  · exact leaves_same s _
  · exact leaves_ok s _ _

theorem clearFault_leaves (n : Nat) (s : State) : LeavesIfRefused s (clearFault n s) := by
  unfold clearFault
  split
  · exact leaves_same s _
  · exact leaves_ok s _ _

theorem injectFault_leaves (n : Nat) (s : State) : LeavesIfRefused s (injectFault n s) := by
  unfold injectFault
  split
  · exact leaves_same s _
  split
  · exact leaves_same s _
  · exact leaves_ok s _ _

theorem setNamed_leaves (p : ParamId) (v : RawValue) (s : State) : LeavesIfRefused s (setNamed p v s) := by
  unfold setNamed
  split
  · split
    · exact leaves_same s _
    · exact leaves_okOrAdjusted s _ _ _
  · exact leaves_ok s _ _
  · split
    · exact leaves_ok s _ _
    · exact leaves_same s _
  · exact leaves_same s _

theorem setParam_leaves (a : Nat × RawValue) (s : State) : LeavesIfRefused s (setParam a s) := by
  unfold setParam
  repeat' split
  · exact leaves_same s _
  · exact leaves_same s _
  · exact setNamed_leaves _ _ s
  · exact leaves_same s _
  · exact setNamed_leaves _ _ s

theorem setTime_leaves (a : Nat × Option Nat) (s : State) : LeavesIfRefused s (setTime a s) := by
  unfold setTime
  dsimp only
  split
  · exact leaves_ok s _ _
  · exact leaves_okOrAdjusted s _ _ _

theorem requestBlock_leavesIfRefused (c : Instr) (body : List Byte) (s : State) : LeavesIfRefused s (requestBlock c body s) := by
  cases c with
  | enqueuePlate => exact withBody_leaves enqueue_leaves body s
  | cancelPlate => exact withBody_leaves cancel_leaves body s
  | readQueue => exact withBody_leaves (fun a s _ => readQueue_snd a s) body s
  | readHistory => exact withBody_leaves (fun a s _ => readHistory_snd a s) body s
  | startQueue => exact noBody_leaves startQueue_leaves body s
  | stopQueue => exact noBody_leaves stopQueue_leaves body s
  | pause => exact noBody_leaves pause_leaves body s
  | resume => exact noBody_leaves resume_leaves body s
  | clearHalt => exact withBody_leaves clearHalt_leaves body s
  | lampReset => exact withBody_leaves lampReset_leaves body s
  | readIntake => exact withBody_leaves readIntake_leaves body s
  | calibrate => exact withBody_leaves calibrate_leaves body s
  | home => exact noBody_leaves home_leaves body s
  | setZone => exact withBody_leaves setZone_leaves body s
  | clearZone => exact withBody_leaves clearZone_leaves body s
  | readTileRecord => exact withBody_leaves readTileRecord_leavesIfRefused body s
  | readCounters => exact withBody_leaves readCounters_leaves body s
  | setFaultControl => exact withBody_leaves setFaultControl_leaves body s
  | clearFault => exact withBody_leaves clearFault_leaves body s
  | injectFault => exact withBody_leaves injectFault_leaves body s
  | lockInjection => exact noBody_leaves (fun s => leaves_ok s _ _) body s
  | setParam => exact withBody_leaves setParam_leaves body s
  | getParam => exact withBody_leaves (fun a s _ => getParam_snd a s) body s
  | setTime => exact withBody_leaves setTime_leaves body s
  | readPass | readLamps | readConverter | readCalibration | readMotion | readZones | readLogState | readHistogram | readFaults
  | readTime | identify => exact noBody_leaves (fun s => leaves_same s _) body s
  | _ => exact leaves_same s _

/-! ### A request at the head of the intake -/

/-- What a request row does with the request at the head: the intake's rest stands, the block's answer is the one reply more, and the link
is otherwise as the block's notices leave it. -/
theorem exec_request {c : Instr} {code : Nat} {tag flags : Byte} {body : List Byte} {rest : List (List Byte)}
    (hc : requestCode c = some code) (h : AtHead code tag flags body rest s) :
    exec c s = .next (queueReply code tag (requestBlock c body { s with link.intake := rest }).1
      (requestBlock c body { s with link.intake := rest }).2) := by
  rw [exec_eq_serve hc, serve_of_atHead _ h (requestCode_le hc)]

/-- Settles O9: every request row is `serve` of a block that touches of the link the notices alone. -/
theorem everyRequestIsAnsweredOnce : Obligations.EveryRequestIsAnsweredOnce := by
  intro c code tag flags body rest s hc h
  have hlink := (requestBlock_keeps c body { s with link.intake := rest }).link
  refine ⟨_, (requestBlock c body { s with link.intake := rest }).1, exec_request hc h, ?_, ?_, ?_, ?_, ?_⟩
  all_goals rw [queueReply, hlink]

/-- Settles O10: the reply queued last is the block's own, so the block refused, and a block that refuses leaves its state. -/
theorem refusedRequestChangesNothingElse : Obligations.RefusedRequestChangesNothingElse := by
  intro c code tag flags body rest s t reason index content hc h hexec hreply
  rw [exec_request hc h] at hexec
  obtain rfl := Host.Outcome.next.inj hexec
  have hlink := (requestBlock_keeps c body { s with link.intake := rest }).link
  have hbody : (requestBlock c body { s with link.intake := rest }).1 = .refused reason index content := by
    rw [queueReply_replies, hlink] at hreply
    simpa using hreply
  have hleft := requestBlock_leavesIfRefused c body { s with link.intake := rest } (by rw [hbody]; rfl)
  rw [hbody, hleft]
  rfl

end Sys2Proof.Machine
end

section
/-! Every step keeps the bounds and exclusions that the rules lay down for every moment: what each command keeps, and O5 to O8. -/
namespace Sys2Proof.Machine
open Sys2Proof

variable {s t : State}

/-- What a step keeps. A step may also take from the request link's queues and add to them, which no operation of `Keeps` does. -/
structure Preserves (s t : State) : Prop where
  link : LinkOk s → LinkOk t
  lamps : LampsOk s → LampsOk t
  bounds : Bounded s → Bounded t
  jobs : JobsOk s → JobsOk t

theorem Keeps.preserves (h : Keeps s t) : Preserves s t := ⟨h.linkOk, h.lamps, h.bounds, h.jobs⟩

/-- A command that changes the request link alone. -/
theorem Preserves.withLink (l : Link) (h : LinkOk s → LinkOk { s with link := l }) : Preserves s { s with link := l } :=
  ⟨h, id, fun b => ⟨b.queue, b.lamps, b.intake, b.merge, b.conv, b.cal, b.motion, b.zones, b.out, b.stats, b.faults, b.time⟩, id⟩

/-- A reply queued where there is room, the request it answers being gone from the intake. -/
theorem preserves_reply {rest : List (List Byte)} {tr : List Byte} (code : Nat) (tag : Byte) (a : ReplyBody × State)
    (hin : s.link.intake = tr :: rest) (hroom : s.link.replies.length < 4) (ha : Keeps { s with link.intake := rest } a.2) :
    Preserves s (queueReply code tag a.1 a.2) := by
  have hlink := ha.link
  refine ⟨fun ⟨hi, _, hn⟩ => ⟨?_, ?_, ha.notices hn⟩, fun h => ha.lamps h, fun b => ?_, fun h => ha.jobs h⟩
  · rw [queueReply, hlink]
    rw [hin] at hi
    exact (Nat.le_succ _).trans hi
  · rw [queueReply, hlink]
    simpa using hroom
  · obtain ⟨b1, b2, b3, b4, b5, b6, b7, b8, b9, b10, b11, b12⟩ :=
      ha.bounds ⟨b.queue, b.lamps, b.intake, b.merge, b.conv, b.cal, b.motion, b.zones, b.out, b.stats, b.faults, b.time⟩
    exact ⟨b1, b2, b3, b4, b5, b6, b7, b8, b9, b10, b11, b12⟩

theorem serve_preserves {code : Nat} {block : List Byte → State → ReplyBody × State} (hb : ∀ body s, Keeps s (block body s).2)
    (h : serve code block s = .next t) : Preserves s t := by
  rcases serve_cases h with rfl | ⟨tr, rest, hin, hroom, rfl⟩
  · exact (Keeps.refl t).preserves
  · exact preserves_reply code (tagOf tr) (block (tr.drop 6) _) hin hroom (hb _ _)

/-! ### The resets -/

/-- A state whose blocks are all at their reset values, but for what a reset lets stand. -/
structure FreshBlocks (s t : State) : Prop where
  link : t.link.intake = [] ∧ t.link.replies.length ≤ 4 ∧ t.link.notices = []
  queue : t.queue = resetQueue
  lamps : t.lamps.a = resetBank s.lamps.a.faultInput ∧ t.lamps.b = resetBank s.lamps.b.faultInput ∧ t.lamps.exposure = none
  intake : ∃ rx, t.intake = resetIntake rx
  merge : t.merge = resetMerge
  conv : t.conv = none
  cal : s.cal.Bounded → t.cal.Bounded
  motion : s.motion.Bounded → t.motion.Bounded
  zones : t.zones = resetZones
  out : t.out = resetOutput
  stats : t.stats = resetStats
  faults : t.faults.kinds = resetKinds
  time : t.time = resetTime

theorem resetKinds_bounded : resetKinds.length = 16 ∧ ∀ k ∈ resetKinds, k.count ≤ 255 := by decide

theorem resetStats_bounded : resetStats.Bounded :=
  ⟨⟨by decide, by decide⟩, ⟨by decide, by decide⟩, Nat.zero_le _, Nat.zero_le _, Nat.zero_le _⟩

theorem FreshBlocks.linkOk (h : FreshBlocks s t) : LinkOk t := by
  obtain ⟨hi, hr, hn⟩ := h.link
  exact ⟨by simp [hi], hr, by simp [hn]⟩

theorem FreshBlocks.lampsOk (h : FreshBlocks s t) : LampsOk t := by
  obtain ⟨ha, hb, hx⟩ := h.lamps
  simp [LampsOk, ha, hb, hx, resetBank]

theorem FreshBlocks.jobsOk (h : FreshBlocks s t) : JobsOk t := by
  rw [JobsOk, h.queue]
  exact ⟨⟨le_rfl, by decide⟩, Nat.zero_le _, fun _ hj => (nomatch hj), List.nodup_nil, List.nodup_nil⟩

theorem FreshBlocks.bounded (h : FreshBlocks s t) (hcal : s.cal.Bounded) (hmotion : s.motion.Bounded) : Bounded t := by
  obtain ⟨rx, hrx⟩ := h.intake
  refine ⟨?_, ?_, ?_, ?_, ?_, h.cal hcal, h.motion hmotion, ?_, ?_, ?_, ?_, ?_⟩
  · rw [h.queue]
    exact ⟨Nat.zero_le _, Nat.zero_le _⟩
  · rw [Lamps.Bounded, h.lamps.1, h.lamps.2.1]
    exact ⟨Nat.zero_le _, Nat.zero_le _⟩
  · rw [hrx]
    exact ⟨fun _ hd => (nomatch hd), fun _ hd => (nomatch hd), fun _ hd => (nomatch hd), Nat.zero_le _⟩
  · rw [h.merge]
    exact ⟨fun _ hp => (nomatch hp), fun _ hp => (nomatch hp), Nat.zero_le _⟩
  · rw [h.conv]
    exact fun _ hc => (nomatch hc)
  · rw [h.zones]
    exact ⟨rfl, fun z hz => by simp [resetZones] at hz⟩
  · rw [h.out]
    exact ⟨⟨fun _ hd => (nomatch hd), fun _ hd => (nomatch hd), fun _ hd => (nomatch hd), fun _ hd => (nomatch hd)⟩, Nat.zero_le _,
      Nat.zero_le _, fun _ hd => (nomatch hd), Nat.zero_le _, Nat.zero_le _⟩
  · rw [h.stats]
    exact resetStats_bounded
  · rw [Faults.Bounded, h.faults]
    exact resetKinds_bounded
  · rw [h.time]
    exact ⟨Nat.zero_le _, Nat.zero_le _⟩

theorem FreshBlocks.preserves (h : FreshBlocks s t) : Preserves s t :=
  ⟨fun _ => h.linkOk, fun _ => h.lampsOk, fun b => h.bounded b.cal b.motion, fun _ => h.jobsOk⟩

theorem Preserves.trans {r s t : State} (h : Preserves r s) (k : Preserves s t) : Preserves r t :=
  ⟨k.link ∘ h.link, k.lamps ∘ h.lamps, k.bounds ∘ h.bounds, k.jobs ∘ h.jobs⟩

theorem resetCal_bounded : resetCal.Bounded := ⟨fun _ hd => (nomatch hd), fun _ hd => (nomatch hd)⟩

theorem resetMotion_bounded : resetMotion.Bounded := ⟨by decide, by decide⟩

theorem powerOn_fresh (s : State) : FreshBlocks s (powerOnState s) :=
  ⟨⟨rfl, Nat.zero_le _, rfl⟩, rfl, ⟨rfl, rfl, rfl⟩, ⟨.idle, rfl⟩, rfl, rfl, fun _ => resetCal_bounded, fun _ => resetMotion_bounded, rfl, rfl,
    rfl, rfl, rfl⟩

theorem powerOn_preserves (s : State) : Preserves s (assertedFaults (powerOnState s)) :=
  (powerOn_fresh s).preserves.trans (Keeps.refl _).assertedFaults.preserves

theorem takeReset_preserves (tag : Byte) (s : State) : Preserves s (takeReset tag s) := by
  have hstop := (Keeps.refl s).sendStop
  have hfresh : FreshBlocks s (queueReply 36 tag (.ok (.reset .soft)) (softReset s)) :=
    ⟨⟨rfl, Nat.le_of_ble_eq_true rfl, rfl⟩, rfl, ⟨by simp [queueReply, softReset], by simp [queueReply, softReset], rfl⟩,
      ⟨resetRx (sendStop s).intake.rx, rfl⟩, rfl, rfl,
      fun hb => by simpa [CalStore.Bounded, queueReply, softReset] using hb,
      fun hm => ⟨?_, Nat.zero_le _⟩, rfl, rfl, rfl, rfl, rfl⟩
  · exact hfresh.preserves.trans (Keeps.refl _).assertedFaults.preserves
  · show (sendStop s).motion.nextNumber < 256
    unfold sendStop
    dsimp only
    split
    · exact hm.1
    · exact Nat.mod_lt _ (by decide)

/-! ### The commands -/

/-- A command has a next state, and one that `Keeps` reaches. -/
def EventKeeps (s : State) (o : Host.Outcome State Fault Refusal) : Prop := ∃ t, o = .next t ∧ Keeps s t

theorem eventKeeps_next {u : State} (h : Keeps s u) : EventKeeps s (.next u) := ⟨u, rfl, h⟩

theorem eventKeeps_same (s : State) : EventKeeps s (.next s) := eventKeeps_next (Keeps.refl s)

/-- A command has a next state, and keeps the bounds and exclusions in it. -/
def CommandPreserves (s : State) (o : Host.Outcome State Fault Refusal) : Prop := ∃ t, o = .next t ∧ Preserves s t

theorem commandPreserves_next {u : State} (h : Preserves s u) : CommandPreserves s (.next u) := ⟨u, rfl, h⟩

theorem commandPreserves_same (s : State) : CommandPreserves s (.next s) := commandPreserves_next (Keeps.refl s).preserves

theorem EventKeeps.preserves {o : Host.Outcome State Fault Refusal} (h : EventKeeps s o) : CommandPreserves s o := by
  obtain ⟨t, ht, hk⟩ := h
  exact ⟨t, ht, hk.preserves⟩

theorem execImageSenderTake_keeps (s : State) : EventKeeps s (execImageSenderTake s) := by
  unfold execImageSenderTake
  split
  · split
    · exact eventKeeps_same s
    · next i _ =>
      refine eventKeeps_next ((Keeps.refl s).setBuf i _ fun b x hx => ?_)
      obtain ⟨d, hd, rfl⟩ := Option.map_eq_some_iff.mp hx
      exact b.buf i d hd
  · exact eventKeeps_same s

theorem execImageFrameTaken_keeps (s : State) : EventKeeps s (execImageFrameTaken s) := by
  unfold execImageFrameTaken
  split
  · split
    · exact eventKeeps_same s
    · exact eventKeeps_next ((Keeps.refl s).bindBuf _ _ fun _ _ => takeImageFrame_stamp)
  · exact eventKeeps_same s

theorem execJobStart_keeps (s : State) : EventKeeps s (execJobStart s) := by
  unfold execJobStart
  split
  · exact eventKeeps_same s
  · next q rest hq =>
    have hprepared := fun j => ((Keeps.refl s).activateHead hq (some s.tag)).prepare j
    split
    · dsimp only
      split
      · exact eventKeeps_next (Keeps.wantOrder (hprepared _).unbounded _)
      · exact eventKeeps_next (hprepared _).prepCheck
    · exact eventKeeps_same s

theorem execMotionReport_keeps (rx : List RxByte) (s : State) : EventKeeps s (execMotionReport rx s) :=
  eventKeeps_next ((Keeps.refl s).foldl (fun s x => (Keeps.refl s).takeByte x) rx)

theorem execMoveLimitExpiry_keeps (s : State) : EventKeeps s (execMoveLimitExpiry s) := by
  unfold execMoveLimitExpiry
  repeat' split
  · exact eventKeeps_same s
  · exact eventKeeps_next (Keeps.motionFatal (Keeps.refl s).unbounded _ _)
  · exact eventKeeps_next (((Keeps.refl s).raiseFault _ _).addCounter _ _).retryStop
  · exact eventKeeps_same s

theorem execHandlerLimitExpiry_keeps (s : State) : EventKeeps s (execHandlerLimitExpiry s) := by
  unfold execHandlerLimitExpiry
  repeat' split
  · exact eventKeeps_same s
  · exact eventKeeps_next (Keeps.motionFatal (Keeps.refl s).unbounded _ _)
  · exact eventKeeps_same s

theorem execStopLimitExpiry_keeps (s : State) : EventKeeps s (execStopLimitExpiry s) := by
  unfold execStopLimitExpiry
  repeat' split
  · exact eventKeeps_same s
  · exact eventKeeps_next ((Keeps.refl s).completeStop true)
  · exact eventKeeps_same s

theorem execOrderIssue_keeps (s : State) : EventKeeps s (execOrderIssue s) := by
  unfold execOrderIssue
  repeat' split
  · exact eventKeeps_next (Keeps.issueOrder (Keeps.refl s).unbounded _ _)
  · exact eventKeeps_next (Keeps.refl s).beginReturn
  · exact eventKeeps_same s
  · exact eventKeeps_same s

theorem execPlatePresentChange_keeps (present : Bool) (s : State) : EventKeeps s (execPlatePresentChange present s) := by
  unfold execPlatePresentChange
  dsimp only
  split
  · exact eventKeeps_next (Keeps.plateSense (Keeps.refl s).unbounded)
  · exact eventKeeps_next (Keeps.refl s).unbounded

theorem execFaultInputAssert_keeps (i : BankId) (s : State) : EventKeeps s (execFaultInputAssert i s) := by
  unfold execFaultInputAssert
  have hset := (Keeps.refl s).setFaultInput i true
  split
  · exact eventKeeps_same s
  dsimp only
  repeat' split
  · exact eventKeeps_next (hset.litFault i _)
  · exact eventKeeps_next (hset.darkFault i)
  · exact eventKeeps_next (hset.darkFault i)

/-- A further sample changes neither the bank the record names nor any bound. -/
theorem execMonitorSample_keeps (reading : Sample) (s : State) : EventKeeps s (execMonitorSample reading s) := by
  unfold execMonitorSample
  split
  · exact eventKeeps_same s
  · next x hx =>
    split
    · refine eventKeeps_next ((Keeps.refl s).withLamps _ (fun b => b.lamps) fun h => ?_)
      rw [LampsOk, hx] at h
      exact h
    · exact eventKeeps_same s

theorem execExposureTimerEnd_keeps (s : State) : EventKeeps s (execExposureTimerEnd s) := by
  unfold execExposureTimerEnd
  split
  · exact eventKeeps_same s
  split
  · split
    · exact eventKeeps_next (Keeps.refl s).unbounded
    · next x hx =>
      split
      · exact eventKeeps_next (((Keeps.refl s).darkenAtEnd x hx).exposureRanOut x _)
      · exact eventKeeps_same s
  · exact eventKeeps_same s

theorem execFrameStart_keeps (s : State) : EventKeeps s (execFrameStart s) := by
  unfold execFrameStart
  split
  · exact eventKeeps_next (Keeps.judgeFrame (Keeps.refl s).unbounded _ _).countStray
  · exact eventKeeps_next (Keeps.refl s).countDiscarded.startFrame
  · exact eventKeeps_next (Keeps.refl s).startFrame
  · exact eventKeeps_next (Keeps.refl s).startFrame

theorem execFrameLine_keeps (samples : List Sample) (s : State) : EventKeeps s (execFrameLine samples s) := by
  unfold execFrameLine
  split
  · exact eventKeeps_next ((Keeps.refl s).mapSlot _ _ fun d _ => takeLine_lines samples d)
  all_goals exact eventKeeps_same s

theorem execFrameEnd_keeps (s : State) : EventKeeps s (execFrameEnd s) := by
  unfold execFrameEnd
  split
  · exact eventKeeps_next (Keeps.judgeFrame (Keeps.refl s).unbounded _ _)
  · exact eventKeeps_next (Keeps.countDiscarded (Keeps.refl s).unbounded)
  · exact eventKeeps_next (Keeps.refl s).unbounded
  · exact eventKeeps_same s

theorem execFrameDeadline_keeps (s : State) : EventKeeps s (execFrameDeadline s) := by
  unfold execFrameDeadline
  split
  · exact eventKeeps_same s
  split
  · exact eventKeeps_same s
  · next i _ d hd =>
    have hlines : Bounded s → d.lines ≤ 65535 := fun b => b.slot _ d hd
    repeat' split
    · exact eventKeeps_next (((Keeps.refl s).giveUpFrame _ _).frameDiscarded _ d hlines)
    · exact eventKeeps_next (((Keeps.refl s).giveUpFrame _ _).frameFailed _ d _ _ hlines)
    · exact eventKeeps_same s

theorem execAttemptStart_keeps (reading : Sample) (s : State) : EventKeeps s (execAttemptStart reading s) := by
  unfold execAttemptStart
  split
  · split
    · exact eventKeeps_same s
    split
    · exact eventKeeps_same s
    split
    · exact eventKeeps_next ((Keeps.refl s).failedBankDue _ _ _)
    split
    · exact eventKeeps_same s
    · next hdark =>
      split
      · exact eventKeeps_same s
      · exact eventKeeps_next ((Keeps.refl s).startAttempt _ _ _ _ _ _ (by simp_all))
  · exact eventKeeps_same s

theorem execPlaneClaim_keeps (s : State) : EventKeeps s (execPlaneClaim s) := by
  unfold execPlaneClaim
  split
  · split
    · exact eventKeeps_next ((Keeps.refl s).claimPlane _ _ _ _)
    · exact eventKeeps_same s
  · exact eventKeeps_same s

theorem execMergeBegin_keeps (s : State) : EventKeeps s (execMergeBegin s) := by
  unfold execMergeBegin
  split
  · exact eventKeeps_same s
  split
  · exact eventKeeps_same s
  · next i _ =>
    have hmerging := (Keeps.refl s).mapSlot i (fun d => { d with state := .merging }) fun _ hd => hd
    exact eventKeeps_next (hmerging.unbounded.setFlight i .merging)

theorem execMergeEnd_keeps (s : State) : EventKeeps s (execMergeEnd s) := by
  unfold execMergeEnd
  split
  · split
    · have hmerged := fun i d => (Keeps.refl s).mapPlane i (mergedPlane d) fun _ => rfl
      exact eventKeeps_next (((((hmerged _ _).releaseSlot _).endFlight _).addCounter _ _).rungMerged _).progressOn
    · exact eventKeeps_same s
  · exact eventKeeps_same s

theorem freshConversion_bounded (i : PlaneId) (b : BufId) (p : Plane) : (freshConversion i b p).Bounded :=
  ⟨List.length_replicate, fun _ hn => (nomatch hn)⟩

theorem execConverterClaim_keeps (s : State) : EventKeeps s (execConverterClaim s) := by
  unfold execConverterClaim
  split
  · split
    · exact eventKeeps_same s
    · next p hp =>
      refine eventKeeps_next ((((Keeps.refl s).setPlane _ _ fun b x hx => ?_).setBuf _ _ fun _ x hx => ?_).withConv _ fun _ x hx => ?_)
      · cases hx
        exact b.plane _ p hp
      · cases hx
        exact fun _ hn => (nomatch hn)
      · cases hx
        exact freshConversion_bounded _ _ p
  · exact eventKeeps_same s

theorem execConversionEnd_keeps (s : State) : EventKeeps s (execConversionEnd s) := by
  unfold execConversionEnd
  split
  · exact eventKeeps_same s
  · dsimp only
    split
    · next hc _ => exact eventKeeps_next (((Keeps.refl s).convertRows _).finishConversion _ _ hc)
    · exact eventKeeps_next ((Keeps.refl s).convertRows _)

theorem execCalAttemptStart_keeps (reading : Sample) (s : State) : EventKeeps s (execCalAttemptStart reading s) := by
  unfold execCalAttemptStart
  split
  · split
    · split
      · exact eventKeeps_next ((Keeps.refl s).failCal _)
      split
      · exact eventKeeps_next ((Keeps.refl s).failCal _)
      split
      · exact eventKeeps_same s
      · next hdark =>
        exact eventKeeps_next (Keeps.expose (Keeps.mapCal ((Keeps.refl s).setSlot _ _ fun _ x hx => by cases hx; exact Nat.zero_le _) _)
          _ _ _ _ (by simpa [State.anyLit] using hdark))
    · exact eventKeeps_same s
  · exact eventKeeps_same s

theorem execTakeInBegin_keeps (s : State) : EventKeeps s (execTakeInBegin s) := by
  unfold execTakeInBegin
  split
  · exact eventKeeps_same s
  split
  · exact eventKeeps_same s
  · dsimp only
    exact eventKeeps_next (Keeps.unbounded ((Keeps.refl s).mapSlot _ _ fun _ hd => hd))

theorem execTakeInEnd_keeps (s : State) : EventKeeps s (execTakeInEnd s) := by
  unfold execTakeInEnd
  split
  · split
    · exact eventKeeps_same s
    · have htaken := fun c i => Keeps.releaseSlot (s := { s with cal.cal := c }) (Keeps.refl s).unbounded i
      dsimp only
      repeat' split
      · exact eventKeeps_next (htaken _ _).closeCal
      · exact eventKeeps_next ((htaken _ _).judgeCal _)
      · exact eventKeeps_next (htaken _ _)
  · exact eventKeeps_same s

theorem execBudgetExpiry_keeps (s : State) : EventKeeps s (execBudgetExpiry s) := by
  unfold execBudgetExpiry
  split
  · exact eventKeeps_next (Keeps.raiseFault (Keeps.refl s).unbounded _ _).takeAhead.windUp
  · exact eventKeeps_same s

theorem execTimeWrap_keeps (s : State) : EventKeeps s (execTimeWrap s) := by
  unfold execTimeWrap
  split
  · exact eventKeeps_next (Keeps.refl s).wrapTime
  · exact eventKeeps_same s

theorem execFaultTaken_keeps (which : Nat) (s : State) : EventKeeps s (execFaultTaken which s) := by
  unfold execFaultTaken
  split
  · exact eventKeeps_next ((Keeps.refl s).takeRaised which)
  · exact eventKeeps_next (Keeps.refl s).unbounded

theorem execHaltEscalation_keeps (s : State) : EventKeeps s (execHaltEscalation s) := by
  unfold execHaltEscalation
  split
  · exact eventKeeps_next (Keeps.refl s).unbounded
  · exact eventKeeps_next (Keeps.refl s).haltNext

/-! ### The request link's own commands -/

theorem execReset_preserves (tag flags : Byte) (s : State) : CommandPreserves s (execReset tag flags s) := by
  unfold execReset
  split
  · exact commandPreserves_next (takeReset_preserves tag s)
  · exact commandPreserves_same s

theorem execLinkReset_preserves (cause : LinkLoss) (s : State) : CommandPreserves s (execLinkReset cause s) :=
  commandPreserves_next ((Keeps.refl s).unsendBuffers.preserves.trans
    (Preserves.withLink _ fun _ => ⟨Nat.zero_le _, Nat.zero_le _, Nat.zero_le _⟩))

theorem execAttach_preserves (s : State) : CommandPreserves s (execAttach s) := by
  unfold execAttach
  split
  · exact commandPreserves_next (Preserves.withLink _ id)
  all_goals exact commandPreserves_same s

theorem execConfigure_preserves (s : State) : CommandPreserves s (execConfigure s) := by
  unfold execConfigure
  split
  · exact commandPreserves_next (Preserves.withLink _ id)
  all_goals exact commandPreserves_same s

theorem execRequestTransferArrives_preserves (transfer : List Byte) (s : State) :
    CommandPreserves s (execRequestTransferArrives transfer s) := by
  unfold execRequestTransferArrives
  split
  · next hroom =>
    split
    · exact commandPreserves_next (takeReset_preserves _ s)
    · refine commandPreserves_next (Preserves.withLink _ fun ⟨_, hr, hn⟩ => ⟨?_, hr, hn⟩)
      have hlen : s.link.intake.length < 4 := (of_decide_eq_true hroom).2
      rw [List.length_append]
      exact hlen
  · exact commandPreserves_same s

theorem execUnrecognisedRequest_preserves (s : State) : CommandPreserves s (execUnrecognisedRequest s) := by
  unfold execUnrecognisedRequest
  split
  · exact commandPreserves_same s
  · next tr rest hin =>
    split
    · next hroom =>
      split
      · exact commandPreserves_next (preserves_reply _ _ (refuse _ 0, { s with link.intake := rest }) hin hroom (Keeps.refl _))
      · exact commandPreserves_same s
    · exact commandPreserves_same s

theorem execAnswerSenderChoose_preserves (s : State) : CommandPreserves s (execAnswerSenderChoose s) := by
  unfold execAnswerSenderChoose
  split
  · exact commandPreserves_next (Preserves.withLink _ id)
  · exact commandPreserves_same s

theorem execAnswerFrameTaken_preserves (s : State) : CommandPreserves s (execAnswerFrameTaken s) := by
  unfold execAnswerFrameTaken
  split
  · exact commandPreserves_next
      (Preserves.withLink _ fun ⟨hi, hr, hn⟩ => ⟨hi, (List.drop_sublist 1 _).length_le.trans hr, hn⟩)
  · exact commandPreserves_next
      (Preserves.withLink _ fun ⟨hi, hr, hn⟩ => ⟨hi, hr, (List.drop_sublist 1 _).length_le.trans hn⟩)
  · exact commandPreserves_next (Preserves.withLink _ id)
  · exact commandPreserves_same s

theorem exec_preserves (c : Instr) (s : State) : CommandPreserves s (exec c s) := by
  cases c with
  | powerOn => exact commandPreserves_next (powerOn_preserves s)
  | reset tag flags => exact execReset_preserves tag flags s
  | linkReset cause => exact execLinkReset_preserves cause s
  | attach => exact execAttach_preserves s
  | configure => exact execConfigure_preserves s
  | requestTransferArrives transfer => exact execRequestTransferArrives_preserves transfer s
  | unrecognisedRequest => exact execUnrecognisedRequest_preserves s
  | answerSenderChoose => exact execAnswerSenderChoose_preserves s
  | answerFrameTaken => exact execAnswerFrameTaken_preserves s
  | imageSenderTake => exact (execImageSenderTake_keeps s).preserves
  | imageFrameTaken => exact (execImageFrameTaken_keeps s).preserves
  | jobStart => exact (execJobStart_keeps s).preserves
  | motionReport rx => exact (execMotionReport_keeps rx s).preserves
  | moveLimitExpiry => exact (execMoveLimitExpiry_keeps s).preserves
  | handlerLimitExpiry => exact (execHandlerLimitExpiry_keeps s).preserves
  | stopLimitExpiry => exact (execStopLimitExpiry_keeps s).preserves
  | orderIssue => exact (execOrderIssue_keeps s).preserves
  | platePresentChange present => exact (execPlatePresentChange_keeps present s).preserves
  | faultInputAssert i => exact (execFaultInputAssert_keeps i s).preserves
  | faultInputClear i => exact (eventKeeps_next ((Keeps.refl s).setFaultInput i false)).preserves
  | monitorSample reading => exact (execMonitorSample_keeps reading s).preserves
  | exposureTimerEnd => exact (execExposureTimerEnd_keeps s).preserves
  | frameStart => exact (execFrameStart_keeps s).preserves
  | frameLine samples => exact (execFrameLine_keeps samples s).preserves
  | frameEnd => exact (execFrameEnd_keeps s).preserves
  | frameDeadline => exact (execFrameDeadline_keeps s).preserves
  | attemptStart reading => exact (execAttemptStart_keeps reading s).preserves
  | planeClaim => exact (execPlaneClaim_keeps s).preserves
  | mergeBegin => exact (execMergeBegin_keeps s).preserves
  | mergeEnd => exact (execMergeEnd_keeps s).preserves
  | converterClaim => exact (execConverterClaim_keeps s).preserves
  | conversionEnd => exact (execConversionEnd_keeps s).preserves
  | calAttemptStart reading => exact (execCalAttemptStart_keeps reading s).preserves
  | takeInBegin => exact (execTakeInBegin_keeps s).preserves
  | takeInEnd => exact (execTakeInEnd_keeps s).preserves
  | budgetExpiry => exact (execBudgetExpiry_keeps s).preserves
  | timeWrap => exact (execTimeWrap_keeps s).preserves
  | faultTaken which => exact (execFaultTaken_keeps which s).preserves
  | haltEscalation => exact (execHaltEscalation_keeps s).preserves
  | _ =>
    obtain ⟨t, ht⟩ := serve_next _ (requestBlock _) s
    exact ⟨t, (exec_eq_serve rfl s).trans ht, serve_preserves (requestBlock_keeps _) ht⟩

/-- Settles O3: what each command keeps, it keeps in a next state. -/
theorem everyCommandHasANextState : Obligations.EveryCommandHasANextState := by
  intro c s
  obtain ⟨t, ht, -⟩ := exec_preserves c s
  exact ⟨t, ht⟩

theorem step_preserves (h : step s = .next t) : Preserves s t := by
  unfold step at h
  split at h
  · obtain rfl := Host.Outcome.next.inj h
    exact (Keeps.refl s).idle.preserves
  · next c rest _ =>
    obtain ⟨u, hu, hkept⟩ := exec_preserves c { s with pending := rest }
    obtain rfl := Host.Outcome.next.inj (hu.symm.trans h)
    exact (Keeps.preserves (Keeps.refl s).unbounded).trans hkept

/-- Settles O5. -/
theorem linkCapacitiesKeptByEveryStep : Obligations.LinkCapacitiesKeptByEveryStep :=
  fun _ _ hs h => (step_preserves h).link hs

/-- Settles O6. -/
theorem oneLitBankKeptByEveryStep : Obligations.OneLitBankKeptByEveryStep :=
  fun _ _ hs h => (step_preserves h).lamps hs

/-- Settles O7: the two conjuncts together are the bounds block by block. -/
theorem capacitiesAndWidthsKeptByEveryStep : Obligations.CapacitiesAndWidthsKeptByEveryStep :=
  fun s t hstores hcounts h => (bounded_iff t).mp ((step_preserves h).bounds ((bounded_iff s).mpr ⟨hstores, hcounts⟩))

/-- Settles O8. -/
theorem jobNumbersAndSlotsStayDistinct : Obligations.JobNumbersAndSlotsStayDistinct :=
  fun _ _ hs h => (step_preserves h).jobs hs

end Sys2Proof.Machine
end

section
/-! The block as a whole: a step, the idle clock, and the state right after power-on (R36, R103, R194, R197); O1, O2 and O4. -/
namespace Sys2Proof.Machine
open Sys2Proof

/-- Settles O1. -/
theorem stepRunsFrontCommand : Obligations.StepRunsFrontCommand := fun _ _ _ => rfl

/-! ### Power-on values -/

theorem reset_kind (k : FaultKind) : State.reset.kind k = ⟨false, 0, false, defaultSeverity k⟩ := by cases k <;> rfl

theorem reset_counter (c : CounterId) : State.reset.counter c = resetCounter := by cases c <;> rfl

theorem reset_zone (i : Nat) : State.reset.zone i = none := by
  change (List.replicate 8 none).getD i none = none
  rw [List.getD_eq_getElem?_getD, List.getElem?_replicate]
  split <;> rfl

/-- Settles O4: the values are those the reset state is written with, and the bounds hold of any state whose blocks are at them. -/
theorem resetLeavesPowerOnValues : Obligations.ResetLeavesPowerOnValues := by
  have hfresh := powerOn_fresh State.reset
  have hbounds := (bounded_iff State.reset).mp (hfresh.bounded resetCal_bounded resetMotion_bounded)
  refine ⟨⟨rfl, rfl, rfl, rfl⟩, ⟨rfl, rfl, rfl⟩, ?bank, rfl, ?slot, ?plane, ?buf, rfl, rfl, ?flat, ⟨rfl, rfl, rfl, rfl, rfl⟩, reset_zone,
    ⟨rfl, rfl, rfl⟩, ⟨rfl, ?counter⟩, ?kind, ?corrected, ?degraded, ?fatal, ⟨rfl, rfl, rfl, rfl⟩, rfl, ⟨rfl, rfl⟩,
    ⟨rfl, rfl, rfl, rfl, rfl, rfl⟩, hfresh.linkOk, hfresh.lampsOk, hbounds.1, hbounds.2, hfresh.jobsOk⟩
  case bank => intro i; cases i <;> exact ⟨rfl, rfl, rfl⟩
  case slot => intro i; cases i <;> rfl
  case plane => intro i; cases i <;> rfl
  case buf => intro i; cases i <;> rfl
  case flat => intro i; cases i <;> rfl
  case counter => intro c; rw [reset_counter]; rfl
  case kind => intro k; rw [reset_kind]; exact ⟨rfl, rfl, rfl⟩
  all_goals
    intro k hk
    rw [reset_kind]
    revert k
    decide

/-! ### The idle clock -/

theorem countUs_time (s : State) :
    (countUs s).time = if s.time.elapsed + 1 < s.params.timeRes then { s.time with elapsed := s.time.elapsed + 1 }
      else { s.time with count := s.time.count + 1, elapsed := 0 } := by
  unfold countUs
  split <;> rfl

theorem countUs_writes (s : State) : countUs s = { s with time := (countUs s).time } := by
  unfold countUs
  split <;> rfl

/-- What converting pixels, but never the last one of the tile, leaves (R101, R103). -/
structure ConvertsOn (s t : State) (c c' : Conversion) : Prop where
  conv : t.conv = some c'
  rows : c.rowsDone ≤ c'.rowsDone
  last : c.rowsDone < c.window.h → c'.rowsDone < c.window.h
  same : { c' with rowsDone := c.rowsDone, figures := c.figures, lastCode := c.lastCode } = c
  bufs : ∀ i, i ≠ c.buffer → t.buf i = s.buf i
  frame : t = { s with
    conv := t.conv, drawn := t.drawn, out.t1 := t.out.t1, out.t2 := t.out.t2, out.t3 := t.out.t3, out.t4 := t.out.t4 }

theorem ConvertsOn.refl {s : State} {c : Conversion} (h : s.conv = some c) : ConvertsOn s s c c :=
  ⟨h, le_rfl, id, rfl, fun _ _ => rfl, rfl⟩

theorem ConvertsOn.trans {s t u : State} {c c' c'' : Conversion} (h : ConvertsOn s t c c') (k : ConvertsOn t u c' c'') :
    ConvertsOn s u c c'' := by
  have hw : c'.window = c.window := by rw [← h.same]
  have hb : c'.buffer = c.buffer := by rw [← h.same]
  refine ⟨k.conv, h.rows.trans k.rows, fun hl => ?_, ?_, fun i hi => ?_, ?_⟩
  · have := k.last (hw ▸ h.last hl)
    rwa [hw] at this
  · rw [← h.same, ← k.same]
  · rw [k.bufs i (hb ▸ hi), h.bufs i hi]
  · rw [k.frame, h.frame]

theorem Conversion.after_same (c : Conversion) (words : List PixOut) (rowEnds : Bool) :
    { c.after words rowEnds with rowsDone := c.rowsDone, figures := c.figures, lastCode := c.lastCode } = c := by
  unfold Conversion.after
  dsimp only
  split <;> rfl

theorem Conversion.after_rowsDone (c : Conversion) (words : List PixOut) (rowEnds : Bool) :
    (c.after words rowEnds).rowsDone = if rowEnds then c.rowsDone + 1 else c.rowsDone := by
  unfold Conversion.after
  dsimp only
  split <;> rfl

theorem setBuf_writes (s : State) (i : BufId) (d : Option Buf) :
    s.setBuf i d = { s with out.t1 := (s.setBuf i d).out.t1, out.t2 := (s.setBuf i d).out.t2, out.t3 := (s.setBuf i d).out.t3,
                            out.t4 := (s.setBuf i d).out.t4 } := by
  cases i <;> rfl

/-- One pixel that is not the tile's last: it ends a row only where another row is to come. -/
theorem convertNextPixel_convertsOn {s : State} {c : Conversion} (hc : s.conv = some c) (hleft : s.pixelsLeft = true) :
    ∃ c', ConvertsOn s (convertNextPixel s) c c' := by
  unfold convertNextPixel convertNext
  simp only [State.pixelsLeft, hc, Option.any_some, Bool.or_eq_true, decide_eq_true_eq] at hleft
  simp only [hc]
  split
  · next p d b hp hd hb =>
    simp only [hp, hd, hb, decide_eq_true_eq] at hleft
    refine ⟨_, rfl, ?_, fun _ => ?_, c.after_same _ _, fun i hi => ?_, ?_⟩
    · rw [Conversion.after_rowsDone]
      split <;> omega
    · rw [Conversion.after_rowsDone]
      simp only [Option.getD_some, List.length_take, decide_eq_true_eq]
      split <;> omega
    · exact buf_setBuf_ne s _ hi
    · generalize c.buffer = i
      cases i <;> rfl
  · next hstores =>
    have hrow : c.rowsDone + 1 < c.window.h := by
      refine hleft.resolve_right fun h => ?_
      split at h
      · next p d b hp hd hb => exact hstores p d b hp hd hb
      · cases h
    refine ⟨_, rfl, ?_, fun _ => ?_, c.after_same _ _, fun _ _ => rfl, rfl⟩
    · rw [Conversion.after_rowsDone, if_pos rfl]
      exact Nat.le_succ _
    · rw [Conversion.after_rowsDone, if_pos rfl]
      exact hrow

theorem convertPixels_convertsOn (n : Nat) {s : State} {c : Conversion} (hc : s.conv = some c) : ∃ c', ConvertsOn s (convertPixels n s) c c' := by
  induction n generalizing s c with
  | zero => exact ⟨c, .refl hc⟩
  | succ n ih =>
    unfold convertPixels
    split
    · next hleft =>
      obtain ⟨c', h⟩ := convertNextPixel_convertsOn hc hleft
      obtain ⟨c'', k⟩ := ih h.conv
      exact ⟨c'', h.trans k⟩
    · exact ⟨c, .refl hc⟩

theorem converterTick_convertsOn {s : State} {c : Conversion} (hc : s.conv = some c) : ∃ c', ConvertsOn s (converterTick s) c c' := by
  obtain ⟨c', h⟩ := convertPixels_convertsOn (Config.converterPixels s.drawn) (s := s.draw) hc
  refine ⟨c', ?_⟩
  simp only [converterTick, hc]
  exact ⟨h.conv, h.rows, h.last, h.same, h.bufs, h.frame⟩

theorem converterTick_writes (s : State) :
    converterTick s = { s with
      conv := (converterTick s).conv, drawn := (converterTick s).drawn, out.t1 := (converterTick s).out.t1
      out.t2 := (converterTick s).out.t2, out.t3 := (converterTick s).out.t3, out.t4 := (converterTick s).out.t4 } := by
  match hc : s.conv with
  | none =>
    simp only [converterTick, hc]
    rw [← hc]
  | some c => exact (converterTick_convertsOn hc).choose_spec.frame

/-- 1 µs of the time base and of a RUNNING budget, before the converter's part in it. -/
def tickClocks (s : State) : State :=
  { s with now := s.now + 1, time := (countUs s).time, pass.budget := s.pass.budget.tick }

theorem idle_eq {s : State} (h : s.time.count < 4294967295) : idle s = converterTick (tickClocks s) := by
  have hlt : s.time.count < maxU32 := h
  unfold idle tickTime
  simp only [hlt, if_true]
  refine congrArg converterTick ?_
  rw [countUs_writes]
  unfold tickClocks countUs
  split <;> rfl

theorem tickClocks_frame (s : State) : { tickClocks s with now := s.now, time := s.time, pass.budget := s.pass.budget } = s := rfl

theorem Budget.tick_of_not_running {b : Budget} (h : b.state ≠ .running) : b.tick = b := if_neg h

theorem Budget.tick_below {b : Budget} (h : b.state = .running) (hs : b.subUs < 999) : b.tick = { b with subUs := b.subUs + 1 } := by
  rw [Budget.tick, if_pos h, if_pos (by omega)]

theorem Budget.tick_at {b : Budget} (h : b.state = .running) (hs : b.subUs = 999) :
    b.tick = { b with remaining := b.remaining - 1, subUs := 0 } := by
  rw [Budget.tick, if_pos h, if_neg (by omega)]

/-- Settles O2: the clocks tick, then the converter goes on, and its relation says what that may change. -/
theorem idleStepRunsTheClock : Obligations.IdleStepRunsTheClock := by
  intro s hp hcount
  have hstep : step s = .next (converterTick (tickClocks s)) := by
    rw [step, hp, ← idle_eq hcount]
  have htime : (converterTick (tickClocks s)).time = (countUs s).time := by rw [converterTick_writes]; rfl
  have hbudget : (converterTick (tickClocks s)).pass.budget = s.pass.budget.tick := by rw [converterTick_writes]; rfl
  refine ⟨_, hstep, by rw [converterTick_writes]; rfl, ?below, ?reached, ?still, ?sub, ?ms, ?idleConverter, ?converting⟩
  case below => intro h; rw [htime, countUs_time, if_pos h]
  case reached => intro h; rw [htime, countUs_time, if_neg (by omega)]
  case still => intro h; rw [hbudget, Budget.tick_of_not_running h]
  case sub => intro h hs; rw [hbudget, Budget.tick_below h hs]
  case ms => intro h hs; rw [hbudget, Budget.tick_at h hs]
  case idleConverter =>
    intro hc
    have hnone : (tickClocks s).conv = none := hc
    have htick : converterTick (tickClocks s) = tickClocks s := by
      unfold converterTick
      rw [hnone]
    rw [htick, tickClocks_frame]
  case converting =>
    intro c hc
    obtain ⟨c', h⟩ := converterTick_convertsOn (s := tickClocks s) hc
    refine ⟨⟨c', h.conv, h.rows, h.last, h.same⟩, h.bufs, ?_⟩
    rw [h.frame]
    rfl

end Sys2Proof.Machine
end

section
/-! The request link: transfers, the answer pipe and the three resets (R162, R163, R188 to R190, R197 to R199); O11 to O15. -/
namespace Sys2Proof.Machine
open Sys2Proof

/-! ### Transfers -/

theorem mayArrive_iff (s : State) : s.mayArrive = true ↔ s.link.state = .configured ∧ s.link.intake.length < 4 :=
  decide_eq_true_iff

theorem leNat_pair (x y : Byte) : leNat [x, y] = x.toNat + 256 * y.toNat := by simp [leNat]

/-- A transfer that is taken as a RESET is RESET's frame with some tag and flags. -/
theorem isReset_iff (t : List Byte) : isReset t = true ↔ ∃ tag flags, t = requestFrame 36 tag flags [] := by
  unfold isReset
  rw [decide_eq_true_eq]
  constructor
  · rintro ⟨hlen, hkind, hbody⟩
    match t with
    | [k0, k1, tag, flags, l0, l1] =>
      have hk : k0.toNat + 256 * k1.toNat = 36 := (leNat_pair k0 k1).symm.trans hkind
      have hl : l0.toNat + 256 * l1.toNat = 0 := (leNat_pair l0 l1).symm.trans hbody
      refine ⟨tag, flags, ?_⟩
      simp only [requestFrame, List.append_nil, List.cons.injEq, and_true, true_and]
      refine ⟨?_, ?_, ?_, ?_⟩ <;> apply BitVec.eq_of_toNat_eq <;> simp <;> omega
  · rintro ⟨tag, flags, rfl⟩
    exact ⟨rfl, kindCode_requestFrame 36 tag flags [] (by decide), headerLength_requestFrame 36 tag flags [] (Nat.zero_le _)⟩

theorem kindCode_eq {t : List Byte} (h : 2 ≤ t.length) : kindCode t = (t.getD 0 0#8).toNat + 256 * (t.getD 1 0#8).toNat := by
  match t with
  | x :: y :: _ => exact leNat_pair x y

theorem headerLength_eq {t : List Byte} (h : 6 ≤ t.length) :
    headerLength t = (t.getD 4 0#8).toNat + 256 * (t.getD 5 0#8).toNat := by
  match t with
  | _ :: _ :: _ :: _ :: x :: y :: _ => exact leNat_pair x y

theorem formatOk_of_broken {t : List Byte}
    (h : t.length < 6 ∨ 1024 < t.length ∨ t.length ≠ 6 + ((t.getD 4 0#8).toNat + 256 * (t.getD 5 0#8).toNat)) :
    formatOk t = false := by
  refine decide_eq_false ?_
  rintro ⟨hmin, hmax, hlen⟩
  rw [headerLength_eq hmin] at hlen
  unfold Config.frameMax at hmax
  omega

theorem unrecognised_of_broken {t : List Byte} (h : formatOk t = false) :
    unrecognised t = some (if 2 ≤ t.length then (t.getD 0 0#8).toNat + 256 * (t.getD 1 0#8).toNat else 0,
      if 3 ≤ t.length then t.getD 2 0#8 else 0#8, .badFormat) := by
  have hcode : (if t.length < 2 then 0 else kindCode t) = if 2 ≤ t.length then (t.getD 0 0#8).toNat + 256 * (t.getD 1 0#8).toNat else 0 := by
    split
    · rw [if_neg (by omega)]
    · rw [if_pos (by omega), kindCode_eq (by omega)]
  have htag : (if t.length < 3 then 0#8 else tagOf t) = if 3 ≤ t.length then t.getD 2 0#8 else 0#8 := by
    split
    · rw [if_neg (by omega)]
    · rw [if_pos (by omega), tagOf]
  rw [unrecognised, if_pos h, hcode, htag]

/-- What UNRECOGNISED_REQUEST does with a transfer that it recognises as one of its own. -/
theorem execUnrecognised_eq {s : State} {t : List Byte} {rest : List (List Byte)} {code : Nat} {tag : Byte} {reason : Reason}
    (hi : s.link.intake = t :: rest) (hr : s.link.replies.length < 4) (hu : unrecognised t = some (code, tag, reason)) :
    exec .unrecognisedRequest s = .next (s.answer rest code tag (.refused reason 0 .empty)) := by
  change execUnrecognisedRequest s = _
  simp only [execUnrecognisedRequest, hi, hu, Config.replyCap, hr, if_true]
  rfl

/-- Settles O11. -/
theorem transfersJoinTheIntakeAndUnknownOnesAreRefused : Obligations.TransfersJoinTheIntakeAndUnknownOnesAreRefused := by
  refine ⟨⟨?joins, ?reset, ?heldOff⟩, ?badFormat, ?unknownKind⟩
  case joins =>
    intro t s hstate hroom hnot
    have harrive := (mayArrive_iff s).mpr ⟨hstate, hroom⟩
    have hreset : ¬ isReset t = true := fun h => by
      obtain ⟨tag, flags, rfl⟩ := (isReset_iff t).mp h
      exact hnot tag flags rfl
    change execRequestTransferArrives t s = _
    rw [execRequestTransferArrives, if_pos harrive, if_neg hreset]
  case reset =>
    intro tag flags s hstate hroom
    have harrive := (mayArrive_iff s).mpr ⟨hstate, hroom⟩
    change execRequestTransferArrives _ s = execReset tag flags s
    rw [execRequestTransferArrives, if_pos harrive, if_pos ((isReset_iff _).mpr ⟨tag, flags, rfl⟩), execReset, if_pos harrive,
      tagOf_requestFrame]
  case heldOff =>
    intro t s h
    have harrive : ¬ s.mayArrive = true := by
      rw [mayArrive_iff]
      rintro ⟨hstate, hroom⟩
      exact h.elim (fun hne => hne hstate) (fun hfull => absurd hroom (Nat.not_lt.mpr hfull))
    change execRequestTransferArrives t s = _
    rw [execRequestTransferArrives, if_neg harrive]
  case badFormat =>
    intro t rest s hi hr hbroken
    exact execUnrecognised_eq hi hr (unrecognised_of_broken (formatOk_of_broken hbroken))
  case unknownKind =>
    intro code tag flags body rest s ⟨hi, hb, hr⟩ hcode hunknown
    refine execUnrecognised_eq hi hr ?_
    rw [unrecognised, if_neg (by simp [formatOk_requestFrame code tag flags body hb]), kindCode_requestFrame code tag flags body hcode,
      if_pos hunknown, tagOf_requestFrame]

/-! ### Notices and the answer pipe -/

theorem Link.posted_room {l : Link} (n : Notice) (h : l.notices.length < 32) :
    l.posted n = { l with notices := l.notices ++ [⟨l.dropped, n⟩], dropped := false } := if_pos h

theorem Link.posted_full {l : Link} (n : Notice) (h : 32 ≤ l.notices.length) : l.posted n = { l with dropped := true } :=
  if_neg (Nat.not_lt.mpr h)

/-- Settles O12. -/
theorem answerPipeSendsRepliesFirst : Obligations.AnswerPipeSendsRepliesFirst := by
  refine ⟨?reply, ?notice, ?replyTaken, ?noticeTaken, ?room, ?full, ?carried, ?orphan⟩
  case reply =>
    intro s r rs hstate hpipe hreplies
    change execAnswerSenderChoose s = _
    rw [execAnswerSenderChoose, if_pos ⟨hstate, hpipe⟩, State.nextAnswer, hreplies]
  case notice =>
    intro s n ns hstate hpipe hreplies hnotices
    change execAnswerSenderChoose s = _
    rw [execAnswerSenderChoose, if_pos ⟨hstate, hpipe⟩, State.nextAnswer, hreplies, hnotices]
  case replyTaken =>
    intro s f r rs hstate hpipe hreplies
    change execAnswerFrameTaken s = _
    simp only [execAnswerFrameTaken, hstate, hpipe, hreplies]
    rfl
  case noticeTaken =>
    intro s f n ns hstate hpipe hnotices
    change execAnswerFrameTaken s = _
    simp only [execAnswerFrameTaken, hstate, hpipe, hnotices]
    rfl
  case room =>
    intro s n h
    rw [postNotice_eq, Link.posted_room n h]
  case full =>
    intro s n h
    rw [postNotice_eq, Link.posted_full n h]
  case carried =>
    intro s lost next sent queued hnotices hqueued
    have hfull : 32 ≤ s.link.notices.length := by rw [hnotices, List.length_cons]; omega
    rw [postNotice_eq lost, Link.posted_full lost hfull, postNotice_eq, Link.posted_room next (by dsimp only; omega)]
  case orphan =>
    intro s f hstate hpipe
    change execAnswerFrameTaken s = _
    simp only [execAnswerFrameTaken, hstate, hpipe]

/-! ### The resets -/

/-- Settles O13: the two inputs are looked at in turn, and each finds its bank as the power-on values leave it. -/
theorem powerOnSetsEveryBlock : Obligations.PowerOnSetsEveryBlock := by
  intro s bank fault hbank hfault
  have hset := hbank true
  have hclear := hbank false
  simp only [if_true, Bool.false_eq_true, if_false] at hset hclear
  change Host.Outcome.next (assertedFaults (powerOnState s)) = _
  unfold powerOnState
  cases s.lamps.a.faultInput <;> cases s.lamps.b.faultInput <;> simp only [hset, hclear, hfault] <;> rfl

/-- STOP as it stands once it is due: one outstanding serves and its reissue is cleared, else a new one is sent (R136). -/
theorem sendStop_eq (s : State) :
    sendStop s = { s with motion := { s.motion with
      order := none, waiting := none
      nextNumber := if s.motion.stop.isSome then s.motion.nextNumber else (s.motion.nextNumber + 1) % 256
      stop := some (match s.motion.stop with
        | some st => { st with reissue := false }
        | none => ⟨s.motion.nextNumber, s.params.moveLimit, s.now, false⟩)
      sent := if s.motion.stop.isSome then s.motion.sent else s.motion.sent ++ [motionRecord 5 s.motion.nextNumber 0 0] } } := by
  unfold sendStop
  dsimp only
  cases hstop : s.motion.stop <;> rfl

theorem assertedFaults_of_clear {s : State} (ha : s.lamps.a.faultInput = false) (hb : s.lamps.b.faultInput = false) :
    assertedFaults s = s := by
  simp [assertedFaults, ha, hb]

theorem softReset_inputs (s : State) :
    (softReset s).lamps.a.faultInput = s.lamps.a.faultInput ∧ (softReset s).lamps.b.faultInput = s.lamps.b.faultInput := by
  simp [softReset, resetBank]

theorem resetRx_eq (rx : LinkRx) : resetRx rx = if rx = .idle then .idle else .discarding := by cases rx <;> rfl

/-- Settles O14. -/
theorem softResetKeepsOnlyWhatItNames : Obligations.SoftResetKeepsOnlyWhatItNames := by
  intro tag flags s hstate hroom ha hb
  have hexec : exec (.reset tag flags) s = .next (queueReply 36 tag (.ok (.reset .soft)) (softReset s)) := by
    change execReset tag flags s = _
    rw [execReset, if_pos ((mayArrive_iff s).mpr ⟨hstate, hroom⟩), takeReset, 
      assertedFaults_of_clear (s := queueReply _ _ _ (softReset s)) ((softReset_inputs s).1.trans ha) ((softReset_inputs s).2.trans hb)]
  refine ⟨_, hexec, ?_⟩
  simp only [queueReply, softReset, sendStop_eq, resetRx_eq, ha, hb]
  refine ⟨by rw [hstate]; rfl, rfl, ?_⟩
  simp only [true_and]
  exact ⟨rfl, rfl, rfl⟩

theorem Buf.unsend_eq (b : Buf) :
    b.unsend = if b.state = .sending then { b with state := .ready, headerTaken := false, rowsTaken := 0 } else b := by
  unfold Buf.unsend
  split
  · next h => rw [if_pos h]
  · next h => rw [if_neg h]

/-- Settles O15. -/
theorem linkStateEventsReachTheLinkAlone : Obligations.LinkStateEventsReachTheLinkAlone := by
  refine ⟨?attach, ?configure, ?reset⟩
  case attach =>
    intro s h
    change execAttach s = _
    rw [execAttach, h]
  case configure =>
    intro s h
    change execConfigure s = _
    rw [execConfigure, h]
  case reset =>
    intro cause s
    refine ⟨_, rfl, ?_, fun i => ?_, rfl⟩
    · cases cause <;> rfl
    · cases i <;> exact congrArg (Option.map · _) (funext Buf.unsend_eq)

end Sys2Proof.Machine
end

section
/-! SET-PARAM, SET-TIME and TIME_WRAP (R79, R128, R192, R194, R195); O16 and O17. -/
namespace Sys2Proof.Machine
open Sys2Proof

/-! ### A request row whose body matches its layout -/

section Row
variable {c : Instr} {code : Nat} {tag flags : Byte} {body : List Byte} {rest : List (List Byte)} {s : State}

theorem exec_withBody {α : Type} {layout : List Byte → Option α} {block : α → State → ReplyBody × State} {a : α}
    (hc : requestCode c = some code) (hb : requestBlock c = withBody layout block) (hl : layout body = some a)
    (h : AtHead code tag flags body rest s) :
    exec c s = .next (queueReply code tag (block a { s with link.intake := rest }).1 (block a { s with link.intake := rest }).2) := by
  rw [exec_request hc h, hb, withBody, hl]

theorem exec_noBody {block : State → ReplyBody × State} (hc : requestCode c = some code) (hb : requestBlock c = noBody block)
    (h : AtHead code tag flags [] rest s) :
    exec c s = .next (queueReply code tag (block { s with link.intake := rest }).1 (block { s with link.intake := rest }).2) := by
  rw [exec_request hc h, hb, noBody]

/-- A row whose block answers `reply` and leaves `t`, up to the request gone from the intake. -/
theorem exec_answer {α : Type} {layout : List Byte → Option α} {block : α → State → ReplyBody × State} {a : α} {reply : ReplyBody} {t : State}
    (hc : requestCode c = some code) (hb : requestBlock c = withBody layout block) (hl : layout body = some a)
    (h : AtHead code tag flags body rest s) (hblock : block a { s with link.intake := rest } = (reply, { t with link.intake := rest })) :
    exec c s = .next (t.answer rest code tag reply) := by
  rw [exec_withBody hc hb hl h, hblock]
  rfl

/-- The same of a row whose request has no body. -/
theorem exec_answer_noBody {block : State → ReplyBody × State} {reply : ReplyBody} {t : State} (hc : requestCode c = some code)
    (hb : requestBlock c = noBody block) (h : AtHead code tag flags [] rest s)
    (hblock : block { s with link.intake := rest } = (reply, { t with link.intake := rest })) :
    exec c s = .next (t.answer rest code tag reply) := by
  rw [exec_noBody hc hb h, hblock]
  rfl

end Row

/-! ### The bodies of SET-PARAM and SET-TIME -/

theorem toNat_ofNat_byte {n : Nat} (h : n ≤ 255) : (BitVec.ofNat 8 n).toNat = n := by
  rw [BitVec.toNat_ofNat]
  exact Nat.mod_eq_of_lt (by omega)

theorem wholeBody_takeNum_leBytes {n v : Nat} (h : v < 256 ^ n) : wholeBody (takeNum n (leBytes n v)) = some v := by
  rw [takeNum_leBytes_whole, wholeBody, Nat.mod_eq_of_lt h]

theorem setParamLayout_number {code v : Nat} (hc : code ≤ 255) (hv : v < 4294967296) :
    setParamLayout ([BitVec.ofNat 8 code, 0#8] ++ leBytes 4 v) = some (code, .number v) := by
  have hvalue : valueLayout (0#8 :: leBytes 4 v) = (wholeBody (takeNum 4 (leBytes 4 v))).map RawValue.number := rfl
  change (valueLayout (0#8 :: leBytes 4 v)).map _ = _
  rw [hvalue, wholeBody_takeNum_leBytes (n := 4) hv, toNat_ofNat_byte hc]
  rfl

theorem wholeBody_takeNum_byte (v : Byte) : wholeBody (takeNum 1 [v]) = some v.toNat := by
  simp [takeNum, wholeBody, leNat]

theorem setParamLayout_onOff {code : Nat} (hc : code ≤ 255) (v : Byte) :
    setParamLayout [BitVec.ofNat 8 code, 1#8, v] = some (code, .onOff v.toNat) := by
  change (valueLayout [1#8, v]).map _ = _
  rw [valueLayout, if_neg (by decide), if_pos rfl, wholeBody_takeNum_byte, toNat_ofNat_byte hc]
  rfl

theorem setParamLayout_flags {code count : Nat} (hc : code ≤ 255) (hn : count ≤ 255) {mask : List Byte} (hm : mask.length = (count + 7) / 8) :
    setParamLayout (BitVec.ofNat 8 code :: 2#8 :: BitVec.ofNat 8 count :: mask) = some (code, .flags count (leNat mask)) := by
  have hmask : takeNum ((count + 7) / 8) mask = some (leNat mask, []) := by
    simp [takeNum, ← hm]
  change (valueLayout (2#8 :: BitVec.ofNat 8 count :: mask)).map _ = _
  rw [valueLayout, if_neg (by decide), if_neg (by decide), if_pos rfl, toNat_ofNat_byte hc, toNat_ofNat_byte hn, hmask]
  rfl

/-! ### SET-PARAM -/

theorem setParam_number {code : Nat} {p : ParamId} (hp : paramOfCode code = some p) (v : Nat) (s : State) :
    setParam (code, .number v) s = setNamed p (.number v) s := by
  simp only [setParam, hp]

theorem setParam_flags {code : Nat} {p : ParamId} (hp : paramOfCode code = some p) (count mask : Nat) (s : State) :
    setParam (code, .flags count mask) s = setNamed p (.flags count mask) s := by
  simp only [setParam, hp]

theorem setParam_onOff {code : Nat} {p : ParamId} (hp : paramOfCode code = some p) {on : Nat} (hon : (yesNoOfCode on).isNone = false) (s : State) :
    setParam (code, .onOff on) s = setNamed p (.onOff on) s := by
  simp [setParam, hp, hon]

/-- The parameters that take a number: all but the three notify enables and COUNTER_NOTIFY (12.4). -/
def ParamId.isNumber : ParamId → Bool
  | .notifyCorrected | .notifyDegraded | .notifyFatal | .counterNotify => false
  | _ => true

theorem get_of_isNumber {p : ParamId} (hp : p.isNumber = true) (ps : Params) : ∃ n, ps.get p = .number n := by
  cases p <;> first | exact ⟨_, rfl⟩ | exact nomatch hp

/-- A number given to a number parameter that may be changed now. -/
theorem setNamed_number {p : ParamId} (hp : p.isNumber = true) (v : Nat) {s : State} (hbusy : s.levelBusy p = false) :
    setNamed p (.number v) s = (if p.taken v = v then .ok (.param p (.number (p.taken v))) else .adjusted (.param p (.number (p.taken v))),
      setNumber p (p.taken v) s) := by
  obtain ⟨n, hn⟩ := get_of_isNumber hp s.params
  simp only [setNamed, hn, hbusy, Bool.false_eq_true, if_false]

theorem setTimeRes_eq (n : Nat) (s : State) :
    setTimeRes n s = { s with params.timeRes := n, time.elapsed := if n = s.params.timeRes then s.time.elapsed else 0 } := by
  unfold setTimeRes
  split
  · next h => subst h; rfl
  · rfl

/-- A bank's flat once the bank's level is `n`: INVALID, unless the level was `n` before or is the one of the flat's record (R79, R128). -/
def State.flatAtLevel (s : State) (bank : BankId) (n : Nat) : Flat :=
  if s.level bank = n ∨ (s.flatRecord bank).map (·.driveLevel) = some n then s.flat bank else ⟨.invalid, (s.flat bank).data⟩

theorem levelChanged_eq {bank : BankId} {n : Nat} {s : State} (h : n ≠ s.level bank) :
    levelChanged bank n s = s.setFlat bank (s.flatAtLevel bank n) := by
  have hany : ((s.flatRecord bank).any fun r => decide (r.driveLevel = n)) = true ↔ (s.flatRecord bank).map (·.driveLevel) = some n := by
    cases s.flatRecord bank <;> simp
  unfold levelChanged State.flatAtLevel
  by_cases hrecord : (s.flatRecord bank).map (·.driveLevel) = some n
  · rw [if_pos (hany.mpr hrecord), if_pos (.inr hrecord)]
    cases bank <;> rfl
  · rw [if_neg (mt hany.mp hrecord), if_neg (by simp [h.symm, hrecord])]

theorem setLevel_a (n : Nat) (s : State) : setLevel .a n s = { s with params.lampLevelA := n, cal.flatA := s.flatAtLevel .a n } := by
  unfold setLevel
  split
  · next h =>
    subst h
    rw [State.flatAtLevel, if_pos (.inl rfl)]
    rfl
  · next h => rw [levelChanged_eq h]; rfl

theorem setLevel_b (n : Nat) (s : State) : setLevel .b n s = { s with params.lampLevelB := n, cal.flatB := s.flatAtLevel .b n } := by
  unfold setLevel
  split
  · next h =>
    subst h
    rw [State.flatAtLevel, if_pos (.inl rfl)]
    rfl
  · next h => rw [levelChanged_eq h]; rfl

theorem setNumber_get_same {p : ParamId} (hp : p.isNumber = true) (n : Nat) (s : State) : (setNumber p n s).params.get p = .number n := by
  cases p
  case timeRes => rw [setNumber, setTimeRes_eq]; rfl
  case lampLevelA => rw [setNumber, setLevel_a]; rfl
  case lampLevelB => rw [setNumber, setLevel_b]; rfl
  all_goals first | rfl | exact nomatch hp

theorem setNumber_get_ne {p q : ParamId} (h : q ≠ p) (n : Nat) (s : State) : (setNumber p n s).params.get q = s.params.get q := by
  cases p
  case timeRes => rw [setNumber, setTimeRes_eq]; cases q <;> first | rfl | exact absurd rfl h
  case lampLevelA => rw [setNumber, setLevel_a]; cases q <;> first | rfl | exact absurd rfl h
  case lampLevelB => rw [setNumber, setLevel_b]; cases q <;> first | rfl | exact absurd rfl h
  all_goals cases q <;> first | rfl | exact absurd rfl h

/-- A number parameter other than TIME_RES reaches the parameters, and a lamp level its bank's flat, alone. -/
theorem setNumber_frame {p : ParamId} (h : p ≠ .timeRes) (n : Nat) (s : State) :
    { setNumber p n s with params := s.params, cal.flatA := s.cal.flatA, cal.flatB := s.cal.flatB } = s := by
  cases p
  case timeRes => exact absurd rfl h
  case lampLevelA => rw [setNumber, setLevel_a]
  case lampLevelB => rw [setNumber, setLevel_b]
  all_goals rfl

theorem setNumber_cal {p : ParamId} (ha : p ≠ .lampLevelA) (hb : p ≠ .lampLevelB) (n : Nat) (s : State) : (setNumber p n s).cal = s.cal := by
  cases p
  case lampLevelA => exact absurd rfl ha
  case lampLevelB => exact absurd rfl hb
  case timeRes => rw [setNumber, setTimeRes_eq]
  all_goals rfl

theorem setNumber_withIntake (p : ParamId) (n : Nat) (rest : List (List Byte)) (s : State) :
    setNumber p n { s with link.intake := rest } = { setNumber p n s with link.intake := rest } := by
  cases p
  case timeRes => simp only [setNumber, setTimeRes_eq]
  case lampLevelA => simp only [setNumber, setLevel_a]; rfl
  case lampLevelB => simp only [setNumber, setLevel_b]; rfl
  all_goals rfl

/-- The level's parameter of a bank. -/
def levelParam : BankId → ParamId
  | .a => .lampLevelA
  | .b => .lampLevelB

theorem setNumber_level (bank : BankId) (n : Nat) (s : State) :
    (setNumber (levelParam bank) n s).flat bank = s.flatAtLevel bank n
      ∧ (setNumber (levelParam bank) n s).flat (BankId.other bank) = s.flat (BankId.other bank)
      ∧ (s.level bank = n ∨ (s.flatRecord bank).map (·.driveLevel) = some n → (setNumber (levelParam bank) n s).cal = s.cal) := by
  cases bank
  case a =>
    rw [levelParam, setNumber, setLevel_a]
    refine ⟨rfl, rfl, fun h => ?_⟩
    rw [State.flatAtLevel, if_pos h]
    rfl
  case b =>
    rw [levelParam, setNumber, setLevel_b]
    refine ⟨rfl, rfl, fun h => ?_⟩
    rw [State.flatAtLevel, if_pos h]
    rfl

/-- A row of the table of 12.4 for a number: its parameter is a number other than TIME_RES, and a value is taken at the nearer end of its
range. -/
theorem numberRow {code lo hi : Nat} {p : ParamId}
    (h : (code, p, lo, hi) ∈
      [(0, ParamId.clipLevel, 1024, 4095), (1, .signalFloor, 1, 255), (2, .driftTol, 1, 200), (3, .frameGrace, 10, 2000),
       (4, .moveLimit, 1, 30), (5, .handlerLimit, 5, 120), (6, .flatAgeLimit, 0, 1000), (7, .lampLevelA, 0, 1023),
       (8, .lampLevelB, 0, 1023), (9, .calX, 0, 400000), (10, .calY, 0, 400000)]) :
    code ≤ 255 ∧ paramOfCode code = some p ∧ p.isNumber = true ∧ p ≠ .timeRes ∧ lo ≤ hi ∧ ∀ v, p.taken v = min hi (max lo v) := by
  simp only [List.mem_cons, List.not_mem_nil, or_false, Prod.mk.injEq] at h
  rcases h with h | h | h | h | h | h | h | h | h | h | h <;> obtain ⟨rfl, rfl, rfl, rfl⟩ := h <;>
    exact ⟨by decide, rfl, rfl, by decide, by decide, fun _ => rfl⟩

theorem levelBusy_eq_false {p : ParamId} {s : State} (h : p = .lampLevelA ∨ p = .lampLevelB → s.pass.job = none ∧ s.cal.cal = none) :
    s.levelBusy p = false := by
  have hfree (hp : p = .lampLevelA ∨ p = .lampLevelB) : (s.jobActive || s.cal.cal.isSome) = false := by
    obtain ⟨hjob, hcal⟩ := h hp
    rw [State.jobActive, hjob, hcal]
    rfl
  cases p <;> first | rfl | exact hfree (.inl rfl) | exact hfree (.inr rfl)

theorem levelBusy_eq_true {p : ParamId} {s : State} (hp : p = .lampLevelA ∨ p = .lampLevelB) (h : s.pass.job ≠ none ∨ s.cal.cal ≠ none) :
    s.levelBusy p = true := by
  have hbusy : (s.jobActive || s.cal.cal.isSome) = true := by
    simpa [State.jobActive, Option.isSome_iff_ne_none] using h
  obtain rfl | rfl := hp <;> exact hbusy

/-- The parameters that are no number refuse one, a number refuses what is none, and a flag set is of 16 flags (R192). -/
theorem setNamed_number_refused {p : ParamId} (hp : p.isNumber = false) (v : Nat) (s : State) :
    setNamed p (.number v) s = (refuse .badField 2, s) := by
  cases p <;> first | rfl | exact nomatch hp

theorem setNamed_onOff_refused {p : ParamId} (hp : p.isNumber = true ∨ p = .counterNotify) (v : Nat) (s : State) :
    setNamed p (.onOff v) s = (refuse .badField 2, s) := by
  cases p <;> first | rfl | simp [ParamId.isNumber] at hp

theorem setNamed_flags_refused {p : ParamId} {count : Nat} (hp : p ≠ .counterNotify ∨ count ≠ 16) (mask : Nat) (s : State) :
    setNamed p (.flags count mask) s = (refuse .badField 2, s) := by
  cases p
  case counterNotify => exact if_neg (hp.resolve_left fun h => h rfl)
  all_goals rfl

theorem paramOfCode_none {code : Nat} (h : 16 ≤ code) : paramOfCode code = none := List.getElem?_eq_none h

/-- The codes and their parameters: 0 to 11 are numbers, 12 to 14 the notify enables, 15 is COUNTER_NOTIFY (12.4). -/
theorem paramOfCode_form {code : Nat} (h : code ≤ 15) : ∃ p, paramOfCode code = some p ∧ p.isNumber = decide (code ≤ 11)
    ∧ (p = .counterNotify ↔ code = 15) := by
  interval_cases code <;> exact ⟨_, rfl, by decide, by decide⟩

/-- Settles O16. -/
theorem setParamTakesValuesByTheParametersForm : Obligations.SetParamTakesValuesByTheParametersForm := by
  refine ⟨fun code lo hi v p tag flags rest s hrow hv hat => ?_, fun tag flags rest s => ⟨?n12, ?n13, ?n14, ?n15, ?number, ?onOff, ?flags, ?unknown⟩⟩
  · obtain ⟨hcode, hparam, hnum, hres, hle, htaken⟩ := numberRow hrow
    have hlayout := setParamLayout_number hcode hv
    refine ⟨fun hfree => ?_, fun hlevel hbusy => ?_⟩
    · have hblock := (setParam_number hparam v _).trans (setNamed_number hnum v (levelBusy_eq_false (s := { s with link.intake := rest }) hfree))
      rw [setNumber_withIntake] at hblock
      have hreply : (if p.taken v = v then ReplyBody.ok (.param p (.number (p.taken v))) else .adjusted (.param p (.number (p.taken v))))
          = if lo ≤ v ∧ v ≤ hi then .ok (.param p (.number v)) else .adjusted (.param p (.number (max lo (min hi v)))) := by
        have hclamp : p.taken v = max lo (min hi v) := by rw [htaken]; omega
        by_cases hin : lo ≤ v ∧ v ≤ hi
        · have heq : p.taken v = v := by omega
          rw [if_pos hin, if_pos heq, heq]
        · rw [if_neg hin, if_neg (by omega), hclamp]
      have hval : p.taken v = max lo (min hi v) := by rw [htaken]; omega
      rw [hreply, hval] at hblock
      refine ⟨_, exec_answer rfl rfl hlayout hat hblock, setNumber_get_same hnum _ s, fun q hq => setNumber_get_ne hq _ s,
        fun ha hb => setNumber_cal ha hb _ s, fun b hb => ?_, setNumber_frame hres _ s⟩
      have hp : p = levelParam b := by rcases hb with ⟨rfl, rfl⟩ | ⟨rfl, rfl⟩ <;> rfl
      subst hp
      obtain ⟨hflat, hother, hsame⟩ := setNumber_level b (max lo (min hi v)) s
      refine ⟨hother, hsame, fun hlevel hrecord => ?_⟩
      rw [hflat, State.flatAtLevel, if_neg (by simp only [hlevel, hrecord, or_self, not_false_eq_true])]
    · refine exec_answer rfl rfl hlayout hat ?_
      obtain ⟨n, hn⟩ := get_of_isNumber hnum s.params
      have hbusy' := levelBusy_eq_true (s := { s with link.intake := rest }) hlevel hbusy
      rw [setParam_number hparam]
      simp only [setNamed, hn, hbusy', if_true]
      rfl
  case n12 =>
    intro on hat
    refine exec_answer rfl rfl (setParamLayout_onOff (by decide : 12 ≤ 255) _) hat ?_
    cases on <;> rfl
  case n13 =>
    intro on hat
    refine exec_answer rfl rfl (setParamLayout_onOff (by decide : 13 ≤ 255) _) hat ?_
    cases on <;> rfl
  case n14 =>
    intro on hat
    refine exec_answer rfl rfl (setParamLayout_onOff (by decide : 14 ≤ 255) _) hat ?_
    cases on <;> rfl
  case n15 =>
    intro mask hat
    have hmask : BitVec.ofNat 16 (leNat (leBytes 2 mask.toNat)) = mask := by
      rw [leNat_leBytes]
      apply BitVec.eq_of_toNat_eq
      simp only [Nat.reducePow, BitVec.toNat_ofNat, Nat.mod_mod]
      exact Nat.mod_eq_of_lt mask.isLt
    refine exec_answer rfl rfl (setParamLayout_flags (code := 15) (by decide) (count := 16) (by decide) (leBytes_length 2 _)) hat ?_
    rw [setParam_flags (p := .counterNotify) rfl]
    simp only [setNamed, Params.get, if_true, hmask]
  case number =>
    intro code v hlo hhi hv hat
    obtain ⟨p, hp, hnum, -⟩ := paramOfCode_form hhi
    refine exec_answer rfl rfl (setParamLayout_number (by omega) hv) hat ?_
    rw [setParam_number hp, setNamed_number_refused (hnum.trans (decide_eq_false (by omega)))]
    rfl
  case onOff =>
    intro code v hcode hat
    refine exec_answer rfl rfl (setParamLayout_onOff (by omega) v) hat ?_
    obtain ⟨p, hp, hnum, hnotify⟩ := paramOfCode_form (code := code) (by omega)
    cases hon : (yesNoOfCode v.toNat).isNone
    · rw [setParam_onOff hp hon, setNamed_onOff_refused (hcode.imp (fun h => hnum.trans (decide_eq_true h)) hnotify.mpr)]
      rfl
    · simp only [setParam, hon, if_true]
      rfl
  case flags =>
    intro code count mask hcode hcount hmask hat
    refine exec_answer rfl rfl (setParamLayout_flags (by omega) hcount hmask) hat ?_
    obtain ⟨p, hp, -, hnotify⟩ := paramOfCode_form (code := code) (by omega)
    rw [setParam_flags hp, setNamed_flags_refused (hcode.imp (fun h h' => by have := hnotify.mp h'; omega) And.right)]
    rfl
  case unknown =>
    intro code v hlo hhi hv hat
    refine exec_answer rfl rfl (setParamLayout_number hhi hv) hat ?_
    simp only [setParam, paramOfCode_none hlo]
    rfl

/-! ### The time base -/

/-- The resolution taken is the largest of the permitted ones not above the one given, and 1 for 0 (R192). -/
theorem timeResTaken_spec (n : Nat) :
    timeResTaken n ∈ [1, 2, 4, 8, 16, 32, 64] ∧ (timeResTaken n ≤ n ∨ n = 0 ∧ timeResTaken n = 1)
      ∧ ∀ r ∈ [1, 2, 4, 8, 16, 32, 64], r ≤ n → r ≤ timeResTaken n := by
  unfold timeResTaken
  simp only [List.mem_cons, List.not_mem_nil, or_false]
  refine ⟨?_, ?_, fun r hr hrn => ?_⟩ <;> (repeat' split) <;> omega

theorem setTimeLayout_none {count : Nat} (h : count < 4294967296) : setTimeLayout (leBytes 4 count ++ [0#8]) = some (count, none) := by
  have hcount : count % 256 ^ 4 = count := Nat.mod_eq_of_lt h
  rw [setTimeLayout, takeNum_leBytes, hcount]
  rfl

theorem setTimeLayout_some {count : Nat} (h : count < 4294967296) (given : Byte) :
    setTimeLayout (leBytes 4 count ++ [1#8, given]) = some (count, some given.toNat) := by
  have hcount : count % 256 ^ 4 = count := Nat.mod_eq_of_lt h
  have hres : takeOpt (takeNum 1) [1#8, given] = some (some given.toNat, []) := by simp [takeOpt, takeNum, leNat]
  rw [setTimeLayout, takeNum_leBytes, hcount]
  dsimp only [Option.bind_eq_bind, Option.bind_some]
  rw [hres]
  rfl

/-- Settles O17. -/
theorem timeBaseCommands : Obligations.TimeBaseCommands := by
  refine ⟨?load, ?loadRes, ?param, ?before, ?wrap⟩
  case load =>
    intro count tag flags rest s hcount hat
    exact exec_answer rfl rfl (setTimeLayout_none hcount) hat rfl
  case loadRes =>
    intro count given tag flags rest s hcount hat
    obtain ⟨hmem, hle, hmax⟩ := timeResTaken_spec given.toNat
    refine ⟨timeResTaken given.toNat, hmem, hle.imp_right fun h => ⟨BitVec.eq_of_toNat_eq h.1, h.2⟩, hmax, ?_⟩
    refine exec_answer rfl rfl (setTimeLayout_some hcount given) hat ?_
    generalize hres : timeResTaken given.toNat = res
    have helapsed : (if res = s.params.timeRes then (if s.params.timeRes ≤ s.time.elapsed then 0 else s.time.elapsed) else 0)
        = if res ≠ s.params.timeRes ∨ s.params.timeRes ≤ s.time.elapsed then 0 else s.time.elapsed := by
      by_cases h : res = s.params.timeRes <;> simp [h]
    simp only [setTime, hres, setTimeRes_eq, loadCount, State.timeContent, helapsed]
  case param =>
    intro given tag flags rest s hgiven hat
    obtain ⟨hmem, hle, hmax⟩ := timeResTaken_spec given
    refine ⟨timeResTaken given, hmem, hle, hmax, exec_answer rfl rfl (setParamLayout_number (by decide) hgiven) hat ?_⟩
    rw [setParam_number (p := .timeRes) rfl, setNamed_number rfl given rfl, setNumber_withIntake, setNumber, setTimeRes_eq]
    rfl
  case before =>
    intro s h
    change execTimeWrap s = _
    rw [execTimeWrap, if_neg]
    rw [State.wrapDue, decide_eq_true_eq, not_and_or, maxU32]
    omega
  case wrap =>
    intro s hcount helapsed
    have hdue : s.wrapDue = true := decide_eq_true ⟨hcount, helapsed⟩
    change execTimeWrap s = _
    rw [execTimeWrap, if_pos hdue, wrapTime, postNotice_eq]
    rfl

end Sys2Proof.Machine
end

section
/-! Plate jobs and the plate queue: the ranges of a job record, ENQUEUE-PLATE, START-QUEUE, STOP-QUEUE and CANCEL-PLATE of a QUEUED job
(R1 to R13, R16); O18, O20, O21 and O22. -/
namespace Sys2Proof.Machine
open Sys2Proof

/-! ### The ranges of a job record -/

theorem isSome_ofCode_two {α : Type} {f : Nat → Option α} (h0 : (f 0).isSome) (h1 : (f 1).isSome) (h : ∀ n, f (n + 2) = none) (n : Nat) :
    (f n).isSome = true ↔ n ≤ 1 := by
  match n with
  | 0 => simpa using h0
  | 1 => simpa using h1
  | n + 2 => simp [h]

theorem walkOfCode_isSome (n : Nat) : (walkOfCode n).isSome = true ↔ n ≤ 1 := isSome_ofCode_two rfl rfl (fun _ => rfl) n
theorem retryBankOfCode_isSome (n : Nat) : (retryBankOfCode n).isSome = true ↔ n ≤ 1 := isSome_ofCode_two rfl rfl (fun _ => rfl) n
theorem yesNoOfCode_isSome (n : Nat) : (yesNoOfCode n).isSome = true ↔ n ≤ 1 := isSome_ofCode_two rfl rfl (fun _ => rfl) n

theorem bankPrefOfCode_isSome (n : Nat) : (bankPrefOfCode n).isSome = true ↔ n ≤ 3 := by
  match n with
  | 0 | 1 | 2 | 3 => simp [bankPrefOfCode]
  | n + 4 => simp [bankPrefOfCode]

/-- The window's conditions as R4 lists them. -/
theorem windowOk_iff (w : List Nat) :
    windowOk w = true ↔ ∃ x0 y0 ww h, w = [x0, y0, ww, h] ∧ 64 ∣ x0 ∧ 64 ∣ ww ∧ 64 ≤ ww ∧ ww ≤ 4096 ∧ 16 ∣ y0 ∧ 16 ∣ h ∧ 64 ≤ h ∧ h ≤ 3072
      ∧ x0 + ww ≤ 4096 ∧ y0 + h ≤ 3072 := by
  simp only [Nat.dvd_iff_mod_eq_zero]
  constructor
  · intro h
    unfold windowOk at h
    split at h
    · exact ⟨_, _, _, _, rfl, of_decide_eq_true h⟩
    · exact nomatch h
  · rintro ⟨x0, y0, ww, h, rfl, hok⟩
    exact decide_eq_true hok

theorem option_all_iff {α : Type} (o : Option α) (p : α → Bool) : o.all p = true ↔ ∀ a, o = some a → p a = true := by
  cases o <;> simp

/-- A field lies in its range exactly when the model's check of its index passes; an index without a check is in range. -/
theorem fieldOk_iff (r : RawJob) (i : Nat) : r.FieldOk i ↔ ∀ ok, (i, ok) ∈ r.checks → ok = true := by
  rcases Nat.lt_or_ge i 28 with hi | hi
  · interval_cases i <;>
      simp [RawJob.FieldOk, RawJob.checks, walkOfCode_isSome, retryBankOfCode_isSome, yesNoOfCode_isSome, bankPrefOfCode_isSome,
        option_all_iff, windowOk_iff, Config.travelMax, Nat.lt_succ_iff, and_assoc] <;>
      exact decide_eq_true_iff.symm
  · have hlist : ∀ ok, (i, ok) ∉ r.checks := by
      intro ok hmem
      simp only [RawJob.checks, List.mem_cons, Prod.mk.injEq, List.not_mem_nil, or_false] at hmem
      omega
    refine ⟨fun _ ok hmem => absurd hmem (hlist ok), fun _ => ?_⟩
    unfold RawJob.FieldOk
    refine ⟨?_, ?_, ?_, ?_, ?_, ?_, ?_, ?_, ?_, ?_, ?_, ?_, ?_, ?_⟩ <;> intro h <;> omega

/-- The first failing entry of a list of checks in order of their indices. -/
theorem find_failing_iff {l : List (Nat × Bool)} (hl : l.Pairwise fun a c => a.1 < c.1) (i : Nat) :
    (l.find? fun c => !c.2).map (·.1) = some i ↔ (i, false) ∈ l ∧ ∀ k ok, (k, ok) ∈ l → k < i → ok = true := by
  induction l with
  | nil => simp
  | cons c l ih =>
    obtain ⟨hc, hrest⟩ := List.pairwise_cons.mp hl
    obtain ⟨n, ok⟩ := c
    cases ok
    · simp only [List.find?_cons, Bool.not_false, Option.map_some, Option.some.injEq]
      constructor
      · rintro rfl
        refine ⟨List.mem_cons_self, fun k ok hmem hlt => ?_⟩
        rcases List.mem_cons.mp hmem with heq | hin
        · rw [(Prod.mk.inj heq).1] at hlt
          exact absurd hlt (Nat.lt_irrefl _)
        · exact absurd (hc _ hin) (Nat.not_lt.mpr hlt.le)
      · rintro ⟨hmem, hbelow⟩
        rcases List.mem_cons.mp hmem with heq | hin
        · exact (Prod.mk.inj heq).1.symm
        · exact nomatch hbelow n false List.mem_cons_self (hc _ hin)
    · simp only [List.find?_cons, Bool.not_true, ih hrest, List.mem_cons, Prod.mk.injEq]
      refine and_congr (by simp) (forall_congr' fun k => forall_congr' fun ok => ?_)
      refine ⟨fun h hmem hlt => hmem.elim (fun heq => heq.2) fun hin => h hin hlt, fun h hin hlt => h (.inr hin) hlt⟩

theorem checks_increasing (r : RawJob) : r.checks.Pairwise fun a c => a.1 < c.1 := by
  unfold RawJob.checks
  simp only [List.pairwise_cons, List.Pairwise.nil, List.mem_cons, List.not_mem_nil, or_false, forall_eq_or_imp, forall_eq]
  simp

theorem firstBad_eq_some_iff (r : RawJob) (i : Nat) : r.firstBad = some i ↔ ¬ r.FieldOk i ∧ ∀ k < i, r.FieldOk k := by
  unfold RawJob.firstBad
  rw [find_failing_iff (checks_increasing r)]
  simp only [fieldOk_iff]
  constructor
  · rintro ⟨hbad, hbelow⟩
    exact ⟨fun h => (nomatch h false hbad), fun k hk ok hmem => hbelow k ok hmem hk⟩
  · rintro ⟨hbad, hbelow⟩
    refine ⟨?_, fun k ok hmem hk => hbelow k hk ok hmem⟩
    by_contra hnot
    refine hbad fun ok hmem => ?_
    cases ok
    · exact absurd hmem hnot
    · rfl

theorem firstBad_eq_none_iff (r : RawJob) : r.firstBad = none ↔ ∀ i, r.FieldOk i := by
  constructor
  · intro h i
    induction i using Nat.strong_induction_on with
    | _ i ih =>
      by_contra hbad
      rw [(firstBad_eq_some_iff r i).mpr ⟨hbad, ih⟩] at h
      exact nomatch h
  · intro h
    rw [Option.eq_none_iff_forall_ne_some]
    intro i hi
    exact ((firstBad_eq_some_iff r i).mp hi).1 (h i)

/-- Settles O18: the field named is the first of the checks that fails, and each check is the table's range of its index. -/
theorem jobRecordRangesAreTheTables : Obligations.JobRecordRangesAreTheTables := by
  intro r
  refine ⟨firstBad_eq_none_iff r, firstBad_eq_some_iff r, fun hrungs hbelow => ?_, fun x0 y0 ww h hw hbelow hbad => ?_⟩
  · refine (firstBad_eq_some_iff r 14).mpr ⟨fun ⟨_, _, _, _, _, _, _, h14, _⟩ => ?_, hbelow⟩
    have := (h14 rfl).2
    omega
  · refine (firstBad_eq_some_iff r 26).mpr ⟨fun ⟨_, _, _, _, _, _, _, _, _, _, _, _, h26, _⟩ => ?_, hbelow⟩
    obtain ⟨x0', y0', ww', h', heq, hok⟩ := h26 rfl _ hw
    simp only [List.cons.injEq, and_true] at heq
    obtain ⟨rfl, rfl, rfl, rfl⟩ := heq
    clear hbelow hw h26
    simp only [Nat.dvd_iff_mod_eq_zero] at hok
    obtain ⟨h1, h2, h3, h4, h5, h6, h7, h8, h9, h10⟩ := hok
    simp only [h1, h2, h5, h6, ne_eq, not_true_eq_false, false_or] at hbad
    omega

/-! ### ENQUEUE-PLATE -/

/-- A record that passes the checks is the one R1, R2 and R7 describe. -/
theorem taken_eq_record {r : RawJob} (h : r.firstBad = none) : r.taken = r.record := by
  have hok := (firstBad_eq_none_iff r).mp h
  have hcoded (i : Nat) (hi : i = 12 ∨ i = 19 ∨ i = 20) : r.num i ≤ 1 := (hok i).2.2.2.2.2.2.1 hi
  have hpref : r.num 21 ≤ 3 := (hok 21).2.2.2.2.2.2.2.2.1 rfl
  have hwalk : (if r.num 12 = 0 then Walk.raster else .serpentine) = (walkOfCode (r.num 12)).getD .raster := by
    have := hcoded 12 (by decide)
    interval_cases r.num 12 <;> rfl
  have hretry (i : Nat) (hi : i = 19 ∨ i = 20) :
      (if r.num i = 0 then RetryBank.same else .alternate) = (retryBankOfCode (r.num i)).getD .same := by
    have := hcoded i (.inr hi)
    interval_cases r.num i <;> rfl
  have hbank : (if r.num 21 = 0 then BankPref.aOnly else if r.num 21 = 1 then .bOnly else if r.num 21 = 2 then .aFirst else .bFirst)
      = (bankPrefOfCode (r.num 21)).getD .aOnly := by
    interval_cases r.num 21 <;> rfl
  have hclamp (n top : Nat) : (if n ≤ top then n else top) = min n top := (Nat.min_def ..).symm
  have hbudget : (if r.budget = some 0 then none else r.budget) = r.budget.bind fun b => if b = 0 then none else some b := by
    cases r.budget with
    | none => rfl
    | some b => cases b <;> rfl
  have hnone {α : Type} [DecidableEq α] (o : Option α) : decide (o = none) = o.isNone := by cases o <;> rfl
  unfold RawJob.taken RawJob.record
  simp only [hwalk, hretry 19 (by decide), hretry 20 (by decide), hbank, hclamp, hbudget, hnone]
  congr 1
  cases r.mask <;> rfl

theorem clamps_eq (r : RawJob) :
    r.clamps = (if r.num 15 ≤ 3 then [] else [(15, 3)]) ++ (if r.num 16 ≤ 1000 then [] else [(16, 1000)])
      ++ (if r.num 17 ≤ 1000 then [] else [(17, 1000)]) ++ (if r.num 18 ≤ 2 then [] else [(18, 2)]) := by
  have hkept (i n top : Nat) : (List.filter (fun c : Nat × Nat × Nat => decide (c.2.1 ≠ c.2.2)) [(i, n, min n top)]).map (fun c => (c.1, c.2.2))
      = if n ≤ top then [] else [(i, top)] := by
    by_cases hn : n ≤ top
    · simp [hn]
    · have hmin : min n top = top := by omega
      have hne : n ≠ top := by omega
      simp [hn, hmin, hne]
  rw [← hkept 15, ← hkept 16, ← hkept 17, ← hkept 18]
  simp only [← List.map_append, ← List.filter_append]
  rfl

theorem clamps_eq_nil_iff (r : RawJob) : r.clamps = [] ↔ r.num 15 ≤ 3 ∧ r.num 16 ≤ 1000 ∧ r.num 17 ≤ 1000 ∧ r.num 18 ≤ 2 := by
  rw [clamps_eq]
  simp [and_assoc]

theorem nextNumber_eq {n : Nat} (h : n ≤ 65535) : nextNumber n = if n = 65535 then 1 else n + 1 := by
  unfold nextNumber
  split <;> split <;> omega

theorem claimant_eq_none {s : State} {slot : Nat} (h : ∀ j ∈ s.queue.jobs, j.record.slot ≠ slot) : s.claimant slot = none :=
  List.find?_eq_none.mpr fun j hj => by simpa using h j hj

/-- ENQUEUE-PLATE of a request whose fields and travel pass, with room in the queue and its slot free. -/
theorem enqueue_accepts {r : RawJob} {s : State} (hbad : r.firstBad = none) (htravel : r.record.outOfTravel = none)
    (hroom : s.queue.jobs.length < 16) (hslot : ∀ j ∈ s.queue.jobs, j.record.slot ≠ r.num 2) : enqueue r s = acceptJob r s := by
  have hclaim : s.claimant r.record.slot = none := claimant_eq_none hslot
  simp only [enqueue, hbad, htravel, Config.queueCap, Nat.not_le.mpr hroom, if_false, hclaim]

/-- Settles O20. -/
theorem enqueueTakesAValidJob : Obligations.EnqueueTakesAValidJob := by
  intro tag flags body rest s r hat hlayout hbad htravel hroom hslot hlow hhigh
  rw [taken_eq_record hbad] at htravel
  obtain ⟨k, hk, hn, hfresh, htried⟩ := freeNumber_first (jobs := s.queue.jobs) ⟨hlow, hhigh⟩ hroom
  have hle : freeNumber s.queue.jobs 16 s.queue.next ≤ 65535 := by omega
  refine ⟨k, freeNumber s.queue.jobs 16 s.queue.next, hk, hn, fun j hj heq => hfresh (List.mem_map.mpr ⟨j, hj, heq⟩),
    fun i hi => List.mem_map.mp (htried i hi), ?_⟩
  refine exec_answer rfl rfl hlayout hat ?_
  rw [enqueue_accepts (s := { s with link.intake := rest }) hbad htravel hroom hslot, ← nextNumber_eq hle, ← clamps_eq, taken_eq_record hbad]
  simp only [← clamps_eq_nil_iff]
  unfold acceptJob
  by_cases hc : r.clamps = []
  · simp only [hc, if_true]
    rfl
  · simp only [hc, if_false]
    rfl

/-- Settles O21. -/
theorem enqueueRefusesInFixedOrder : Obligations.EnqueueRefusesInFixedOrder := by
  intro tag flags body rest s hat
  refine ⟨fun hlayout => ?layout, fun r hlayout => ⟨fun i hbad => ?fields, fun i x hbad htravel => ?travel, fun hbad htravel hfull => ?full,
    fun pre post j hbad htravel hroom hjobs hpre hj => ?slot⟩⟩
  case layout =>
    rw [exec_request rfl hat, requestBlock, withBody, hlayout]
    rfl
  case fields =>
    refine exec_answer rfl rfl hlayout hat ?_
    simp only [enqueue, hbad]
    rfl
  case travel =>
    refine exec_answer rfl rfl hlayout hat ?_
    simp only [enqueue, hbad, htravel]
    rfl
  case full =>
    refine exec_answer rfl rfl hlayout hat ?_
    simp only [enqueue, hbad, htravel, Config.queueCap, hfull, if_true]
    rfl
  case slot =>
    have hclaim : ({ s with link.intake := rest } : State).claimant r.record.slot = some j := by
      change s.queue.jobs.find? (fun q => decide (q.record.slot = r.num 2)) = _
      rw [hjobs, List.find?_append, List.find?_eq_none.mpr fun q hq => by simpa using hpre q hq]
      simp [hj]
    refine exec_answer rfl rfl hlayout hat ?_
    simp only [enqueue, hbad, htravel, Config.queueCap, Nat.not_le.mpr hroom, if_false, hclaim]
    rfl

/-! ### The run state, and CANCEL-PLATE of a QUEUED job -/

theorem endJob_stopped {occupied : Bool} {s : State} (h : s.queue.run = .stopped) : (endJob occupied s).queue.run = .stopped := by
  unfold endJob
  split
  · exact h
  · dsimp only
    split <;> simp [h, runAfterJob]

theorem jobEndCheck_stopped {s : State} (h : s.queue.run = .stopped) : (jobEndCheck s).queue.run = .stopped := by
  unfold jobEndCheck
  split
  · exact endJob_stopped h
  · exact h

theorem clearHaltJob_stopped {ret : Bool} {s : State} (h : s.queue.run = .stopped) : (clearHaltJob ret s).queue.run = .stopped := by
  unfold clearHaltJob
  dsimp only
  split
  · simp [h]
  · refine jobEndCheck_stopped ?_
    split <;> simp [h]

/-- CLEAR-HALT leads out of HALTED with the run state STOPPED (R47). -/
theorem clearHalt_stopped {code : Nat} {s : State} (hcode : code ≤ 1) (h : s.pass.state = .halted) :
    (clearHalt code s).2.queue.run = .stopped := by
  unfold clearHalt
  split
  · next hnone =>
    have := (yesNoOfCode_isSome code).mpr hcode
    rw [hnone] at this
    exact nomatch this
  · simp only [h]
    split
    · rfl
    · exact clearHaltJob_stopped rfl

theorem Link.posted_withIntake (l : Link) (n : Notice) (rest : List (List Byte)) :
    ({ l with intake := rest } : Link).posted n = { l.posted n with intake := rest } := by
  unfold Link.posted
  dsimp only
  split <;> rfl

theorem numBody_leBytes {n v : Nat} (h : v < 256 ^ n) : numBody n (leBytes n v) = some v := wholeBody_takeNum_leBytes h

theorem numBody_byte (v : Byte) : numBody 1 [v] = some v.toNat := wholeBody_takeNum_byte v

/-- A QUEUED job that is cancelled is filed, leaves the queue, and PLATE-DONE is posted for it. -/
theorem cancelQueued_eq (j : QueueJob) (s : State) :
    let entry : HistoryEntry :=
      ⟨j.number, j.record.plateId, j.record.slot, .cancelled, ⟨0, 0, 0, 0, 0⟩, ⟨false, false⟩, false, none, s.time.count, none⟩
    cancelQueued j s = { s with
      queue.jobs := s.queue.jobs.filter fun q => decide (q.number ≠ j.number)
      queue.history := (if s.queue.history.length < 8 then s.queue.history else s.queue.history.drop 1) ++ [entry]
      link := s.link.posted (.plateDone entry) } := by
  unfold cancelQueued fileHistory
  rw [postNotice_eq]
  rfl

/-- Settles O22. -/
theorem startStopAndCancelOfQueuedJobs : Obligations.StartStopAndCancelOfQueuedJobs := by
  refine ⟨fun tag flags rest s => ⟨?start, ?halted, ?stopping, ?stopped, ?idle, ?clear⟩, fun n tag flags rest s hn hat => ⟨?notFound, ?cancelled⟩⟩
  case start =>
    intro hat hstate
    refine exec_answer_noBody rfl rfl hat ?_
    unfold startQueue
    split
    · next h => exact absurd h hstate
    · rfl
  case halted =>
    intro hat hstate
    refine exec_answer_noBody rfl rfl hat ?_
    simp only [startQueue, hstate]
  case stopping =>
    intro hat hrun hjob
    refine exec_answer_noBody rfl rfl hat ?_
    simp [stopQueue, hrun, State.jobActive, Option.isSome_iff_ne_none, hjob]
  case stopped =>
    intro hat hrun hjob
    refine exec_answer_noBody rfl rfl hat ?_
    simp [stopQueue, hrun, State.jobActive, hjob]
  case idle =>
    intro hat hrun
    refine exec_answer_noBody rfl rfl hat ?_
    unfold stopQueue
    split
    · next h => exact absurd h hrun
    · rfl
  case clear =>
    intro choice t hat hchoice hstate hexec
    rw [exec_withBody rfl rfl (numBody_byte choice) hat] at hexec
    obtain rfl := Host.Outcome.next.inj hexec
    exact clearHalt_stopped hchoice hstate
  case notFound =>
    intro hnone
    refine exec_answer rfl rfl (numBody_leBytes (n := 2) hn) hat ?_
    have hfind : s.queue.jobs.find? (fun j => decide (j.number = n)) = none :=
      List.find?_eq_none.mpr fun j hj => by simpa using hnone j hj
    simp only [cancel, hfind]
    rfl
  case cancelled =>
    intro pre post j hjobs hnumber hactive hothers
    have hpre (q : QueueJob) (hq : q ∈ pre) : q.number ≠ n := hothers q (List.mem_append_left _ hq)
    have hpost (q : QueueJob) (hq : q ∈ post) : q.number ≠ n := hothers q (List.mem_append_right _ hq)
    have hfind : s.queue.jobs.find? (fun q => decide (q.number = n)) = some j := by
      rw [hjobs, List.find?_append, List.find?_eq_none.mpr fun q hq => by simpa using hpre q hq]
      simp [hnumber]
    have hleft : s.queue.jobs.filter (fun q => decide (q.number ≠ n)) = pre ++ post := by
      rw [hjobs, List.filter_append, List.filter_cons_of_neg (by simp [hnumber]),
        List.filter_eq_self.mpr fun q hq => by simpa using hpre q hq, List.filter_eq_self.mpr fun q hq => by simpa using hpost q hq]
    refine exec_answer rfl rfl (numBody_leBytes (n := 2) hn) hat ?_
    simp only [cancel, hfind, hactive, Bool.false_eq_true, if_false, cancelQueued_eq, hleft, hnumber, Link.posted_withIntake]

end Sys2Proof.Machine
end

section
/-! The station counters and the tile log (R156 to R160, R170 to R173); O55 and O57. -/
namespace Sys2Proof.Machine
open Sys2Proof

/-! ### Notices, one after another -/

theorem foldl_posted_notices_full {l : Link} (h : 32 ≤ l.notices.length) (ns : List Notice) :
    (ns.foldl Link.posted l).notices = l.notices := by
  induction ns generalizing l with
  | nil => rfl
  | cons n ns ih =>
    rw [List.foldl_cons, Link.posted_full n h]
    exact ih h

/-! ### An addition to a counter (R171, R172) -/

/-- The half mark fires: the value crosses 2^31 and the mark is ARMED. -/
def Counter.halfFires (old : Counter) (n : Nat) : Bool :=
  decide (old.value < 2147483648 ∧ 2147483648 ≤ old.value + n ∧ old.half = .armed)

/-- The full mark fires: the value arrives at its maximum and the mark is ARMED. -/
def Counter.fullFires (old : Counter) (n : Nat) : Bool :=
  decide (old.value < 4294967295 ∧ 4294967295 ≤ old.value + n ∧ old.full = .armed)

def Counter.plus (old : Counter) (n : Nat) : Counter :=
  ⟨if 4294967295 < old.value + n then 4294967295 else old.value + n, if old.halfFires n then .fired else old.half,
    if old.fullFires n then .fired else old.full⟩

/-- The COUNTER notices of an addition, HALF before FULL, each with the counter's flag in COUNTER_NOTIFY on. -/
def State.counterNotices (s : State) (c : CounterId) (n : Nat) : List Notice :=
  (if (s.counter c).halfFires n = true ∧ s.params.counterNotify.getLsbD c.index = true then
      [Notice.counter c false ((s.counter c).plus n).value s.time.count] else [])
    ++ (if (s.counter c).fullFires n = true ∧ s.params.counterNotify.getLsbD c.index = true then
      [Notice.counter c true ((s.counter c).plus n).value s.time.count] else [])

theorem satAdd_maxU32 (a n : Nat) : satAdd maxU32 a n = if 4294967295 < a + n then 4294967295 else a + n := by
  unfold satAdd maxU32
  split <;> omega

/-- All that an addition does. -/
theorem addCounter_eq (c : CounterId) (n : Nat) (s : State) :
    addCounter c n s = { s with
      stats.counters := s.stats.counters.set c.index ((s.counter c).plus n)
      link := (s.counterNotices c n).foldl Link.posted s.link } := by
  have hhalf : decide ((s.counter c).value < 2147483648 ∧ 2147483648 ≤ satAdd maxU32 (s.counter c).value n ∧ (s.counter c).half = .armed)
      = (s.counter c).halfFires n := by
    have hv : 2147483648 ≤ satAdd maxU32 (s.counter c).value n ↔ 2147483648 ≤ (s.counter c).value + n := by
      rw [satAdd_maxU32]
      split <;> omega
    simp only [Counter.halfFires, hv]
  have hfull : decide ((s.counter c).value < maxU32 ∧ satAdd maxU32 (s.counter c).value n = maxU32 ∧ (s.counter c).full = .armed)
      = (s.counter c).fullFires n := by
    have hv : satAdd maxU32 (s.counter c).value n = maxU32 ↔ 4294967295 ≤ (s.counter c).value + n := by
      rw [satAdd_maxU32, maxU32]
      split <;> omega
    simp only [Counter.fullFires, hv]
    rfl
  unfold addCounter State.counterNotices
  dsimp only
  rw [hhalf, hfull, satAdd_maxU32]
  unfold Counter.plus
  cases (s.counter c).halfFires n <;> cases (s.counter c).fullFires n <;> cases s.params.counterNotify.getLsbD c.index <;>
    simp [postNotice_eq, State.tag]

theorem counter_mem_or {s : State} (c : CounterId) (h : s.stats.counters.length = 16) : s.counter c ∈ s.stats.counters := by
  have hlt : c.index < s.stats.counters.length := by rw [h]; cases c <;> decide
  unfold State.counter
  rw [List.getD_eq_getElem _ _ hlt]
  exact List.getElem_mem hlt

theorem CounterId.index_injective {c k : CounterId} (h : k.index = c.index) : k = c := by
  cases c <;> cases k <;> first | rfl | exact nomatch h

theorem CounterId.index_lt (c : CounterId) : c.index < 16 := by cases c <;> decide

theorem addCounter_counter_same {s : State} (h : s.stats.counters.length = 16) (c : CounterId) (n : Nat) :
    (addCounter c n s).counter c = (s.counter c).plus n := by
  rw [addCounter_eq]
  unfold State.counter
  dsimp only
  rw [List.getD_eq_getElem?_getD, List.getElem?_set_self (h ▸ c.index_lt)]
  rfl

theorem addCounter_counter_ne {c k : CounterId} (h : k ≠ c) (n : Nat) (s : State) : (addCounter c n s).counter k = s.counter k := by
  rw [addCounter_eq]
  unfold State.counter
  dsimp only
  rw [List.getD_eq_getElem?_getD, List.getElem?_set_ne fun e => h (CounterId.index_injective e.symm), ← List.getD_eq_getElem?_getD]

/-- Settles O57. -/
theorem countersSaturateFireAndClear : Obligations.CountersSaturateFireAndClear := by
  refine ⟨?add, fun s tag flags clear rest hat => ⟨?read, ?clear, ?other⟩⟩
  case add =>
    rintro s c n _ _ _ _ hlen rfl hold rfl rfl rfl
    refine ⟨_, rfl, addCounter_counter_same hlen c n, fun k hk => addCounter_counter_ne hk n s, ?_, ?_⟩
    · rw [addCounter_eq]
      rfl
    · rw [addCounter_eq]
  case read =>
    rintro rfl
    exact exec_answer rfl rfl (numBody_byte 0#8) hat rfl
  case clear =>
    rintro rfl
    exact exec_answer (t := { s with stats.counters := List.replicate 16 ⟨0, .armed, .armed⟩, stats.lastCleared := s.time.count })
      rfl rfl (numBody_byte 1#8) hat rfl
  case other =>
    intro hbad
    refine exec_answer rfl rfl (numBody_byte clear) hat ?_
    have hcode : yesNoOfCode clear.toNat = none := by
      rw [← Option.not_isSome_iff_eq_none, yesNoOfCode_isSome]
      omega
    simp only [readCounters, hcode]
    rfl

/-! ### The writing of a record (R157, R159) -/

/-- The LOG notice of a write that finds `unread` records unread. -/
def State.logNotice (s : State) (newest unread : Nat) : List Notice :=
  if unread = 256 then [.logWrap ((s.out.readMark + 1) % 4294967296) newest ((s.out.readMark + 1) % 4294967296)]
  else if unread = 127 then [.logHalf newest s.out.readMark 128] else []

/-- The TILE-DONE of a record, unless the tile is quiet and its job's notify_quiet is no. -/
def TileRecord.doneNotice (r : TileRecord) (newest : Nat) (notifyQuiet : Bool) : List Notice :=
  if (r.status = .captured ∧ r.attention = false ∨ r.status = .skipped) ∧ notifyQuiet = false then []
  else [.tileDone newest r.number r.row r.col r.ordinal r.status r.attention r.conds r.ended]

/-- The state once a record has joined the ring and its own notices are posted, before the station's counters. -/
def State.recordJoined (s : State) (r : TileRecord) (notifyQuiet : Bool) (newest unread : Nat) : State :=
  { s with
    out.newest := newest
    out.records := (if s.out.records.length < 256 then s.out.records else s.out.records.drop 1) ++ [{ r with sequence := newest }]
    out.readMark := if unread = 256 then (s.out.readMark + 1) % 4294967296 else s.out.readMark
    pass.counts := s.pass.counts.count r
    link := (s.logNotice newest unread ++ r.doneNotice newest notifyQuiet).foldl Link.posted s.link }

theorem logNotices_eq (unread : Nat) (s : State) :
    logNotices unread s = { s with
      out.readMark := if unread = 256 then (s.out.readMark + 1) % 4294967296 else s.out.readMark
      link := (s.logNotice s.out.newest unread).foldl Link.posted s.link } := by
  unfold logNotices State.logNotice Config.logCap modU32
  split
  · dsimp only
    rw [postNotice_eq]
    rfl
  · split
    · next h => rw [postNotice_eq, h]; rfl
    · rfl

theorem quiet_iff (r : TileRecord) : r.quiet = true ↔ r.status = .captured ∧ r.attention = false ∨ r.status = .skipped := by
  unfold TileRecord.quiet
  split <;> simp_all

theorem tileDone_eq (r : TileRecord) (notifyQuiet : Bool) (s : State) :
    tileDone r notifyQuiet s = { s with link := (r.doneNotice s.out.newest notifyQuiet).foldl Link.posted s.link } := by
  have hquiet : (r.quiet && !notifyQuiet) = true ↔ (r.status = .captured ∧ r.attention = false ∨ r.status = .skipped) ∧ notifyQuiet = false := by
    rw [Bool.and_eq_true, quiet_iff, Bool.not_eq_true']
  unfold tileDone TileRecord.doneNotice
  by_cases h : (r.quiet && !notifyQuiet) = true
  · rw [if_pos h, if_pos (hquiet.mp h)]
    rfl
  · rw [if_neg h, if_neg (mt hquiet.mpr h), postNotice_eq]
    rfl

/-- A write is the joining of the record, then the station's counter of its status. -/
theorem writeRecord_eq (r : TileRecord) (notifyQuiet : Bool) (s : State) :
    writeRecord r notifyQuiet s = countStatus r (s.recordJoined r notifyQuiet ((s.out.newest + 1) % 4294967296) s.unread) := by
  unfold writeRecord
  dsimp only
  rw [tileDone_eq, logNotices_eq]
  unfold joinRing State.recordJoined
  rw [List.foldl_append]
  rfl

/-- The station's counter that a record of a status adds to, if any (R170). -/
def TileStatus.counter : TileStatus → Option CounterId
  | .captured => none
  | .skipped | .guarded => some .tilesSkipped
  | .notCaptured => some .tilesNotCaptured

theorem countStatus_eq (r : TileRecord) (s : State) :
    countStatus r s = match r.status.counter with | none => s | some c => addCounter c 1 s := by
  unfold countStatus
  cases r.status <;> rfl

theorem counterNotices_length (s : State) (c : CounterId) (n : Nat) : (s.counterNotices c n).length ≤ 2 := by
  unfold State.counterNotices
  split <;> split <;> simp

theorem counter_le {s : State} (hlen : s.stats.counters.length = 16) (h : ∀ k ∈ s.stats.counters, k.value ≤ 4294967295) (c : CounterId) :
    (s.counter c).value ≤ 4294967295 := h _ (counter_mem_or c hlen)

/-- Newest less back, modulo 2^32, as the statements write it. -/
theorem subU32_cast (a b : Nat) : (subU32 a b : Int) = ((a : Int) - b) % 4294967296 := by
  unfold subU32 modU32
  omega

theorem recordJoined_records_length (s : State) (r : TileRecord) (notifyQuiet : Bool) (newest unread : Nat) (h : s.out.records.length ≤ 256) :
    (s.recordJoined r notifyQuiet newest unread).out.records.length = min 256 (s.out.records.length + 1) := by
  unfold State.recordJoined
  dsimp only
  rw [List.length_append]
  split
  · rw [List.length_singleton]; omega
  · rw [List.length_drop, List.length_singleton]; omega

theorem RecordCounts.count_total (c : RecordCounts) (r : TileRecord) : (c.count r).total = c.total + 1 := by
  unfold RecordCounts.count RecordCounts.total
  cases r.status <;> dsimp only <;> omega

theorem Counter.plus_value (old : Counter) (n : Nat) : (old.plus n).value = min 4294967295 (old.value + n) := by
  unfold Counter.plus
  dsimp only
  split <;> omega

/-- What a status's counter is worth after the addition that the record brings. -/
theorem countStatus_value {s : State} (hlen : s.stats.counters.length = 16) (hle : ∀ k ∈ s.stats.counters, k.value ≤ 4294967295)
    (r : TileRecord) (c : CounterId) :
    ((countStatus r s).counter c).value = min 4294967295 ((s.counter c).value + if r.status.counter = some c then 1 else 0) := by
  rw [countStatus_eq]
  cases hc : r.status.counter with
  | none =>
    have := counter_le hlen hle c
    simp only [reduceCtorEq, if_false]
    omega
  | some d =>
    dsimp only
    by_cases hd : d = c
    · rw [if_pos (congrArg some hd), hd, addCounter_counter_same hlen, Counter.plus_value]
    · have := counter_le hlen hle c
      rw [if_neg (by simpa using hd), addCounter_counter_ne (Ne.symm hd)]
      omega

theorem countStatus_counter_ne {r : TileRecord} {c : CounterId} (h : r.status.counter ≠ some c) (s : State) :
    (countStatus r s).counter c = s.counter c := by
  rw [countStatus_eq]
  cases hc : r.status.counter with
  | none => rfl
  | some d =>
    refine addCounter_counter_ne ?_ 1 s
    rintro rfl
    exact h hc

/-- A status's counter reaches the statistics and the link alone. -/
theorem countStatus_writes (r : TileRecord) (s : State) :
    ∃ more : List Notice, more.length ≤ 2
      ∧ countStatus r s = { s with stats := (countStatus r s).stats, link := more.foldl Link.posted s.link } := by
  rw [countStatus_eq]
  cases r.status.counter with
  | none => exact ⟨[], Nat.zero_le _, rfl⟩
  | some c => exact ⟨s.counterNotices c 1, counterNotices_length s c 1, by dsimp only; rw [addCounter_eq]⟩

/-- Settles O55: the record joins the ring, its notices are posted, and its status counts. -/
theorem recordWritingKeepsTheLog : Obligations.RecordWritingKeepsTheLog := by
  intro s r notifyQuiet newest unread log done hrecords hlen hle hnewest hunread hmax hlog hdone
  have hcount : s.unread = unread := by
    have := subU32_cast s.out.newest s.out.readMark
    unfold State.unread
    omega
  obtain rfl : log = s.logNotice newest unread := hlog
  obtain rfl : done = r.doneNotice newest notifyQuiet := hdone
  have hwrite : writeRecord r notifyQuiet s = countStatus r (s.recordJoined r notifyQuiet newest unread) := by
    rw [writeRecord_eq, hcount, hnewest]
  obtain ⟨more, hmore, hwrites⟩ := countStatus_writes r (s.recordJoined r notifyQuiet newest unread)
  have hlink : (writeRecord r notifyQuiet s).link
      = (s.logNotice newest unread ++ r.doneNotice newest notifyQuiet ++ more).foldl Link.posted s.link := by
    rw [hwrite, hwrites, List.foldl_append]
    rfl
  have hcounters := countStatus_value (s := s.recordJoined r notifyQuiet newest unread) hlen hle r
  refine ⟨_, rfl, ?_, ?_, ?_, ?_, fun hstatus => ?_, fun _ => ⟨more, hmore, hlink⟩, fun hfull => ?_, ?_, ?_, fun k hs hn => ?_, ?_, ?_⟩
  · rw [hwrite, hwrites]; rfl
  · rw [hwrite, hwrites]; rfl
  · rw [hwrite, hwrites]
    exact recordJoined_records_length s r notifyQuiet newest unread hrecords
  · rw [hwrite, hwrites]; rfl
  · rw [hwrite, countStatus_eq, hstatus]
    exact ⟨rfl, rfl⟩
  · rw [hlink, foldl_posted_notices_full hfull]
  · rw [hwrite, hcounters]
    cases r.status <;> rfl
  · rw [hwrite, hcounters]
    cases r.status <;> rfl
  · rw [hwrite, countStatus_counter_ne]
    · rfl
    · cases r.status <;> simp [TileStatus.counter, hs.symm, hn.symm]
  · rw [hwrite, hwrites]; rfl
  · rw [hwrite, hwrites]
    exact RecordCounts.count_total s.pass.counts r

end Sys2Proof.Machine
end

section
/-! The reading of the tile log and the image sender (R150 to R152, R158, R160); O56. -/
namespace Sys2Proof.Machine
open Sys2Proof

/-! ### READ-TILE-RECORD -/

theorem choiceLayout_sequence {n : Nat} (h : n < 4294967296) : choiceLayout (0#8 :: leBytes 4 n) = some (.sequence n) := by
  have hsel : choiceLayout (0#8 :: leBytes 4 n) = (wholeBody (takeNum 4 (leBytes 4 n))).map RecordChoice.sequence := rfl
  rw [hsel, wholeBody_takeNum_leBytes (n := 4) h]
  rfl

theorem choiceLayout_next : choiceLayout [1#8] = some .next := rfl

/-- The first record of the ring that bears a sequence is the one it names. -/
theorem heldRecord_of_split {s : State} {pre post : List TileRecord} {r : TileRecord} {n : Nat} (h : s.out.records = pre ++ r :: post)
    (hpre : ∀ q ∈ pre, q.sequence ≠ n) (hr : r.sequence = n) : s.heldRecord n = some r := by
  unfold State.heldRecord
  rw [h, List.find?_append, List.find?_eq_none.mpr fun q hq => by simpa using hpre q hq]
  simp [hr]

theorem heldRecord_eq_none {s : State} {n : Nat} (h : ∀ q ∈ s.out.records, q.sequence ≠ n) : s.heldRecord n = none :=
  List.find?_eq_none.mpr fun q hq => by simpa using h q hq

/-- What READ-TILE-RECORD answers for the record that it finds, or for none. -/
def tileRecordAnswer (found : Option TileRecord) (s : State) : ReplyBody × State :=
  match found with
  | none => (.refused .notFound 0 (.tileRecord none s.out.newest s.out.readMark s.unread), s)
  | some r =>
    let t := markRead r.sequence s
    (.ok (.tileRecord (some r) t.out.newest t.out.readMark t.unread), t)

/-! The choice is a variable while `readTileRecord` is opened, and what is unread is settled before it is split: at a constructor Lean would
compute the subtraction modulo 2^32. -/

theorem readTileRecord_of_read {P : ReplyBody × State → Prop} (choice : RecordChoice) {s : State} (h : s.unread = 0)
    (hsequence : ∀ n, choice = .sequence n → P (tileRecordAnswer (s.heldRecord n) s))
    (hnext : choice = .next → P (tileRecordAnswer none s)) (hunknown : choice = .unknown → P (refuse .badField 1, s)) :
    P (readTileRecord choice s) := by
  delta readTileRecord
  rw [if_pos h]
  cases choice with
  | unknown => exact hunknown rfl
  | sequence n => exact hsequence n rfl
  | next => exact hnext rfl

theorem readTileRecord_of_unread {P : ReplyBody × State → Prop} (choice : RecordChoice) {s : State} (h : s.unread ≠ 0)
    (hsequence : ∀ n, choice = .sequence n → P (tileRecordAnswer (s.heldRecord n) s))
    (hnext : choice = .next → P (tileRecordAnswer (s.heldRecord ((s.out.readMark + 1) % modU32)) s))
    (hunknown : choice = .unknown → P (refuse .badField 1, s)) :
    P (readTileRecord choice s) := by
  delta readTileRecord
  rw [if_neg h]
  generalize (s.heldRecord ((s.out.readMark + 1) % modU32)) = found at hnext ⊢
  cases choice with
  | unknown => exact hunknown rfl
  | sequence n => exact hsequence n rfl
  | next => exact hnext rfl

theorem readTileRecord_sequence (n : Nat) (s : State) : readTileRecord (.sequence n) s = tileRecordAnswer (s.heldRecord n) s := by
  have hsequence (m : Nat) (h : RecordChoice.sequence n = .sequence m) :
      tileRecordAnswer (s.heldRecord m) s = tileRecordAnswer (s.heldRecord n) s := by rw [RecordChoice.sequence.inj h]
  by_cases h : s.unread = 0
  · exact readTileRecord_of_read (P := (· = _)) (.sequence n) h hsequence (nomatch ·) (nomatch ·)
  · exact readTileRecord_of_unread (P := (· = _)) (.sequence n) h hsequence (nomatch ·) (nomatch ·)

theorem readTileRecord_next_of_read {s : State} (h : s.unread = 0) : readTileRecord .next s = tileRecordAnswer none s :=
  readTileRecord_of_read (P := (· = _)) .next h (fun _ h => nomatch h) (fun _ => rfl) (nomatch ·)

theorem readTileRecord_next_of_unread {s : State} (h : s.unread ≠ 0) :
    readTileRecord .next s = tileRecordAnswer (s.heldRecord ((s.out.readMark + 1) % modU32)) s :=
  readTileRecord_of_unread (P := (· = _)) .next h (fun _ h => nomatch h) (fun _ => rfl) (nomatch ·)

/-- The read mark once the record of a sequence has been returned (R158). -/
def State.markAfter (s : State) (n : Nat) : Nat :=
  if subU32 s.out.newest n < subU32 s.out.newest s.out.readMark then n else s.out.readMark

theorem markRead_eq (n : Nat) (s : State) : markRead n s = { s with out.readMark := s.markAfter n } := by
  unfold markRead State.markAfter State.unread
  split <;> rfl

theorem tileRecordAnswer_none (s : State) :
    tileRecordAnswer none s = (.refused .notFound 0 (.tileRecord none s.out.newest s.out.readMark s.unread), s) := rfl

theorem tileRecordAnswer_some {r : TileRecord} {s : State} {mark : Nat} (h : mark = s.markAfter r.sequence) :
    tileRecordAnswer (some r) s
      = (.ok (.tileRecord (some r) s.out.newest mark (subU32 s.out.newest mark)), { s with out.readMark := mark }) := by
  have hread : markRead r.sequence s = { s with out.readMark := mark } := by rw [markRead_eq, h]
  unfold tileRecordAnswer
  dsimp only
  rw [hread]
  rfl

theorem unread_eq_zero_iff {s : State} (hnewest : s.out.newest < 4294967296) (hmark : s.out.readMark < 4294967296) :
    s.unread = 0 ↔ s.out.newest = s.out.readMark := by
  have := subU32_cast s.out.newest s.out.readMark
  unfold State.unread
  omega

/-- The oldest unread record, once returned, is the newest of those read. -/
theorem markAfter_next {s : State} (hnewest : s.out.newest < 4294967296) (hmark : s.out.readMark < 4294967296)
    (h : s.out.newest ≠ s.out.readMark) :
    s.markAfter ((s.out.readMark + 1) % 4294967296) = (s.out.readMark + 1) % 4294967296
      ∧ subU32 s.out.newest ((s.out.readMark + 1) % 4294967296) = subU32 s.out.newest s.out.readMark - 1 := by
  have hnext := subU32_cast s.out.newest ((s.out.readMark + 1) % 4294967296)
  have hnow := subU32_cast s.out.newest s.out.readMark
  have hless : subU32 s.out.newest ((s.out.readMark + 1) % 4294967296) = subU32 s.out.newest s.out.readMark - 1
      ∧ subU32 s.out.newest ((s.out.readMark + 1) % 4294967296) < subU32 s.out.newest s.out.readMark := by
    push_cast at hnext
    omega
  exact ⟨if_pos hless.2, hless.1⟩

/-! ### The image sender -/

/-- The item that `oldestBy` finds has an age, and none of the list has a greater one; it finds none only where none has an age. -/
theorem oldestBy_spec {α : Type} (age : α → Option Nat) (l : List α) :
    (oldestBy age l = none → ∀ y ∈ l, age y = none)
      ∧ ∀ x, oldestBy age l = some x → x ∈ l ∧ ∃ n, age x = some n ∧ ∀ y ∈ l, ∀ m, age y = some m → m ≤ n := by
  induction l with
  | nil => exact ⟨fun _ _ h => absurd h List.not_mem_nil, fun _ h => nomatch h⟩
  | cons z l ih =>
    obtain ⟨hnone, hsome⟩ := ih
    unfold oldestBy
    split
    · next hz =>
      refine ⟨fun h => List.forall_mem_cons.mpr ⟨hz, hnone h⟩, fun x hx => ?_⟩
      obtain ⟨hmem, n, hn, hmax⟩ := hsome x hx
      exact ⟨List.mem_cons_of_mem z hmem, n, hn, List.forall_mem_cons.mpr ⟨fun m hm => (nomatch hz.symm.trans hm), hmax⟩⟩
    · next n hz hl =>
      refine ⟨fun h => (nomatch h), fun x hx => ?_⟩
      obtain rfl := Option.some.inj hx
      refine ⟨List.mem_cons_self, n, hz, List.forall_mem_cons.mpr ⟨fun m hm => ?_, fun y hy m hm => ?_⟩⟩
      · exact (Option.some.inj (hm.symm.trans hz)).le
      · exact nomatch (hnone hl y hy).symm.trans hm
    · next n y hz hl =>
      obtain ⟨hmem, k, hk, hmax⟩ := hsome y hl
      refine ⟨fun h => ?_, fun x hx => ?_⟩
      · split at h <;> exact nomatch h
      · rw [hk, Option.getD_some] at hx
        split at hx <;> obtain rfl := Option.some.inj hx
        · next hle =>
          refine ⟨List.mem_cons_self, n, hz, List.forall_mem_cons.mpr ⟨fun m hm => ?_, fun y hy m hm => (hmax y hy m hm).trans hle⟩⟩
          exact (Option.some.inj (hm.symm.trans hz)).le
        · next hlt =>
          refine ⟨List.mem_cons_of_mem z hmem, k, hk, List.forall_mem_cons.mpr ⟨fun m hm => ?_, hmax⟩⟩
          have := Option.some.inj (hm.symm.trans hz)
          omega

theorem oldestBy_of_greatest {α : Type} {age : α → Option Nat} {l : List α} {x : α} {n : Nat} (hx : x ∈ l) (hn : age x = some n)
    (h : ∀ y, y ≠ x → ∀ m, age y = some m → m < n) : oldestBy age l = some x := by
  obtain ⟨hnone, hsome⟩ := oldestBy_spec age l
  cases hl : oldestBy age l with
  | none => exact nomatch (hnone hl x hx).symm.trans hn
  | some y =>
    obtain ⟨-, k, hk, hmax⟩ := hsome y hl
    by_contra hne
    have hlt := h y (fun e => hne (congrArg some e)) k hk
    have hle := hmax x hx n hn
    omega

theorem mem_allBufs (i : BufId) : i ∈ allBufs := by cases i <;> decide

theorem sendingBuf_eq_none {s : State} (h : ∀ k c, s.buf k = some c → c.state ≠ .sending) : s.sendingBuf = none := by
  refine List.find?_eq_none.mpr fun k _ => ?_
  cases hk : s.buf k with
  | none => simp
  | some c => simpa using h k c hk

theorem sendingBuf_eq_some {s : State} {i : BufId} {b : Buf} (hi : s.buf i = some b) (hb : b.state = .sending)
    (h : ∀ k c, k ≠ i → s.buf k = some c → c.state ≠ .sending) : s.sendingBuf = some i := by
  cases hf : s.sendingBuf with
  | none =>
    have := List.find?_eq_none.mp hf i (mem_allBufs i)
    simp [hi, hb] at this
  | some k =>
    have hk := List.find?_some hf
    by_contra hne
    cases hbuf : s.buf k with
    | none => simp [hbuf] at hk
    | some c => exact h k c (fun e => hne (congrArg some e)) hbuf (by simpa [hbuf] using hk)

theorem readyAge_of_ready {s : State} {i : BufId} {b : Buf} {st : Nat} (hi : s.buf i = some b) (hb : b.state = .ready) (hst : b.stamp = some st) :
    s.readyAge i = some (subU32 s.out.lastStamp st) := by
  unfold State.readyAge
  rw [hi, Option.bind_some]
  simp only [hb, hst]

/-- A buffer with an age is READY and has a stamp. -/
theorem readyAge_eq_some {s : State} {i : BufId} {n : Nat} (h : s.readyAge i = some n) :
    ∃ b st, s.buf i = some b ∧ b.state = .ready ∧ b.stamp = some st ∧ n = subU32 s.out.lastStamp st := by
  unfold State.readyAge at h
  obtain ⟨b, hb, hage⟩ := Option.bind_eq_some_iff.mp h
  split at hage
  · next st hstate hst => exact ⟨b, st, hb, hstate, hst, (Option.some.inj hage).symm⟩
  · exact nomatch hage

/-- Settles O56. -/
theorem recordsAndTilesLeaveThePart : Obligations.RecordsAndTilesLeaveThePart := by
  refine ⟨fun s tag flags rest n hn hat => ⟨?found, ?notHeld⟩, fun s tag flags rest hat hnewest hmark => ⟨?allRead, ?next⟩, ?choose, ?taken, ?unlinked⟩
  case found =>
    rintro r pre post hrecords hpre hr _ rfl
    refine exec_answer (t := { s with out.readMark := s.markAfter n }) rfl rfl (choiceLayout_sequence hn) hat ?_
    rw [readTileRecord_sequence, heldRecord_of_split (s := { s with link.intake := rest }) hrecords hpre hr]
    exact tileRecordAnswer_some (by rw [hr, State.markAfter])
  case notHeld =>
    intro hnone
    refine exec_answer rfl rfl (choiceLayout_sequence hn) hat ?_
    rw [readTileRecord_sequence, heldRecord_eq_none (s := { s with link.intake := rest }) hnone, tileRecordAnswer_none]
    rfl
  case allRead =>
    intro hread
    have hzero : ({ s with link.intake := rest } : State).unread = 0 :=
      (unread_eq_zero_iff (s := { s with link.intake := rest }) hnewest hmark).mpr hread
    refine exec_answer rfl rfl choiceLayout_next hat ?_
    rw [readTileRecord_next_of_read hzero, tileRecordAnswer_none, hzero]
  case next =>
    rintro r pre post _ hunread rfl hrecords hpre hr
    have hnonzero : ({ s with link.intake := rest } : State).unread ≠ 0 :=
      fun h => hunread ((unread_eq_zero_iff (s := { s with link.intake := rest }) hnewest hmark).mp h)
    obtain ⟨hafter, -⟩ := markAfter_next (s := { s with link.intake := rest }) hnewest hmark hunread
    obtain ⟨-, hless⟩ := markAfter_next hnewest hmark hunread
    refine exec_answer (t := { s with out.readMark := (s.out.readMark + 1) % 4294967296 }) rfl rfl choiceLayout_next hat ?_
    rw [readTileRecord_next_of_unread hnonzero, modU32, heldRecord_of_split (s := { s with link.intake := rest }) hrecords hpre hr,
      ← hless]
    exact tileRecordAnswer_some (hr ▸ hafter.symm)
  case choose =>
    intro s i b st hstate hnone hi hb hst hothers
    have hold : oldestBy s.readyAge allBufs = some i := by
      refine oldestBy_of_greatest (mem_allBufs i) (readyAge_of_ready hi hb hst) fun k hk m hm => ?_
      obtain ⟨c, stc, hc, hready, hstamp, rfl⟩ := readyAge_eq_some hm
      obtain ⟨st2, hst2, hlt⟩ := hothers k c hk hc hready
      obtain rfl := Option.some.inj (hst2.symm.trans hstamp)
      rw [← subU32_cast, ← subU32_cast] at hlt
      exact Int.ofNat_lt.mp hlt
    change execImageSenderTake s = _
    rw [execImageSenderTake, if_pos ⟨sendingBuf_eq_none hnone, hstate⟩, hold]
    dsimp only
    rw [hi]
    rfl
  case taken =>
    intro s i b hstate hi hb hothers
    have htake : exec .imageFrameTaken s = .next (s.setBuf i (takeImageFrame b)) := by
      change execImageFrameTaken s = _
      rw [execImageFrameTaken, if_pos hstate, sendingBuf_eq_some hi hb hothers]
      dsimp only
      rw [hi]
      rfl
    rw [htake, takeImageFrame]
    refine ⟨fun hheader => ?_, fun hheader hrows => ?_, fun hheader hrows => ?_⟩
    · simp [hheader]
    · simp [hheader, hrows]
    · simp [hheader, Nat.not_lt.mpr hrows]
  case unlinked =>
    intro s hstate
    constructor
    · change execImageSenderTake s = _
      rw [execImageSenderTake, if_neg fun h => hstate h.2]
    · change execImageFrameTaken s = _
      rw [execImageFrameTaken, if_neg hstate]

end Sys2Proof.Machine
end

section
/-! The fault unit: the recording of a fault and its requests (R175 to R185); O58 and O59. -/
namespace Sys2Proof.Machine
open Sys2Proof

/-! ### The recording of a fault (R178) -/

/-- The state of a kind once it has been seen again. -/
def KindState.seenAgain (ks : KindState) : KindState := { ks with seen := true, count := min 255 (ks.count + 1) }

/-- The job mark once a kind has been seen (R182). -/
def State.jobMarkAfter (s : State) (k : FaultKind) : Option FaultKind :=
  if s.pass.job ≠ none ∧ s.faults.jobMark = none then some k else s.faults.jobMark

theorem markSeen_eq (k : FaultKind) (s : State) :
    markSeen k s = { s with faults.kinds := s.faults.kinds.set k.index (s.kind k).seenAgain, faults.jobMark := s.jobMarkAfter k } := by
  have hcond : (s.jobActive && s.faults.jobMark.isNone) = true ↔ s.pass.job ≠ none ∧ s.faults.jobMark = none := by
    simp [State.jobActive, Option.isSome_iff_ne_none]
  unfold markSeen State.jobMarkAfter
  dsimp only
  by_cases h : s.pass.job ≠ none ∧ s.faults.jobMark = none
  · rw [if_pos h]
    exact (if_pos (hcond.mpr h)).trans rfl
  · rw [if_neg h]
    exact (if_neg (mt hcond.mp h)).trans rfl

theorem recordFault_masked {k : FaultKind} {s : State} (h : (s.kind k).masked = true) (fields : Ctx) (injected : Bool) :
    recordFault k fields injected s = (markSeen k s, .none) := by
  simp only [recordFault, h, if_true]

theorem kind_markSeen {s : State} (h : s.faults.kinds.length = 16) (k : FaultKind) : (markSeen k s).kind k = (s.kind k).seenAgain := by
  rw [markSeen_eq]
  exact kind_setKind s k _ h

theorem kind_markSeen_ne {k j : FaultKind} (h : j ≠ k) (s : State) : (markSeen k s).kind j = s.kind j := by
  rw [markSeen_eq]
  exact kind_setKind_ne s _ h

/-- The first-fault slot of a class (R179). -/
def State.classSlot (s : State) : Severity → Option FaultSlot
  | .corrected => s.faults.corrected
  | .degraded | .fatal => s.faults.serious

/-- The faults with the slot of a class replaced. -/
def Faults.withSlot (f : Faults) (cls : Severity) (slot : Option FaultSlot) : Faults :=
  match cls with
  | .corrected => { f with corrected := slot }
  | .degraded | .fatal => { f with serious := slot }

theorem takeSlot_eq (k : FaultKind) (ctx : Context) (cls : Severity) (s : State) :
    takeSlot k ctx cls s = ({ s with faults := s.faults.withSlot cls (some (fillSlot (s.classSlot cls) k ctx (decide (cls = .fatal))).1) },
      (fillSlot (s.classSlot cls) k ctx (decide (cls = .fatal))).2) := by
  cases cls <;> rfl

theorem postNotice_ite (p : Prop) [Decidable p] (n : Notice) (s : State) :
    (if p then postNotice n s else s) = { s with link := if p then s.link.posted n else s.link } := by
  split
  · exact postNotice_eq n s
  · rfl

/-- All that the recording of an unmasked fault does: its kind is seen, its class's slot taken, its notice posted and, for FATAL, its
escalation made. -/
theorem recordFault_unmasked {k : FaultKind} {s : State} (hlen : s.faults.kinds.length = 16) (h : (s.kind k).masked = false) (fields : Ctx)
    (injected : Bool) :
    let ks := s.kind k
    let ctx : Context := ⟨fields, s.time.count, injected⟩
    let taken := fillSlot (s.classSlot ks.severity) k ctx (decide (ks.severity = .fatal))
    recordFault k fields injected s = ({ s with
      faults := { s.faults.withSlot ks.severity (some taken.1) with
        kinds := s.faults.kinds.set k.index ks.seenAgain
        jobMark := s.jobMarkAfter k
        escalations := s.faults.escalations ++ (if ks.severity = .fatal then [(k, injected)] else []) }
      link := if s.notifies ks.severity then s.link.posted (.fault k ks.severity (min 255 (ks.count + 1)) ctx taken.2) else s.link },
      taken.2) := by
  have hseen := kind_markSeen hlen k
  unfold recordFault
  simp only [h, Bool.false_eq_true, if_false, takeSlot_eq, postNotice_ite]
  generalize hks : s.kind k = ks at *
  have hkind (cls : Severity) (slot : Option FaultSlot) :
      ({ markSeen k s with faults := (markSeen k s).faults.withSlot cls slot } : State).kind k = ks.seenAgain := by
    rw [← hseen]
    cases cls <;> rfl
  rw [hkind]
  simp only [markSeen_eq, hks]
  cases ks.severity
  case fatal => rfl
  all_goals
    simp only [reduceCtorEq, if_false, List.append_nil]
    rfl

/-- The same in the terms of the statements. -/
theorem recordFault_recorded {k : FaultKind} {s : State} (hlen : s.faults.kinds.length = 16) (h : (s.kind k).masked = false) (fields : Ctx)
    (injected : Bool) :
    RecordedUnmasked s (recordFault k fields injected s).1 s.link k (s.kind k) ⟨fields, s.time.count, injected⟩
      (recordFault k fields injected s).2 := by
  rintro _ _ rfl rfl
  rw [recordFault_unmasked hlen h]
  generalize s.kind k = ks
  rcases ks with ⟨seen, count, masked, cls⟩
  cases cls
  case corrected => cases hslot : s.faults.corrected <;> simp [State.classSlot, fillSlot, hslot, Faults.withSlot, State.notifies]
  all_goals cases hslot : s.faults.serious <;> simp [State.classSlot, fillSlot, hslot, Faults.withSlot, State.notifies]

theorem recordFault_kinds (k : FaultKind) (fields : Ctx) (injected : Bool) (s : State) (hlen : s.faults.kinds.length = 16) :
    (recordFault k fields injected s).1.faults.kinds = s.faults.kinds.set k.index (s.kind k).seenAgain
      ∧ (recordFault k fields injected s).1.faults.jobMark = s.jobMarkAfter k
      ∧ { (recordFault k fields injected s).1 with faults := s.faults, link := s.link } = s := by
  cases h : (s.kind k).masked
  · rw [recordFault_unmasked hlen h]
    exact ⟨rfl, rfl, rfl⟩
  · rw [recordFault_masked h, markSeen_eq]
    exact ⟨rfl, rfl, rfl⟩

theorem kind_of_kinds {s t : State} (h : t.faults.kinds = s.faults.kinds) (k : FaultKind) : t.kind k = s.kind k := by
  unfold State.kind
  rw [h]

theorem recordFault_kind (k : FaultKind) (fields : Ctx) (injected : Bool) {s : State} (hlen : s.faults.kinds.length = 16) :
    (recordFault k fields injected s).1.kind k = (s.kind k).seenAgain := by
  obtain ⟨hkinds, -, -⟩ := recordFault_kinds k fields injected s hlen
  rw [kind_of_kinds (s := s.setKind k (s.kind k).seenAgain) hkinds, kind_setKind s k _ hlen]

theorem recordFault_kind_ne {k j : FaultKind} (h : j ≠ k) (fields : Ctx) (injected : Bool) {s : State} (hlen : s.faults.kinds.length = 16) :
    (recordFault k fields injected s).1.kind j = s.kind j := by
  obtain ⟨hkinds, -, -⟩ := recordFault_kinds k fields injected s hlen
  rw [kind_of_kinds (s := s.setKind k (s.kind k).seenAgain) hkinds, kind_setKind_ne s _ h]

/-! ### FAULT_TAKEN -/

theorem recordAhead_self (n : Nat) (as : List Ahead) :
    (recordAhead n as)[n]? = some (if as[n]? = some .halted then .halted else .recorded) := by
  induction n, as using recordAhead.induct with
  | case1 => rfl
  | case2 a as => cases a <;> rfl
  | case3 n ih => simpa [recordAhead] using ih
  | case4 n a as ih => simpa [recordAhead] using ih

theorem takeRaised_eq {s : State} {n : Nat} {r : Raised} (h : s.faults.raised[n]? = some r) :
    takeRaised n s = (recordFault r.kind r.ctx false { s with faults.raised := s.faults.raised.eraseIdx n }).1 := by
  simp only [takeRaised, h]

/-- Settles O58. -/
theorem faultTakenRecordsByMaskAndSeverity : Obligations.FaultTakenRecordsByMaskAndSeverity := by
  refine ⟨fun s n hn => ?ahead, ?taken⟩
  case ahead =>
    refine ⟨recordAhead (n - s.faults.raised.length) s.faults.ahead, ?_, recordAhead_self _ _, fun k hk => ?_⟩
    · change execFaultTaken n s = _
      rw [execFaultTaken, if_neg (Nat.not_lt.mpr hn)]
    · rw [recordAhead_getD, if_neg hk]
  case taken =>
    rintro s n r _ _ hr rfl rfl hlen
    have hexec : exec (.faultTaken n) s = .next (takeRaised n s) := by
      change execFaultTaken n s = _
      rw [execFaultTaken, if_pos (List.getElem?_eq_some_iff.mp hr).1]
    rw [hexec, takeRaised_eq hr]
    generalize ht : ({ s with faults.raised := s.faults.raised.eraseIdx n } : State) = t
    have htlen : t.faults.kinds.length = 16 := ht ▸ hlen
    have hkind (k : FaultKind) : t.kind k = s.kind k := kind_of_kinds (ht ▸ rfl) k
    obtain ⟨-, hmark, hframe⟩ := recordFault_kinds r.kind r.ctx false t htlen
    refine ⟨_, rfl, ?_, ?_, fun k hk => ?_, ?_, fun hmasked => ?_, fun hmasked => ?_, ?_, ?_⟩
    · simp [← ht]
    · rw [recordFault_kind r.kind r.ctx false htlen, hkind]
      rfl
    · rw [recordFault_kind_ne hk r.ctx false htlen, hkind]
    · rw [hmark, ← ht]
      rfl
    · rw [recordFault_masked ((congrArg KindState.masked (hkind r.kind)).trans hmasked), markSeen_eq, ← ht]
      exact ⟨rfl, rfl, rfl, rfl⟩
    · have hrecorded := recordFault_recorded htlen ((congrArg KindState.masked (hkind r.kind)).trans hmasked) r.ctx false
      rw [hkind] at hrecorded
      subst ht
      exact ⟨_, hrecorded⟩
    · subst ht
      exact congrArg (fun u : State => { u with faults := s.faults, link := s.link }) hframe
    · simp [← ht]

/-! ### Kinds changed one after another -/

/-- `s` with the states of the kinds listed changed by `g`. -/
def State.mapKinds (s : State) (g : KindState → KindState) (kinds : List FaultKind) : State :=
  { s with
    faults.kinds := kinds.foldl (fun l k => l.set k.index (g (l.getD k.index ⟨false, 0, false, defaultSeverity k⟩))) s.faults.kinds }

theorem foldl_setKind {f : State → FaultKind → State} {g : KindState → KindState} (hf : ∀ s k, f s k = s.setKind k (g (s.kind k)))
    (kinds : List FaultKind) (s : State) : kinds.foldl f s = s.mapKinds g kinds := by
  induction kinds generalizing s with
  | nil => rfl
  | cons k kinds ih => rw [List.foldl_cons, ih, hf]; rfl

theorem kind_mapKinds {g : KindState → KindState} {kinds : List FaultKind} (hnodup : kinds.Nodup) {s : State}
    (hlen : s.faults.kinds.length = 16) (k : FaultKind) :
    (s.mapKinds g kinds).kind k = if k ∈ kinds then g (s.kind k) else s.kind k := by
  induction kinds generalizing s with
  | nil => rfl
  | cons j kinds ih =>
    obtain ⟨hj, hkinds⟩ := List.nodup_cons.mp hnodup
    have hstep : s.mapKinds g (j :: kinds) = (s.setKind j (g (s.kind j))).mapKinds g kinds := rfl
    have hlen' : (s.setKind j (g (s.kind j))).faults.kinds.length = 16 := by simp [State.setKind, hlen]
    rw [hstep, ih hkinds hlen']
    by_cases hkj : k = j
    · subst hkj
      rw [if_neg hj, if_pos List.mem_cons_self, kind_setKind s k _ hlen]
    · simp [hkj, kind_setKind_ne s _ hkj]

/-- The kinds that a "kind or ALL" code names. -/
theorem kindsOfCode_eq {code : Byte} {kinds : List FaultKind}
    (h : kinds = allKinds ∧ code = 255#8 ∨ ∃ k, allKinds[code.toNat]? = some k ∧ kinds = [k]) :
    kindsOfCode code.toNat = some kinds ∧ kinds.Nodup := by
  rcases h with ⟨rfl, rfl⟩ | ⟨k, hk, rfl⟩
  · exact ⟨rfl, by decide⟩
  · have hlt := (List.getElem?_eq_some_iff.mp hk).1
    have hne : code.toNat ≠ 255 := fun e => by rw [e] at hlt; exact absurd hlt (by decide)
    exact ⟨by rw [kindsOfCode, if_neg hne, faultKindOfCode, hk]; rfl, List.nodup_singleton k⟩

theorem faultKindOfCode_eq_none {code : Byte} (h : 15 < code.toNat) : faultKindOfCode code.toNat = none :=
  List.getElem?_eq_none (Nat.succ_le_of_lt h)

theorem kindsOfCode_eq_none {code : Byte} (h : 15 < code.toNat) (hall : code ≠ 255#8) : kindsOfCode code.toNat = none := by
  rw [kindsOfCode, if_neg (c := code.toNat = 255) fun e => hall (BitVec.eq_of_toNat_eq (y := 255#8) e), faultKindOfCode_eq_none h]
  rfl

/-! ### SET-FAULT-CONTROL -/

/-- An optional byte as a body gives it. -/
def optByte (o : Option Byte) : List Byte := match o with | none => [0#8] | some m => [1#8, m]

theorem takeOpt_optByte (o : Option Byte) (bs : List Byte) : takeOpt (takeNum 1) (optByte o ++ bs) = some (o.map (·.toNat), bs) := by
  cases o <;> simp [optByte, takeOpt, takeNum, leNat]

theorem faultControlLayout_eq (code : Byte) (mask severity : Option Byte) :
    faultControlLayout (code :: (optByte mask ++ optByte severity)) = some (code.toNat, mask.map (·.toNat), severity.map (·.toNat)) := by
  have hcode : takeNum 1 (code :: (optByte mask ++ optByte severity)) = some (code.toNat, optByte mask ++ optByte severity) := by
    simp [takeNum, leNat]
  have hseverity := takeOpt_optByte severity []
  rw [List.append_nil] at hseverity
  rw [faultControlLayout, hcode]
  dsimp only [Option.bind_eq_bind, Option.bind_some]
  rw [takeOpt_optByte]
  dsimp only [Option.bind_some]
  rw [hseverity]
  rfl

theorem maskOfCode_eq {m : Byte} (h : m.toNat ≤ 1) : maskOfCode m.toNat = some (decide (m = 0#8)) := by
  obtain hm | hm : m.toNat = 0 ∨ m.toNat = 1 := by omega
  · rw [BitVec.eq_of_toNat_eq (y := 0#8) hm]; rfl
  · rw [BitVec.eq_of_toNat_eq (y := 1#8) hm]; rfl

theorem severityOfCode_eq {v : Byte} (h : v.toNat ≤ 2) :
    severityOfCode v.toNat = some (if v = 0#8 then .corrected else if v = 1#8 then .degraded else .fatal) := by
  obtain hv | hv | hv : v.toNat = 0 ∨ v.toNat = 1 ∨ v.toNat = 2 := by omega
  · rw [BitVec.eq_of_toNat_eq (y := 0#8) hv]; rfl
  · rw [BitVec.eq_of_toNat_eq (y := 1#8) hv]; rfl
  · rw [BitVec.eq_of_toNat_eq (y := 2#8) hv]; rfl

theorem maskOfCode_isNone {n : Nat} (h : 1 < n) : (maskOfCode n).isNone = true := by
  match n with
  | n + 2 => rfl

theorem severityOfCode_isNone {n : Nat} (h : 2 < n) : (severityOfCode n).isNone = true := by
  match n with
  | n + 3 => rfl

/-- A SET-FAULT-CONTROL that passes its checks. -/
theorem setFaultControl_taken {code : Nat} {kinds : List FaultKind} {mask severity : Option Byte} {new : KindState → KindState} {s : State}
    (hkinds : kindsOfCode code = some kinds)
    (hnew : ∀ ks, new ks = { ks with
      masked := (match mask with | none => ks.masked | some m => decide (m = 0#8))
      severity := (match severity with
        | none => ks.severity
        | some v => if v = 0#8 then .corrected else if v = 1#8 then .degraded else .fatal) })
    (hany : mask ≠ none ∨ severity ≠ none) (hmask : ∀ m, mask = some m → m.toNat ≤ 1) (hseverity : ∀ v, severity = some v → v.toNat ≤ 2) :
    setFaultControl (code, mask.map (·.toNat), severity.map (·.toNat)) s
      = (.ok (.faultControl (kinds.map (s.mapKinds new kinds).controlRow)), s.mapKinds new kinds) := by
  have hmaskOk : ((mask.map (·.toNat)).any fun m => (maskOfCode m).isNone) = false := by
    cases mask with
    | none => rfl
    | some m => simp [maskOfCode_eq (hmask m rfl)]
  have hseverityOk : ((severity.map (·.toNat)).any fun v => (severityOfCode v).isNone) = false := by
    cases severity with
    | none => rfl
    | some v => simp [severityOfCode_eq (hseverity v rfl)]
  have hsome : ¬ (mask.map (·.toNat) = none ∧ severity.map (·.toNat) = none) := by
    simp only [Option.map_eq_none_iff]
    exact fun h => hany.elim (· h.1) (· h.2)
  have hcontrol (t : State) (k : FaultKind) :
      controlKind ((mask.map (·.toNat)).bind maskOfCode) ((severity.map (·.toNat)).bind severityOfCode) t k = t.setKind k (new (t.kind k)) := by
    unfold controlKind
    rw [hnew]
    cases mask with
    | none =>
      cases severity with
      | none => rfl
      | some v => simp [severityOfCode_eq (hseverity v rfl)]
    | some m =>
      cases severity with
      | none => simp [maskOfCode_eq (hmask m rfl)]
      | some v => simp [maskOfCode_eq (hmask m rfl), severityOfCode_eq (hseverity v rfl)]
  simp only [setFaultControl, hkinds, hmaskOk, hseverityOk, Bool.false_eq_true, if_false, hsome, foldl_setKind hcontrol]

/-! ### CLEAR-FAULT -/

/-- A kind that is cleared. -/
def KindState.cleared (ks : KindState) : KindState := { ks with seen := false, count := 0 }

theorem emptySlot_eq (kinds : List FaultKind) (slot : Option FaultSlot) :
    emptySlot kinds slot = match slot with | some f => if f.kind ∈ kinds then none else some f | none => none := by
  cases slot with
  | none => rfl
  | some f => by_cases h : f.kind ∈ kinds <;> simp [emptySlot, Option.filter, h]

/-- The state that CLEAR-FAULT leaves. -/
def State.clearKinds (s : State) (kinds : List FaultKind) : State :=
  { s.mapKinds KindState.cleared kinds with
    faults.corrected := emptySlot kinds s.faults.corrected, faults.serious := emptySlot kinds s.faults.serious }

theorem clearFault_taken {code : Nat} {kinds : List FaultKind} (hkinds : kindsOfCode code = some kinds) (s : State) :
    clearFault code s = (.ok (.faultCleared (kinds.map (s.clearKinds kinds).clearRow) (emptySlot kinds s.faults.corrected)
      (emptySlot kinds s.faults.serious)), s.clearKinds kinds) := by
  have hcleared := foldl_setKind (f := clearKind) (g := KindState.cleared) (fun _ _ => rfl) kinds s
  simp only [clearFault, hkinds, hcleared]
  rfl

/-! ### INJECT-FAULT -/

theorem allKinds_index {n : Nat} {k : FaultKind} (h : allKinds[n]? = some k) : k.index = n := by
  obtain ⟨hlt, hk⟩ := List.getElem?_eq_some_iff.mp h
  have hlt16 : n < 16 := hlt
  subst hk
  interval_cases n <;> rfl

theorem injectFault_open {code : Nat} {k : FaultKind} (hk : faultKindOfCode code = some k) {s : State} (hlen : s.faults.kinds.length = 16)
    (hlock : s.faults.locked = false) :
    injectFault code s = (.ok (.injected true (min 255 ((s.kind k).count + 1)) (s.kind k).severity (recordFault k s.injectCtx true s).2),
      (recordFault k s.injectCtx true s).1) := by
  simp only [injectFault, hk, hlock, Bool.false_eq_true, if_false, recordFault_kind k s.injectCtx true hlen]
  rfl

theorem Link.posted_answered (l : Link) (n : Notice) (intake : List (List Byte)) (replies : List Reply) :
    ({ l with intake := intake, replies := replies } : Link).posted n = { l.posted n with intake := intake, replies := replies } := by
  unfold Link.posted
  dsimp only
  split <;> rfl

/-- An answer joins the reply queue beside the notice of a recording. -/
theorem RecordedUnmasked.answer {s t : State} {k : FaultKind} {ks : KindState} {ctx : Context} {effect : SlotEffect}
    (h : RecordedUnmasked s t s.link k ks ctx effect) (rest : List (List Byte)) (code : Nat) (tag : Byte) (reply : ReplyBody) :
    RecordedUnmasked s (t.answer rest code tag reply) (s.answer rest code tag reply).link k ks ctx effect := by
  intro mine after hmine hafter
  obtain ⟨heffect, hcorrected, hserious, hescalations, hlink⟩ := h mine after hmine hafter
  refine ⟨heffect, hcorrected, hserious, hescalations, ?_⟩
  unfold State.answer
  dsimp only
  rw [hlink]
  split <;> split <;> simp_all [Link.posted_answered]

theorem recordFault_withIntake (k : FaultKind) (fields : Ctx) (injected : Bool) (rest : List (List Byte)) {s : State}
    (hlen : s.faults.kinds.length = 16) :
    recordFault k fields injected { s with link.intake := rest }
      = ({ (recordFault k fields injected s).1 with link.intake := rest }, (recordFault k fields injected s).2) := by
  cases h : (s.kind k).masked
  · have hlink (p : Prop) [Decidable p] (n : Notice) :
        (if p then ({ s.link with intake := rest } : Link).posted n else { s.link with intake := rest })
          = { (if p then s.link.posted n else s.link) with intake := rest } := by
      split
      · exact s.link.posted_withIntake n rest
      · rfl
    rw [recordFault_unmasked hlen h, recordFault_unmasked (s := { s with link.intake := rest }) hlen h]
    dsimp only
    rw [hlink]
    rfl
  · rw [recordFault_masked h, recordFault_masked (s := { s with link.intake := rest }) h, markSeen_eq, markSeen_eq]
    rfl

/-- Settles O59. -/
theorem faultRequestsControlClearAndInject : Obligations.FaultRequestsControlClearAndInject := by
  intro s tag flags code rest hlen
  refine ⟨fun mask severity hat => ?control, fun hat => ?clear, fun hat => ?lock, fun hat => ?inject⟩
  case control =>
    have hlayout := faultControlLayout_eq code mask severity
    change AtHead 26 tag flags (code :: (optByte mask ++ optByte severity)) rest s at hat
    refine ⟨fun hhigh hall => ?_, fun kinds hcode => ?_⟩
    · refine exec_answer rfl rfl hlayout hat ?_
      simp only [setFaultControl, kindsOfCode_eq_none hhigh hall]
      rfl
    obtain ⟨hkinds, hnodup⟩ := kindsOfCode_eq hcode
    refine ⟨?_, fun hmask => ?_, ?_, fun new hany hmask hseverity hnew => ?_⟩
    · rintro ⟨m, rfl, hm⟩
      refine exec_answer rfl rfl hlayout hat ?_
      simp [setFaultControl, hkinds, maskOfCode_isNone hm]
      rfl
    · rintro ⟨v, rfl, hv⟩
      refine exec_answer rfl rfl hlayout hat ?_
      have hmaskOk : ((mask.map (·.toNat)).any fun m => (maskOfCode m).isNone) = false := by
        cases mask with
        | none => rfl
        | some m => simp [maskOfCode_eq (hmask m rfl)]
      simp [setFaultControl, hkinds, hmaskOk, severityOfCode_isNone hv]
      rfl
    · rintro rfl rfl
      refine exec_answer rfl rfl hlayout hat ?_
      simp [setFaultControl, hkinds]
      rfl
    · refine ⟨_, exec_answer (t := s.mapKinds new kinds) rfl rfl hlayout hat (setFaultControl_taken hkinds hnew hany hmask hseverity), ?_,
        kind_mapKinds hnodup hlen, rfl⟩
      have hrows : kinds.map (s.mapKinds new kinds).controlRow = kinds.map fun k => (k, (new (s.kind k)).masked, (new (s.kind k)).severity) := by
        refine List.map_congr_left fun k hk => ?_
        rw [State.controlRow, kind_mapKinds hnodup hlen, if_pos hk]
      rw [← hrows]
      rfl
  case clear =>
    refine ⟨fun hhigh hall => ?_, fun kinds hcode => ?_⟩
    · refine exec_answer rfl rfl (numBody_byte code) hat ?_
      simp only [clearFault, kindsOfCode_eq_none hhigh hall]
      rfl
    · obtain ⟨hkinds, hnodup⟩ := kindsOfCode_eq hcode
      refine ⟨_, _, exec_answer (t := s.clearKinds kinds) rfl rfl (numBody_byte code) hat (clearFault_taken hkinds _), rfl, ?_, ?_,
        emptySlot_eq kinds _, emptySlot_eq kinds _, rfl⟩
      · exact kind_mapKinds (g := KindState.cleared) hnodup hlen
      · refine List.map_congr_left fun k hk => ?_
        have hkind : (s.clearKinds kinds).kind k = (s.kind k).cleared :=
          (kind_mapKinds (g := KindState.cleared) hnodup hlen k).trans (if_pos hk)
        exact congrArg (fun ks : KindState => (k, ks.seen, ks.count, ks.masked)) hkind
  case lock => exact exec_answer_noBody (t := { s with faults.locked := true }) rfl rfl hat rfl
  case inject =>
    have hopen (k : FaultKind) (hk : allKinds[code.toNat]? = some k) (hlock : s.faults.locked = false) :
        exec .injectFault s = .next ((recordFault k s.injectCtx true s).1.answer rest 28 tag
          (.ok (.injected true (min 255 ((s.kind k).count + 1)) (s.kind k).severity (recordFault k s.injectCtx true s).2))) := by
      refine exec_answer rfl rfl (numBody_byte code) hat ?_
      rw [injectFault_open (s := { s with link.intake := rest }) hk hlen hlock]
      rw [show ({ s with link.intake := rest } : State).injectCtx = s.injectCtx from rfl, recordFault_withIntake k s.injectCtx true rest hlen]
      rfl
    refine ⟨fun hhigh => ?_, fun hcode hlock => ?_, fun k hk hlock hmasked => ?_, fun k ctx hk hlock hmasked hctx => ?_,
      fun k hk hlock hmasked hfatal => ?_⟩
    · refine exec_answer rfl rfl (numBody_byte code) hat ?_
      simp only [injectFault, faultKindOfCode_eq_none hhigh]
      rfl
    · refine exec_answer rfl rfl (numBody_byte code) hat ?_
      obtain ⟨k, hk⟩ : ∃ k, faultKindOfCode code.toNat = some k :=
        ⟨_, List.getElem?_eq_getElem (show code.toNat < allKinds.length from Nat.lt_succ_of_le hcode)⟩
      simp only [injectFault, hk, hlock, if_true]
      rfl
    · rw [hopen k hk hlock, recordFault_masked hmasked, markSeen_eq, allKinds_index hk]
      rfl
    · subst hctx
      obtain ⟨-, hmark, hframe⟩ := recordFault_kinds k s.injectCtx true s hlen
      refine ⟨_, _, hopen k hk hlock, (recordFault_recorded hlen hmasked s.injectCtx true).answer rest 28 tag _,
        recordFault_kind k s.injectCtx true hlen, fun j hj => recordFault_kind_ne hj s.injectCtx true hlen, hmark, ?_, ?_, hframe⟩
      · simp [State.answer]
      · simp [State.answer, hlock]
    · refine ⟨_, hopen k hk hlock, ?_, fun hserious => ?_, ?_⟩
      · rw [recordFault_unmasked hlen hmasked, hfatal]
        rfl
      · rw [recordFault_unmasked hlen hmasked, hfatal]
        simp only [State.answer, State.classSlot, hserious]
        rfl
      · simp [State.answer]

end Sys2Proof.Machine
end

section
/-! The zone table: its requests and its answer for a tile (R146 to R148); O54. -/
namespace Sys2Proof.Machine
open Sys2Proof

/-! ### SET-ZONE and CLEAR-ZONE -/

theorem takeNums_cons (n : Nat) (ns : List Nat) (v : Nat) (bs : List Byte) :
    takeNums (n :: ns) (leBytes n v ++ bs) = (takeNums ns bs).map fun r => (v % 256 ^ n :: r.1, r.2) := by
  rw [takeNums, takeNum_leBytes]

theorem leBytes_toNat (v : Byte) : leBytes 1 v.toNat = [v] := by simp [leBytes]

theorem zoneSizes_layout {index enabled kind classes : Byte} {x0 y0 x1 y1 : Nat} (hx0 : x0 < 4294967296) (hy0 : y0 < 4294967296)
    (hx1 : x1 < 4294967296) (hy1 : y1 < 4294967296) :
    numsBody zoneSizes (index :: enabled :: kind :: (leBytes 4 x0 ++ leBytes 4 y0 ++ leBytes 4 x1 ++ leBytes 4 y1 ++ [classes]))
      = some [index.toNat, enabled.toNat, kind.toNat, x0, y0, x1, y1, classes.toNat] := by
  have hbody : index :: enabled :: kind :: (leBytes 4 x0 ++ leBytes 4 y0 ++ leBytes 4 x1 ++ leBytes 4 y1 ++ [classes])
      = leBytes 1 index.toNat ++ (leBytes 1 enabled.toNat ++ (leBytes 1 kind.toNat ++ (leBytes 4 x0 ++ (leBytes 4 y0 ++ (leBytes 4 x1
        ++ (leBytes 4 y1 ++ (leBytes 1 classes.toNat ++ []))))))) := by
    simp [leBytes_toNat]
  have hbyte (v : Byte) : v.toNat % 256 ^ 1 = v.toNat := Nat.mod_eq_of_lt v.isLt
  have hword {v : Nat} (h : v < 4294967296) : v % 256 ^ 4 = v := Nat.mod_eq_of_lt h
  rw [hbody, numsBody, zoneSizes]
  have hnil : takeNums [] [] = some ([], []) := rfl
  simp only [takeNums_cons, hnil, Option.map_some, hbyte, hword hx0, hword hy0, hword hx1, hword hy1, wholeBody]

/-- SET-ZONE's first failing field, by its index. -/
theorem zoneChecks_find (index enabled kind x0 y0 x1 y1 classes : Nat) :
    ((zoneChecks [index, enabled, kind, x0, y0, x1, y1, classes]).find? fun c => !c.2).map (·.1)
      = if 7 < index then some 1 else if 1 < enabled then some 2 else if 1 < kind then some 3 else if 400000 < x0 then some 4
        else if 400000 < y0 then some 5 else if 400000 < x1 ∨ x1 ≤ x0 then some 6 else if 400000 < y1 ∨ y1 ≤ y0 then some 7
        else if classes = 0 then some 8 else none := by
  have hyes : (yesNoOfCode enabled).isSome = decide (enabled ≤ 1) := by
    rw [Bool.eq_iff_iff, yesNoOfCode_isSome, decide_eq_true_eq]
  have hkind : (zoneKindOfCode kind).isSome = decide (kind ≤ 1) := by
    rw [Bool.eq_iff_iff, isSome_ofCode_two rfl rfl (fun _ => rfl) kind, decide_eq_true_eq]
  have hgo (i : Nat) (p : Prop) [Decidable p] (l : List (Nat × Bool)) :
      ((((i, decide p) :: l).find? fun c => !c.2).map (·.1)) = if ¬ p then some i else (l.find? fun c => !c.2).map (·.1) := by
    by_cases h : p <;> simp [h]
  have hchecks : zoneChecks [index, enabled, kind, x0, y0, x1, y1, classes]
      = [(1, decide (index ≤ 7)), (2, decide (enabled ≤ 1)), (3, decide (kind ≤ 1)), (4, decide (x0 ≤ 400000)), (5, decide (y0 ≤ 400000)),
        (6, decide (x1 ≤ 400000 ∧ x0 < x1)), (7, decide (y1 ≤ 400000 ∧ y0 < y1)), (8, decide (classes ≠ 0))] := by
    rw [← hyes, ← hkind]
    rfl
  rw [hchecks]
  repeat rw [hgo]
  simp only [not_and_or, Nat.not_le, Nat.not_lt, ne_eq, not_not, List.find?_nil, Option.map_none]

/-- SET-ZONE of fields that are refused, by the index of the first that fails, and of fields that are taken. -/
theorem setZone_eq {args : List Nat} {s : State} :
    (∀ i, ((zoneChecks args).find? fun c => !c.2).map (·.1) = some i → setZone args s = (refuse .badField i, s))
      ∧ (((zoneChecks args).find? fun c => !c.2).map (·.1) = none →
        setZone args s = (.ok (.zones [(zoneArg args 1, ({ s with zones := s.zones.set (zoneArg args 1) (some (zoneOf args)) } : State).zone
          (zoneArg args 1))]), { s with zones := s.zones.set (zoneArg args 1) (some (zoneOf args)) })) := by
  unfold setZone
  cases (zoneChecks args).find? fun c => !c.2 with
  | none => exact ⟨fun _ h => (nomatch h), fun _ => rfl⟩
  | some c => exact ⟨fun i h => by rw [← Option.some.inj h], fun h => nomatch h⟩

/-- The entry that SET-ZONE's numbers make, of a kind code that is one. -/
theorem zoneOf_eq {index enabled kind classes : Byte} {x0 y0 x1 y1 : Nat} (hk : kind.toNat ≤ 1) :
    zoneOf [index.toNat, enabled.toNat, kind.toNat, x0, y0, x1, y1, classes.toNat]
      = ⟨decide (enabled = 1#8), if kind = 0#8 then .skip else .guard, x0, y0, x1, y1, classes, 0⟩ := by
  have henabled : (enabled.toNat == 1) = decide (enabled = 1#8) := by
    rw [Bool.eq_iff_iff, beq_iff_eq, decide_eq_true_eq]
    exact ⟨BitVec.eq_of_toNat_eq (y := 1#8), fun h => h ▸ rfl⟩
  have hkind : (zoneKindOfCode kind.toNat).getD .skip = if kind = 0#8 then .skip else .guard := by
    obtain h | h : kind = 0#8 ∨ kind = 1#8 :=
      (Nat.le_one_iff_eq_zero_or_eq_one.mp hk).imp (BitVec.eq_of_toNat_eq (y := 0#8)) (BitVec.eq_of_toNat_eq (y := 1#8))
    all_goals subst h; rfl
  have hclasses : BitVec.ofNat 8 classes.toNat = classes := BitVec.eq_of_toNat_eq (by rw [BitVec.toNat_ofNat, Nat.mod_eq_of_lt classes.isLt])
  simp only [zoneOf, zoneArg, Nat.reduceSub, List.getD_cons_succ, List.getD_cons_zero, henabled, hkind, hclasses]

theorem zone_set_same (s : State) {i : Nat} (h : i < s.zones.length) (z : Option Zone) :
    ({ s with zones := s.zones.set i z } : State).zone i = z := by
  unfold State.zone
  dsimp only
  rw [List.getD_eq_getElem?_getD, List.getElem?_set_self h]
  rfl

/-! ### The zone table's answer (R148) -/

theorem firstZone_eq (p : Zone → Bool) (n : Nat) (zones : List (Option Zone)) :
    firstZone p n zones = (zones.findIdx? fun z => z.any p).map (n + ·) := by
  induction zones generalizing n with
  | nil => rfl
  | cons z zones ih =>
    rw [firstZone, List.findIdx?_cons, ih]
    split
    · rfl
    · rw [Option.map_map]
      refine congrArg (Option.map · _) (funext fun k => ?_)
      simp only [Function.comp_apply]
      omega

theorem any_getElem_iff {p : Zone → Bool} {zones : List (Option Zone)} {i : Nat} (h : i < zones.length) :
    zones[i].any p = true ↔ ∃ z, zones[i]? = some (some z) ∧ p z = true := by
  rw [List.getElem?_eq_getElem h]
  cases zones[i] <;> simp

/-- The lowest-numbered entry that satisfies `p`, or none that does. -/
theorem firstZone_eq_some_iff (p : Zone → Bool) (zones : List (Option Zone)) (i : Nat) :
    firstZone p 0 zones = some i ↔ (∃ z, zones[i]? = some (some z) ∧ p z = true)
      ∧ ∀ (k : Nat) z, k < i → zones[k]? = some (some z) → ¬ p z = true := by
  simp only [firstZone_eq, Nat.zero_add, Option.map_id', List.findIdx?_eq_some_iff_getElem]
  constructor
  · rintro ⟨hi, hp, hbelow⟩
    refine ⟨(any_getElem_iff hi).mp hp, fun k z hk hz hpz => hbelow k hk ((any_getElem_iff (hk.trans hi)).mpr ⟨z, hz, hpz⟩)⟩
  · rintro ⟨⟨z, hz, hpz⟩, hbelow⟩
    have hi := (List.getElem?_eq_some_iff.mp hz).1
    refine ⟨hi, (any_getElem_iff hi).mpr ⟨z, hz, hpz⟩, fun k hk hp => ?_⟩
    obtain ⟨y, hy, hpy⟩ := (any_getElem_iff (hk.trans hi)).mp hp
    exact hbelow k y hk hy hpy

theorem firstZone_eq_none_iff (p : Zone → Bool) (zones : List (Option Zone)) :
    firstZone p 0 zones = none ↔ ∀ (k : Nat) z, zones[k]? = some (some z) → ¬ p z = true := by
  simp only [firstZone_eq, Option.map_eq_none_iff, List.findIdx?_eq_none_iff]
  constructor
  · intro h k z hz hp
    have := h (some z) (List.mem_of_getElem? hz)
    simp [hp] at this
  · intro h z hz
    obtain ⟨k, hk⟩ := List.mem_iff_getElem?.mp hz
    cases z with
    | none => rfl
    | some y => simpa using h k y hk

theorem zoneAnswer_eq_skip_iff {r : JobRecord} (huse : r.useZones = true) (zones : List (Option Zone)) (row col i : Nat) :
    zoneAnswer zones r row col = .skip i ↔ firstZone (fun z => z.applies r.formatClass && z.skips r row col) 0 zones = some i := by
  unfold zoneAnswer
  rw [huse, Bool.not_true, if_neg Bool.false_ne_true]
  split
  · next k hk => simp [hk]
  · next hnone => split <;> simp [hnone]

theorem zoneAnswer_eq_guard_iff {r : JobRecord} (huse : r.useZones = true) (zones : List (Option Zone)) (row col i : Nat) :
    zoneAnswer zones r row col = .guard i ↔ firstZone (fun z => z.applies r.formatClass && z.skips r row col) 0 zones = none
      ∧ firstZone (fun z => z.applies r.formatClass && z.guards r row col) 0 zones = some i := by
  unfold zoneAnswer
  rw [huse, Bool.not_true, if_neg Bool.false_ne_true]
  split
  · next k hk => simp [hk]
  · next hnone => split <;> simp_all

theorem zoneAnswer_unused {r : JobRecord} (h : r.useZones = false) (zones : List (Option Zone)) (row col : Nat) :
    zoneAnswer zones r row col = .none := by
  rw [zoneAnswer, h]
  rfl

/-- Settles O54. -/
theorem zoneTableEditsAndAnswers : Obligations.ZoneTableEditsAndAnswers := by
  refine ⟨?set, fun s tag flags index rest hat hlen => ⟨?one, ?all, ?other⟩, ?answer⟩
  case set =>
    intro s tag flags index enabled kind classes x0 y0 x1 y1 rest bad hat hx0 hy0 hx1 hy1 hlen hbad
    have hlayout := zoneSizes_layout (index := index) (enabled := enabled) (kind := kind) (classes := classes) hx0 hy0 hx1 hy1
    obtain ⟨hrefused, htaken⟩ := setZone_eq (args := [index.toNat, enabled.toNat, kind.toNat, x0, y0, x1, y1, classes.toNat])
      (s := { s with link.intake := rest })
    have hzero : classes.toNat = 0 ↔ classes = 0#8 := ⟨BitVec.eq_of_toNat_eq (y := 0#8), fun h => h ▸ rfl⟩
    rw [zoneChecks_find] at hrefused htaken
    simp only [hzero] at hrefused htaken
    refine ⟨fun hne => ?_, fun heq z hz => ?_⟩
    · refine exec_answer rfl rfl hlayout hat (hrefused bad ?_)
      subst hbad
      split_ifs at hne ⊢ <;> first | rfl | exact absurd rfl hne
    · subst hbad
      split_ifs at heq with h1 h2 h3 h4 h5 h6 h7 h8
      refine exec_answer (t := { s with zones := s.zones.set index.toNat (some z) }) rfl rfl hlayout hat ?_
      rw [htaken (by rw [if_neg h1, if_neg h2, if_neg h3, if_neg h4, if_neg h5, if_neg h6, if_neg h7, if_neg h8]), zoneOf_eq (by omega), ← hz]
      have hin : index.toNat < s.zones.length := by rw [hlen]; omega
      have hsame := zone_set_same { s with link.intake := rest } hin (some z)
      simp only [zoneArg, List.getD_cons_zero, Nat.sub_self]
      rw [hsame]
  case one =>
    intro hindex
    refine exec_answer (t := { s with zones := s.zones.set index.toNat none }) rfl rfl (numBody_byte index) hat ?_
    have hin : index.toNat < s.zones.length := by rw [hlen]; omega
    have hsame := zone_set_same { s with link.intake := rest } hin none
    simp only [clearZone, if_neg (show ¬ index.toNat = 255 by omega), if_pos hindex]
    rw [hsame]
  case all =>
    rintro rfl
    exact exec_answer (t := { s with zones := List.replicate 8 none }) rfl rfl (numBody_byte 255#8) hat rfl
  case other =>
    intro hhigh hall
    refine exec_answer rfl rfl (numBody_byte index) hat ?_
    have hne : ¬ index.toNat = 255 := fun e => hall (BitVec.eq_of_toNat_eq (y := 255#8) e)
    rw [clearZone, if_neg hne, if_neg (Nat.not_le.mpr hhigh)]
    rfl
  case answer =>
    intro zones r row col applies skips guards happlies hskips hguards
    refine ⟨fun huse => zoneAnswer_unused huse zones row col, fun huse => ?_⟩
    have hs (z : Zone) : (z.applies r.formatClass && z.skips r row col) = true ↔ applies z ∧ skips z := by
      rw [Bool.and_eq_true, happlies, hskips, Zone.applies, Bool.and_eq_true, Zone.skips, decide_eq_true_eq]
      rfl
    have hg (z : Zone) : (z.applies r.formatClass && z.guards r row col) = true ↔ applies z ∧ guards z := by
      rw [Bool.and_eq_true, happlies, hguards, Zone.applies, Bool.and_eq_true, Zone.guards, decide_eq_true_eq]
      rfl
    refine ⟨fun i => ?_, fun i => ?_⟩
    · rw [zoneAnswer_eq_skip_iff huse, firstZone_eq_some_iff]
      simp only [hs]
    · rw [zoneAnswer_eq_guard_iff huse, firstZone_eq_some_iff, firstZone_eq_none_iff]
      simp only [hs, hg]
      exact ⟨fun ⟨a, b, c⟩ => ⟨b, c, a⟩, fun ⟨b, c, a⟩ => ⟨a, b, c⟩⟩

end Sys2Proof.Machine
end

section
/-! The read requests: they return what stands, and change nothing but the link; O60. -/
namespace Sys2Proof.Machine
open Sys2Proof

theorem optBody_none {n : Nat} : optBody n [0#8] = some none := rfl

theorem optBody_some {n v : Nat} (h : v < 256 ^ n) : optBody n (1#8 :: leBytes n v) = some (some v) := by
  have hnum := takeNum_leBytes n v []
  rw [List.append_nil, Nat.mod_eq_of_lt h] at hnum
  rw [optBody, takeOpt, if_neg (by decide), if_pos rfl, hnum]
  rfl

/-! ### A number's place in a list -/

theorem find?_of_split {α : Type} {num : α → Nat} {n : Nat} {pre post : List α} {x : α} (hpre : ∀ q ∈ pre, num q ≠ n) (hx : num x = n) :
    (pre ++ x :: post).find? (fun q => decide (num q = n)) = some x := by
  rw [List.find?_append, List.find?_eq_none.mpr fun q hq => by simpa using hpre q hq, Option.none_or, List.find?_cons_of_pos (by simpa using hx)]

theorem positionOf_of_split {n : Nat} {pre post : List QueueJob} {j : QueueJob} (hpre : ∀ q ∈ pre, q.number ≠ n) (hj : j.number = n) :
    positionOf n (pre ++ j :: post) = pre.length + 1 := by
  rw [positionOf, List.findIdx_append, if_neg, List.findIdx_cons]
  · simp [hj]
  · simpa [List.findIdx_lt_length] using hpre

/-! ### Views -/

theorem slotView_eq (d : Slot) : d.view =
    { state := d.state, taker := d.taker
      rung := if d.taker = .ladder then some (d.rung, d.attempt) else none
      filling := if d.state = .filling then some (d.discard, d.reception, d.lines) else none
      figures := if d.state = .filling then none else some (d.b, d.clipped) } := by
  unfold Slot.view Slot.rungOf
  cases d.state <;> cases d.taker <;> rfl

theorem bufView_eq (b : Buf) : b.view = ⟨b.state, b.label, b.stamp, if b.state = .sending then some b.rowsTaken else none⟩ := by
  unfold Buf.view
  cases b.state <;> rfl

theorem bankView_eq (s : State) (b : BankId) : s.bankView b = ⟨s.bank b, s.level b,
    if (s.flat b).validity = .valid then (s.flat b).data.map fun d => d.record.mref else none⟩ := by
  unfold State.bankView State.mref State.flatRecord
  rw [Option.map_map]
  cases (s.flat b).validity <;> rfl

theorem isStale_iff (s : State) (b : BankId) :
    s.isStale b = true ↔ ∃ d, (s.flat b).data = some d ∧ s.params.flatAgeLimit ≠ 0 ∧ s.params.flatAgeLimit ≤ d.record.age := by
  unfold State.isStale State.flatRecord
  cases (s.flat b).data <;> simp

theorem flatView_eq {s : State} {b : BankId} {v : FlatView}
    (hv : v.validity = (s.flat b).validity ∧ v.record = (s.flat b).data.map fun d => d.record)
    (hs : v.staleNow = true ↔ ∃ d, (s.flat b).data = some d ∧ s.params.flatAgeLimit ≠ 0 ∧ s.params.flatAgeLimit ≤ d.record.age) :
    s.flatView b = v := by
  obtain ⟨validity, record, stale⟩ := v
  obtain ⟨hval, hrec⟩ := hv
  have hstale : s.isStale b = stale := Bool.eq_iff_iff.mpr ((isStale_iff s b).trans hs.symm)
  unfold State.flatView
  rw [hstale, ← hval]
  exact congrArg (FlatView.mk validity · stale) hrec.symm

/-! ### The stamps of the FULL planes (R96, R116) -/

/-- The stamp of a FULL plane. -/
def State.fullStamp (s : State) (i : PlaneId) : Option Nat :=
  (s.plane i).bind fun p => match p.state with | .full => p.stamp | _ => none

theorem fullStamp_eq_some_iff {s : State} {i : PlaneId} {st : Nat} :
    s.fullStamp i = some st ↔ ∃ p, s.plane i = some p ∧ p.state = .full ∧ p.stamp = some st := by
  unfold State.fullStamp
  cases s.plane i with
  | none => simp
  | some p => cases h : p.state <;> simp [h]

theorem fullAge_eq (s : State) (i : PlaneId) : s.fullAge i = (s.fullStamp i).map (subU32 s.merge.lastStamp) := by
  unfold State.fullAge State.fullStamp
  cases s.plane i with
  | none => rfl
  | some p =>
    simp only [Option.bind_some]
    cases p.state <;> cases p.stamp <;> rfl

theorem waitingStamps_eq (s : State) : s.waitingStamps = match oldestBy s.fullAge allPlanes with
    | none => []
    | some i => (i :: allPlanes.filter fun j => decide (j ≠ i)).filterMap s.fullStamp := rfl

theorem mem_allPlanes (i : PlaneId) : i ∈ allPlanes := by cases i <;> decide

theorem mem_waitingStamps {s : State} {st : Nat} : st ∈ s.waitingStamps ↔ ∃ i, s.fullStamp i = some st := by
  rw [waitingStamps_eq]
  obtain ⟨hnone, -⟩ := oldestBy_spec s.fullAge allPlanes
  split
  · next h =>
    refine ⟨fun hm => absurd hm List.not_mem_nil, fun ⟨i, hi⟩ => ?_⟩
    have := hnone h i (mem_allPlanes i)
    rw [fullAge_eq, hi] at this
    exact nomatch this
  · next i h =>
    rw [List.mem_filterMap]
    refine ⟨fun ⟨j, _, hj⟩ => ⟨j, hj⟩, fun ⟨j, hj⟩ => ⟨j, ?_, hj⟩⟩
    by_cases hji : j = i
    · exact List.mem_cons.mpr (.inl hji)
    · exact List.mem_cons.mpr (.inr (List.mem_filter.mpr ⟨mem_allPlanes j, decide_eq_true hji⟩))

/-- The stamp that lies farther back comes first. -/
theorem waitingStamps_order {s : State} {a b : Nat} (h : s.waitingStamps = [a, b]) :
    subU32 s.merge.lastStamp b ≤ subU32 s.merge.lastStamp a := by
  rw [waitingStamps_eq] at h
  obtain ⟨-, hsome⟩ := oldestBy_spec s.fullAge allPlanes
  split at h
  · exact nomatch h
  · next i hi =>
    obtain ⟨-, n, hn, hmax⟩ := hsome i hi
    rw [fullAge_eq] at hn
    obtain ⟨st, hst, rfl⟩ := Option.map_eq_some_iff.mp hn
    rw [List.filterMap_cons_some hst] at h
    obtain ⟨rfl, hrest⟩ := List.cons.inj h
    have hb : b ∈ (allPlanes.filter fun j => decide (j ≠ i)).filterMap s.fullStamp := hrest ▸ List.mem_singleton_self b
    obtain ⟨j, hj, hjb⟩ := List.mem_filterMap.mp hb
    exact hmax j (List.mem_filter.mp hj).1 _ (by rw [fullAge_eq, hjb]; rfl)

theorem freeBufs_count (s : State) : (allBufs.filter fun i => (s.buf i).isNone).length
    = (if s.out.t1 = none then 1 else 0) + (if s.out.t2 = none then 1 else 0) + (if s.out.t3 = none then 1 else 0)
      + (if s.out.t4 = none then 1 else 0) := by
  unfold allBufs State.buf
  cases s.out.t1 <;> cases s.out.t2 <;> cases s.out.t3 <;> cases s.out.t4 <;> rfl

/-- Settles O60. -/
theorem readsReturnWhatStands : Obligations.ReadsReturnWhatStands := by
  refine ⟨⟨fun tag flags rest s => ⟨?queue, ?job, ?noJob, ?history, ?entry, ?noEntry⟩, ?pass, fun tag flags rest s => ⟨?time, ?param, ?params, ?identity⟩⟩,
    fun tag flags rest s => ⟨?lamps, ?intake, ?converter, ?calibration, ?motion, ?zones, ?log, ?histogram, ?faults⟩⟩
  case queue => exact fun hat => exec_answer rfl rfl optBody_none hat rfl
  case job =>
    intro n pre post j hn hat hjobs hpre hj
    refine exec_answer rfl rfl (optBody_some hn) hat ?_
    dsimp only [readQueue]
    rw [hjobs, find?_of_split hpre hj, positionOf_of_split hpre hj]
  case noJob =>
    intro n hn hat hnot
    refine exec_answer rfl rfl (optBody_some hn) hat ?_
    dsimp only [readQueue]
    rw [List.find?_eq_none.mpr fun q hq => by simpa using hnot q hq]
    rfl
  case history => exact fun hat => exec_answer rfl rfl optBody_none hat rfl
  case entry =>
    intro n pre post e hn hat hhist hpre he
    refine exec_answer rfl rfl (optBody_some hn) hat ?_
    dsimp only [readHistory]
    rw [hhist, find?_of_split hpre he]
  case noEntry =>
    intro n hn hat hnot
    refine exec_answer rfl rfl (optBody_some hn) hat ?_
    dsimp only [readHistory]
    rw [List.find?_eq_none.mpr fun q hq => by simpa using hnot q hq]
    rfl
  case pass => exact fun tag flags rest s hat => exec_answer_noBody rfl rfl hat rfl
  case time => exact fun hat => exec_answer_noBody rfl rfl hat rfl
  case param =>
    intro code p hmem hat
    refine exec_answer rfl rfl (numBody_byte _) hat ?_
    simp only [List.mem_cons, Prod.mk.injEq, List.not_mem_nil, or_false] at hmem
    rcases hmem with h | h | h | h | h | h | h | h | h | h | h | h | h | h | h | h <;> obtain ⟨rfl, rfl⟩ := h <;> rfl
  case params => exact fun hat => exec_answer rfl rfl (numBody_byte 255#8) hat rfl
  case identity => exact fun hat => exec_answer_noBody rfl rfl hat rfl
  case lamps =>
    intro hat view hview
    refine exec_answer_noBody rfl rfl hat ?_
    dsimp only [readLamps]
    rw [bankView_eq, bankView_eq, hview .a, hview .b]
    rfl
  case intake =>
    intro flag slots planes hat hslots hplanes
    have hcontent : Content.intake (s.intake.s1.map Slot.view) (s.intake.s2.map Slot.view) (s.merge.p1.map Plane.view)
        (s.merge.p2.map Plane.view) s.intake.discarded s.intake.last
        = .intake (slots .s1) (slots .s2) (planes .p1) (planes .p2) s.intake.discarded s.intake.last := by
      rw [hslots, hslots, hplanes, hplanes, funext slotView_eq]
      rfl
    refine ⟨?_, ?_, fun hflag => ?_⟩
    · rintro rfl
      refine exec_answer rfl rfl (numBody_byte _) hat ?_
      exact congrArg (fun c => (ReplyBody.ok c, { s with link.intake := rest })) hcontent
    · rintro rfl
      refine exec_answer (t := { s with intake.discarded := 0 }) rfl rfl (numBody_byte _) hat ?_
      exact congrArg (fun c => (ReplyBody.ok c, { s with intake.discarded := 0, link.intake := rest })) hcontent
    · refine exec_answer rfl rfl (numBody_byte _) hat ?_
      have hcode : yesNoOfCode flag.toNat = none := by
        rw [← Option.not_isSome_iff_eq_none, yesNoOfCode_isSome]
        omega
      dsimp only [readIntake]
      rw [hcode]
      rfl
  case converter =>
    intro hat
    refine ⟨s.waitingStamps, exec_answer_noBody rfl rfl hat ?_, fun st => ?_, fun a b h => ?_⟩
    · dsimp only [readConverter]
      rw [freeBufs_count]
      rfl
    · simp only [mem_waitingStamps, fullStamp_eq_some_iff]
    · rw [← subU32_cast, ← subU32_cast]
      exact Int.ofNat_le.mpr (waitingStamps_order h)
  case calibration =>
    intro hat view hview hstale
    refine exec_answer_noBody rfl rfl hat ?_
    have hflat (b : BankId) : ({ s with link.intake := rest } : State).flatView b = view b := flatView_eq (hview b) (hstale b)
    dsimp only [readCalibration]
    rw [hflat, hflat]
    rfl
  case motion => exact fun hat => exec_answer_noBody rfl rfl hat rfl
  case zones => exact fun hat => exec_answer_noBody rfl rfl hat rfl
  case log =>
    intro hat view hview
    refine exec_answer_noBody rfl rfl hat ?_
    have hbuf : view = fun i => (s.buf i).map Buf.view := by
      rw [funext hview, funext bufView_eq]
    rw [hbuf]
    rfl
  case histogram => exact fun hat => exec_answer_noBody rfl rfl hat rfl
  case faults => exact fun hat => exec_answer_noBody rfl rfl hat rfl

end Sys2Proof.Machine
end

section
/-! The walk order (R27) and the top rung of a bank (R50, R51); O25, O32. -/
namespace Sys2Proof.Machine
open Sys2Proof

/-! ### The walk order -/

/-- The columns of a row are walked upward, or, in an odd row of a SERPENTINE walk, downward. -/
def JobRecord.walksDown (r : JobRecord) (row : Nat) : Prop := r.walk = .serpentine ∧ row % 2 = 1

theorem cell_row (r : JobRecord) (o : Nat) : (r.cell o).1 = o / r.cols := by
  unfold JobRecord.cell
  cases r.walk <;> rfl

theorem cell_col_up {r : JobRecord} {o : Nat} (h : ¬ r.walksDown (o / r.cols)) : (r.cell o).2 = o % r.cols := by
  unfold JobRecord.walksDown at h
  unfold JobRecord.cell
  cases hw : r.walk with
  | raster => rfl
  | serpentine => exact if_neg fun hodd => h ⟨hw, hodd⟩

theorem cell_col_down {r : JobRecord} {o : Nat} (h : r.walksDown (o / r.cols)) : (r.cell o).2 = r.cols - 1 - o % r.cols := by
  obtain ⟨hw, hodd⟩ := h
  rw [JobRecord.cell, hw]
  exact if_pos hodd

theorem place_div {cols i k : Nat} (h : k < cols) : (i * cols + k) / cols = i := by
  rw [Nat.mul_comm, Nat.mul_add_div (by omega), Nat.div_eq_of_lt h, Nat.add_zero]

theorem place_mod {cols i k : Nat} (h : k < cols) : (i * cols + k) % cols = k := by
  rw [Nat.add_comm, Nat.add_mul_mod_self_right, Nat.mod_eq_of_lt h]

theorem cell_place_up {r : JobRecord} {i k : Nat} (hk : k < r.cols) (h : ¬ r.walksDown i) : r.cell (i * r.cols + k) = (i, k) :=
  Prod.ext ((cell_row r _).trans (place_div hk)) ((cell_col_up (by rwa [place_div hk])).trans (place_mod hk))

theorem cell_place_down {r : JobRecord} {i k : Nat} (hk : k < r.cols) (h : r.walksDown i) :
    r.cell (i * r.cols + k) = (i, r.cols - 1 - k) :=
  Prod.ext ((cell_row r _).trans (place_div hk)) ((cell_col_down (by rwa [place_div hk])).trans (by rw [place_mod hk]))

/-- Settles O25: a cell's row is the quotient of its ordinal, and its column the remainder or, walked down, the remainder from the end. -/
theorem walkOrderNamesEveryTileOnce : Obligations.WalkOrderNamesEveryTileOnce := by
  intro r hcols
  have hmod (o : Nat) : o % r.cols < r.cols := Nat.mod_lt o hcols
  refine ⟨fun o ho => ⟨?_, ?_⟩, fun o p h => ?_, fun i j hi hj => ?_, fun i k hk h => cell_place_up hk ?_,
    fun i k hk hw hodd => cell_place_down hk ⟨hw, hodd⟩⟩
  · rw [cell_row]
    exact Nat.div_lt_of_lt_mul (by rwa [Nat.mul_comm])
  · have := hmod o
    by_cases hd : r.walksDown (o / r.cols)
    · rw [cell_col_down hd]
      omega
    · rwa [cell_col_up hd]
  · have hrow : o / r.cols = p / r.cols := by rw [← cell_row, ← cell_row, h]
    have hrest : o % r.cols = p % r.cols := by
      have hcol : (r.cell o).2 = (r.cell p).2 := congrArg Prod.snd h
      have := hmod o
      have := hmod p
      by_cases hd : r.walksDown (o / r.cols)
      · rw [cell_col_down hd, cell_col_down (hrow ▸ hd)] at hcol
        omega
      · rwa [cell_col_up hd, cell_col_up (hrow ▸ hd)] at hcol
    rw [← Nat.div_add_mod o r.cols, hrow, hrest, Nat.div_add_mod]
  · have hin {k : Nat} (hk : k < r.cols) : i * r.cols + k < r.rows * r.cols :=
      calc i * r.cols + k < (i + 1) * r.cols := by rw [Nat.succ_mul]; omega
        _ ≤ r.rows * r.cols := Nat.mul_le_mul_right _ hi
    by_cases hd : r.walksDown i
    · have hk : r.cols - 1 - j < r.cols := by omega
      refine ⟨i * r.cols + (r.cols - 1 - j), hin hk, ?_⟩
      rw [cell_place_down hk hd, show r.cols - 1 - (r.cols - 1 - j) = j by omega]
    · exact ⟨i * r.cols + j, hin hj, cell_place_up hj hd⟩
  · rintro ⟨hw, hodd⟩
    rcases h with h | h
    · exact nomatch h.symm.trans hw
    · omega

/-! ### The top rung -/

/-- The largest rung up to `n` whose exposure stays within 8 s: those up to it do, those above it, up to `n`, do not. -/
theorem topRungTo_spec {e : Nat} (h0 : e ≤ 8000000) (n : Nat) :
    topRungTo e n ≤ n ∧ ∀ r, r ≤ n → (e * 2 ^ r ≤ 8000000 ↔ r ≤ topRungTo e n) := by
  induction n with
  | zero => exact ⟨Nat.le_refl _, fun r hr => by simpa [Nat.le_zero.mp hr, topRungTo] using h0⟩
  | succ n ih =>
    obtain ⟨hle, hiff⟩ := ih
    have hmono {a b : Nat} (h : a ≤ b) : e * 2 ^ a ≤ e * 2 ^ b := Nat.mul_le_mul_left _ (Nat.pow_le_pow_right (by decide) h)
    unfold topRungTo
    split
    · next h =>
      have h : e * 2 ^ (n + 1) ≤ 8000000 := h
      exact ⟨Nat.le_refl _, fun r hr => ⟨fun _ => hr, fun _ => (hmono hr).trans h⟩⟩
    · next h =>
      have h : ¬ e * 2 ^ (n + 1) ≤ 8000000 := h
      refine ⟨hle.trans (Nat.le_succ n), fun r hr => ?_⟩
      obtain hr | rfl := Nat.le_succ_iff.mp hr
      · exact hiff r hr
      · exact ⟨fun hc => absurd hc h, fun hc => by omega⟩

theorem topRung_le {e : Nat} (h : e ≤ 8000000) : topRung e ≤ 7 := (topRungTo_spec h 7).1

theorem exposure_le_iff {e r : Nat} (h : e ≤ 8000000) (hr : r ≤ 7) : e * 2 ^ r ≤ 8000000 ↔ r ≤ topRung e := (topRungTo_spec h 7).2 r hr

/-- Settles O32. -/
theorem topRungAndLadderClamp : Obligations.TopRungAndLadderClamp := by
  intro e hlow hhigh
  have hmax : e ≤ 8000000 := by omega
  have hiff (r : Nat) (hr : r ≤ 7) := exposure_le_iff hmax hr
  have hle := topRung_le hmax
  refine ⟨?_, hiff, fun j b => ⟨rfl, ?_⟩⟩
  · have h4 := hiff 4 (by decide)
    have h5 := hiff 5 (by decide)
    have h6 := hiff 6 (by decide)
    have h7 := hiff 7 (by decide)
    norm_num at h4 h5 h6 h7
    split_ifs <;> omega
  · exact (hiff _ (le_trans (Nat.min_le_right _ _) hle)).mpr (Nat.min_le_right _ _)

end Sys2Proof.Machine
end

section
/-! What the pass controller's operations do to the state: budget, orders, returning; PAUSE and RESUME (R38, R40); O27. -/
namespace Sys2Proof.Machine
open Sys2Proof

/-! ### Orders (R134) -/

/-- The order that issuing `w` makes outstanding. -/
def State.orderOf (s : State) (w : Wanted) (retried : Bool) : Order :=
  ⟨w.kind, s.motion.nextNumber, w.arg1, w.arg2, w.requester, s.limitFor w.kind, s.now, retried, false, s.motion.position⟩

/-- The motion port once `w` is issued. -/
def State.motionIssued (s : State) (w : Wanted) (retried : Bool) : Motion :=
  { s.motion with
    nextNumber := (s.motion.nextNumber + 1) % 256, order := some (s.orderOf w retried), position := none
    sent := s.motion.sent ++ [motionRecord w.kind.code s.motion.nextNumber w.arg1 w.arg2] }

theorem issueOrder_move (x y : Nat) (by' : Requester) (retried : Bool) (s : State) :
    issueOrder ⟨.move, x, y, by'⟩ retried s = { s with motion := s.motionIssued ⟨.move, x, y, by'⟩ retried } := rfl

theorem issueOrder_home (x y : Nat) (by' : Requester) (retried : Bool) (s : State) :
    issueOrder ⟨.home, x, y, by'⟩ retried s = { s with motion := s.motionIssued ⟨.home, x, y, by'⟩ retried } := rfl

theorem motionFree_iff {s : State} : s.motionFree = true ↔ s.motion.order = none ∧ s.motion.stop = none := by
  simp [State.motionFree]

theorem wantOrder_free {w : Wanted} {s : State} (ho : s.motion.order = none) (hs : s.motion.stop = none) :
    wantOrder w s = issueOrder w false s := if_pos (motionFree_iff.mpr ⟨ho, hs⟩)

theorem wantOrder_busy {w : Wanted} {s : State} (h : s.motion.order ≠ none ∨ s.motion.stop ≠ none) :
    wantOrder w s = { s with motion.waiting := some w } := by
  refine if_neg fun hf => ?_
  obtain ⟨ho, hs⟩ := motionFree_iff.mp hf
  exact h.elim (fun h => h ho) fun h => h hs

/-! ### Returning (R33) -/

/-- The order that RETURNING begins with: HOME with positioner-unsure set, else MOVE to the load point. -/
def State.returnWanted (s : State) : Wanted := ⟨if s.motion.unsure then .home else .move, 0, 0, .pass⟩

theorem beginReturn_free {s : State} (ho : s.motion.order = none) (hs : s.motion.stop = none) :
    beginReturn s = { s with
      pass.step := if s.motion.unsure then .homing else .moving, motion := s.motionIssued s.returnWanted false } := by
  unfold beginReturn State.returnWanted
  split
  · next h =>
    rw [wantOrder_free (s := { s with pass.step := .homing }) ho hs, issueOrder_home]
    simp only [if_pos h]
    rfl
  · next h =>
    rw [wantOrder_free (s := { s with pass.step := .moving }) ho hs, issueOrder_move]
    simp only [if_neg h]
    rfl

theorem enterReturning_free {s : State} (ho : s.motion.order = none) (hs : s.motion.stop = none) :
    enterReturning s = { s with
      pass := { s.pass with state := .returning, step := if s.motion.unsure then .homing else .moving }
      motion := s.motionIssued s.returnWanted false } := by
  have hfree : ({ s with pass.state := .returning, pass.step := .waiting } : State).motionFree = true := motionFree_iff.mpr ⟨ho, hs⟩
  unfold enterReturning
  rw [if_pos hfree, beginReturn_free (s := { s with pass.state := .returning, pass.step := .waiting }) ho hs]
  rfl

theorem enterReturning_state (s : State) : (enterReturning s).pass.state = .returning := by
  unfold enterReturning
  dsimp only
  split <;> simp

/-! ### The budget (R36, R39, R40) -/

/-- A SUSPENDED budget runs again. -/
def Budget.resume (b : Budget) : Budget := if b.state = .suspended then { b with state := .running } else b

theorem runBudget_eq (s : State) : runBudget s = { s with pass.budget := s.pass.budget.resume } := by
  unfold runBudget Budget.resume
  split
  · next h => rw [if_pos h]
  · next h => rw [if_neg h]

theorem resumePaused_return {s : State} (h : s.pass.resumePoint = some .return) :
    resumePaused s = enterReturning { s with
      pass := { s.pass with resumePoint := none, pausePending := false, budget := s.pass.budget.resume } } := by
  unfold resumePaused
  rw [h, runBudget_eq]

/-! ### PAUSE and RESUME -/

theorem jobActive_eq {s : State} (h : s.pass.job ≠ none) : s.jobActive = true := Option.isSome_iff_ne_none.mpr h

theorem pause_of_job {s : State} (h : s.pass.job ≠ none) : pause s = match s.pass.state with
    | .halted => (.refused .halted 0 (.pause s.pass.state s.pass.pausePending), s)
    | .returning | .finishing => (.refused .late 0 (.pause s.pass.state s.pass.pausePending), s)
    | .paused => (.ok (.pause .paused s.pass.pausePending), s)
    | st => (.ok (.pause st true), { s with pass.pausePending := true }) := by
  have hactive : ¬ s.jobActive = false := by rw [jobActive_eq h]; decide
  exact if_neg hactive

theorem resume_of_job {s : State} (h : s.pass.job ≠ none) : resume s = match s.pass.state with
    | .halted => (.refused .halted 0 (.passState .halted), s)
    | .paused => (.ok (.passState (resumePaused s).pass.state), resumePaused s)
    | st => (.ok (.passState st), { s with pass.pausePending := false }) := by
  have hactive : ¬ s.jobActive = false := by rw [jobActive_eq h]; decide
  exact if_neg hactive

/-- Settles O27. -/
theorem pauseAndResumeByThePassState : Obligations.PauseAndResumeByThePassState := by
  intro tag flags rest s
  refine ⟨fun hat => ⟨fun hj => ?_, fun hj hs => ?_, fun hj hs => ?_, fun hj hs => ?_, fun hj hs => ?_⟩,
    fun hat => ⟨fun hj => ?_, fun hj hs => ?_, fun hj hs => ?_, fun hj hs hp ho hst => ?_⟩⟩
  · refine exec_answer_noBody rfl rfl hat ?_
    rw [pause, State.jobActive, hj]
    rfl
  · refine exec_answer_noBody rfl rfl hat ?_
    rw [pause_of_job (s := { s with link.intake := rest }) hj, hs]
  · refine exec_answer_noBody rfl rfl hat ?_
    rw [pause_of_job (s := { s with link.intake := rest }) hj]
    rcases List.mem_pair.mp hs with hs | hs <;> rw [hs]
  · refine exec_answer_noBody rfl rfl hat ?_
    rw [pause_of_job (s := { s with link.intake := rest }) hj, hs]
  · refine exec_answer_noBody (t := { s with pass.pausePending := true }) rfl rfl hat ?_
    rw [pause_of_job (s := { s with link.intake := rest }) hj]
    simp only [List.mem_cons, List.not_mem_nil, or_false] at hs
    rcases hs with hs | hs | hs <;> rw [hs]
  · refine exec_answer_noBody rfl rfl hat ?_
    rw [resume, State.jobActive, hj]
    rfl
  · refine exec_answer_noBody rfl rfl hat ?_
    rw [resume_of_job (s := { s with link.intake := rest }) hj, hs]
  · refine exec_answer_noBody (t := { s with pass.pausePending := false }) rfl rfl hat ?_
    rw [resume_of_job (s := { s with link.intake := rest }) hj]
    simp only [List.mem_cons, List.not_mem_nil, or_false] at hs
    rcases hs with hs | hs | hs | hs | hs <;> rw [hs]
  · let held : State := { s with
      pass := { s.pass with resumePoint := none, pausePending := false, budget := s.pass.budget.resume } }
    have heq : resumePaused { s with link.intake := rest } = { enterReturning held with link.intake := rest } := by
      rw [resumePaused_return (s := { s with link.intake := rest }) hp, enterReturning_free (s := held) ho hst,
        enterReturning_free (s := { held with link.intake := rest }) ho hst]
      rfl
    refine ⟨enterReturning held, exec_answer_noBody rfl rfl hat ?_, ?_⟩
    · rw [resume_of_job (s := { s with link.intake := rest }) hj, hs, heq]
      dsimp only
      rw [enterReturning_state]
    · rw [enterReturning_free (s := held) ho hst]
      exact ⟨rfl, rfl, rfl, rfl, rfl, rfl⟩

end Sys2Proof.Machine
end

section
/-! The merge engine: the claim of a plane, the merge of a frame, the rung list (R30, R53, R57, R69, R94 to R98); O38, O40. -/
namespace Sys2Proof.Machine
open Sys2Proof

/-! ### What depends on one block alone -/

theorem plane_congr {s t : State} (h : s.merge = t.merge) (k : PlaneId) : s.plane k = t.plane k := by cases k <;> simp [State.plane, h]
theorem slot_congr {s t : State} (h : s.intake = t.intake) (k : SlotId) : s.slot k = t.slot k := by cases k <;> simp [State.slot, h]
theorem bank_congr {s t : State} (h : s.lamps = t.lamps) (k : BankId) : s.bank k = t.bank k := by cases k <;> simp [State.bank, h]
theorem counter_congr {s t : State} (h : s.stats = t.stats) (c : CounterId) : s.counter c = t.counter c := by simp [State.counter, h]

/-! ### PLANE_CLAIM -/

theorem freePlane_eq_none {s : State} (h1 : s.plane .p1 ≠ none) (h2 : s.plane .p2 ≠ none) : s.freePlane = none := by
  simp [State.freePlane, allPlanes, h1, h2]

theorem freePlane_eq_some {s : State} {i other : PlaneId}
    (h : (i, other) = (.p1, .p2) ∨ (i, other) = (.p2, .p1) ∧ s.plane .p1 ≠ none) (hi : s.plane i = none) : s.freePlane = some i := by
  rcases h with h | ⟨h, h1⟩ <;> obtain ⟨rfl, rfl⟩ := Prod.mk.inj h <;> simp_all [State.freePlane, allPlanes]

theorem mayClaim_of_moved {s : State} {tile : Tile} (ht : s.pass.tile = some tile) (hs : s.pass.settle = none) (hst : s.pass.state ≠ .halted)
    (hphase : tile.phase = .waitPlane ∨ tile.phase = .moving ∧ tile.moveDone = true) : s.mayClaim = true := by
  rcases hphase with h | ⟨h, hdone⟩ <;> simp [State.mayClaim, ht, hs, hst, h, *]

/-- Settles O38. -/
theorem planeClaimStartsTheLadder : Obligations.PlaneClaimStartsTheLadder := by
  intro s j tile b hj ht hb hsettle hst hphase
  have hmay := mayClaim_of_moved ht hsettle hst hphase
  refine ⟨fun h1 h2 => ?_, fun i other hio hi => ?_⟩
  · change execPlaneClaim s = _
    rw [execPlaneClaim, hj, ht, hb, freePlane_eq_none h1 h2]
  · let p := claimedPlane ⟨j.number, j.record, tile.row, tile.col, tile.ordinal, tile.started⟩ s.params.clipLevel s.params.signalFloor
    have hexec : exec .planeClaim s = .next (claimPlane j tile b i s) := by
      change execPlaneClaim s = _
      rw [execPlaneClaim, hj, ht, hb, freePlane_eq_some hio hi]
      exact if_pos hmay
    have hne : other ≠ i := by
      rcases hio with h | ⟨h, -⟩ <;> obtain ⟨rfl, rfl⟩ := Prod.mk.inj h <;> decide
    refine ⟨claimPlane j tile b i s, p, hexec, plane_setPlane s i (some p), plane_setPlane_ne s (some p) hne, rfl, rfl, rfl, rfl, rfl, rfl, rfl, rfl,
      rfl, List.length_replicate, fun row hrow => ?_, ?_, ⟨_, rfl, rfl, rfl, rfl, rfl, rfl, rfl, rfl, rfl, rfl, rfl, rfl, rfl, rfl, ?_, ?_⟩, ?_⟩
    · obtain rfl := List.eq_of_mem_replicate hrow
      exact ⟨List.length_replicate, fun r hr => List.eq_of_mem_replicate hr⟩
    · unfold claimPlane
      simp
    · simp only [freshLadder, Conds.put, State.setPlane_frame]
      cases s.cal.staleSet.has b.bank <;> rfl
    · exact ⟨rfl, rfl⟩
    · unfold claimPlane
      cases i <;> rfl

/-! ### The rung list (R69) -/

theorem mem_insertRung {e x : RungEntry} {l : List RungEntry} : x ∈ insertRung e l ↔ x = e ∨ x ∈ l := by
  induction l with
  | nil => simp [insertRung]
  | cons y l ih =>
    unfold insertRung
    split
    · rw [List.mem_cons]
    · rw [List.mem_cons, ih, List.mem_cons]
      tauto

theorem insertRung_length (e : RungEntry) (l : List RungEntry) : (insertRung e l).length = l.length + 1 := by
  induction l with
  | nil => rfl
  | cons y l ih =>
    unfold insertRung
    split
    · rfl
    · rw [List.length_cons, ih, List.length_cons]

theorem insertRung_ascending {e : RungEntry} {l : List RungEntry} (hl : l.Pairwise fun a b => a.rung < b.rung)
    (hne : ∀ x ∈ l, x.rung ≠ e.rung) : (insertRung e l).Pairwise fun a b => a.rung < b.rung := by
  induction l with
  | nil => exact List.pairwise_singleton _ _
  | cons y l ih =>
    obtain ⟨hy, hrest⟩ := List.pairwise_cons.mp hl
    have hye := hne y List.mem_cons_self
    unfold insertRung
    split
    · next h =>
      refine List.pairwise_cons.mpr ⟨fun x hx => ?_, hl⟩
      rcases List.mem_cons.mp hx with rfl | hx
      · exact h
      · exact h.trans (hy x hx)
    · next h =>
      refine List.pairwise_cons.mpr ⟨fun x hx => ?_, ih hrest fun x hx => hne x (List.mem_cons_of_mem _ hx)⟩
      rcases mem_insertRung.mp hx with rfl | hx
      · omega
      · exact hy x hx

theorem insertRung_entered (e : RungEntry) (l : List RungEntry) : RungEntered e l (insertRung e l) :=
  ⟨fun _ => mem_insertRung, insertRung_length e l, fun h hne => insertRung_ascending h hne⟩

/-! ### MERGE_BEGIN -/

theorem oldestValid_head {s : State} {i : SlotId} {rest : List SlotId} {d : Slot} {t : Taker} (ho : s.intake.validOrder = i :: rest)
    (hd : s.slot i = some d) (hst : d.state = .valid) (ht : d.taker = t) : s.oldestValid t = some i := by
  rw [State.oldestValid, ho, List.find?_cons_of_pos]
  simp [hd, hst, ht]

theorem mergeBegin_spec {s : State} {i : SlotId} {rest : List SlotId} {d : Slot} (hm : s.mergingSlot .ladder = none)
    (ho : s.intake.validOrder = i :: rest) (hd : s.slot i = some d) (hst : d.state = .valid) (ht : d.taker = .ladder) :
    ∃ t, exec .mergeBegin s = .next t ∧ t.slot i = some { d with state := .merging }
      ∧ t.intake.validOrder = rest.filter (fun k => decide (k ≠ i))
      ∧ (t.ladder.map fun l => l.inFlight) = (s.ladder.map fun l =>
          l.inFlight.map fun f => if f.slot = i then { f with state := FlightState.merging } else f)
      ∧ t.merge = s.merge ∧ t.pass = s.pass ∧ t.faults = s.faults := by
  have hexec : exec .mergeBegin s = execMergeBegin s := rfl
  have horder : (s.setSlot i (some { d with state := .merging })).intake.validOrder = i :: rest := by
    rw [← ho]
    cases i <;> rfl
  rw [hexec, execMergeBegin, hm, oldestValid_head ho hd hst ht]
  dsimp only
  rw [hd, Option.map_some, horder, List.filter_cons_of_neg (by simp)]
  refine ⟨_, rfl, ?_, rfl, ?_, ?_, ?_, ?_⟩
  · exact slot_setSlot s i _
  · simp [setFlight, Option.map_map, Function.comp_def]
  all_goals simp

/-! ### The merge of a frame (R95, R98) -/

/-- The class of a record, as the class counts take it. -/
def MergeRec.isValid : MergeRec → Bool
  | .valid _ _ => true
  | _ => false

theorem foldl_add_row (row : List MergeRec) (n : ClassCounts) :
    row.foldl ClassCounts.add n =
      ⟨n.nNone + row.countP fun r => decide (r = .none), n.nClipped + row.countP fun r => decide (r = .clipped),
        n.nUnder + row.countP fun r => decide (r = .under), n.nValid + row.countP MergeRec.isValid⟩ := by
  induction row generalizing n with
  | nil => rfl
  | cons r row ih =>
    rw [List.foldl_cons, ih]
    cases r <;> simp [ClassCounts.add, MergeRec.isValid, List.countP_cons] <;> omega

theorem foldl_add_rows (recs : List (List MergeRec)) (n : ClassCounts) :
    recs.foldl (fun n row => row.foldl ClassCounts.add n) n =
      ⟨n.nNone + (recs.map fun row => row.countP fun r => decide (r = .none)).sum,
        n.nClipped + (recs.map fun row => row.countP fun r => decide (r = .clipped)).sum,
        n.nUnder + (recs.map fun row => row.countP fun r => decide (r = .under)).sum,
        n.nValid + (recs.map fun row => row.countP MergeRec.isValid).sum⟩ := by
  induction recs generalizing n with
  | nil => rfl
  | cons row recs ih =>
    rw [List.foldl_cons, ih, foldl_add_row]
    simp only [List.map_cons, List.sum_cons, Nat.add_assoc]

/-- The class counts are those of the records. -/
theorem classCounts_eq (recs : List (List MergeRec)) : classCounts recs =
    ⟨(recs.map fun row => row.countP fun r => decide (r = .none)).sum, (recs.map fun row => row.countP fun r => decide (r = .clipped)).sum,
      (recs.map fun row => row.countP fun r => decide (r = .under)).sum, (recs.map fun row => row.countP MergeRec.isValid).sum⟩ := by
  rw [classCounts, foldl_add_rows]
  simp only [Nat.zero_add]

def ClassCounts.total (n : ClassCounts) : Nat := n.nNone + n.nClipped + n.nUnder + n.nValid

theorem ClassCounts.add_total (n : ClassCounts) (r : MergeRec) : (n.add r).total = n.total + 1 := by
  cases r <;> simp only [ClassCounts.add, ClassCounts.total] <;> omega

theorem foldl_add_total (row : List MergeRec) (n : ClassCounts) : (row.foldl ClassCounts.add n).total = n.total + row.length := by
  induction row generalizing n with
  | nil => rfl
  | cons r row ih => rw [List.foldl_cons, ih, ClassCounts.add_total, List.length_cons]; omega

/-- Each record is in one class. -/
theorem classCounts_total {recs : List (List MergeRec)} {w : Nat} (h : ∀ row ∈ recs, row.length = w) :
    (classCounts recs).total = w * recs.length := by
  have hgo (n : ClassCounts) : (recs.foldl (fun n row => row.foldl ClassCounts.add n) n).total = n.total + w * recs.length := by
    induction recs generalizing n with
    | nil => rfl
    | cons row recs ih =>
      rw [List.foldl_cons, ih (fun r hr => h r (List.mem_cons_of_mem _ hr)), foldl_add_total, h row List.mem_cons_self, List.length_cons,
        Nat.mul_succ]
      omega
  exact (hgo ⟨0, 0, 0, 0⟩).trans (Nat.zero_add _)

theorem getD_zipWith {α β γ : Type} (f : α → β → γ) {as : List α} {bs : List β} {k : Nat} (a : α) (b : β) (c : γ) (ha : k < as.length)
    (hb : k < bs.length) : (List.zipWith f as bs).getD k c = f (as.getD k a) (bs.getD k b) := by
  simp [List.getD_eq_getElem?_getD, List.getElem?_zipWith, List.getElem?_eq_getElem ha, List.getElem?_eq_getElem hb]

theorem mergeRows_length {d : Slot} {l : Nat} {w : Window} {recs : List (List MergeRec)} (hr : recs.length = w.h)
    (hp : w.y0 + w.h ≤ d.pixels.length) : (mergeRows d l w recs).length = w.h := by
  simp only [mergeRows, List.length_zipWith, List.length_drop]
  omega

theorem mergeRows_row {d : Slot} {l : Nat} {w : Window} {recs : List (List MergeRec)} (hrow : ∀ row ∈ recs, row.length = w.w)
    (hline : ∀ line ∈ d.pixels, w.x0 + w.w ≤ line.length) : ∀ row ∈ mergeRows d l w recs, row.length = w.w := by
  intro row h
  obtain ⟨k, hk, rfl⟩ := List.mem_iff_getElem.mp h
  rw [mergeRows, List.length_zipWith] at hk
  have hwidth := hrow _ (List.getElem_mem (show k < recs.length by omega))
  have hlong := hline _ (List.mem_of_mem_drop (List.getElem_mem (show k < (d.pixels.drop w.y0).length by omega)))
  simp only [mergeRows, List.getElem_zipWith, mergeRow, List.length_zipWith, List.length_drop]
  omega

theorem mergeRows_getD {d : Slot} {l : Nat} {w : Window} {recs : List (List MergeRec)} {y x : Nat} (hr : recs.length = w.h)
    (hrow : ∀ row ∈ recs, row.length = w.w) (hp : w.y0 + w.h ≤ d.pixels.length) (hline : ∀ line ∈ d.pixels, w.x0 + w.w ≤ line.length)
    (hy : y < w.h) (hx : x < w.w) :
    ((mergeRows d l w recs).getD y []).getD x .none = mergeRecord d.rung ((recs.getD y []).getD x .none)
      (pixelOutcome ((d.pixels.getD (w.y0 + y) []).getD (w.x0 + x) 0#12).toNat d.b d.c l) := by
  have hrecs : recs.getD y [] ∈ recs := by
    rw [List.getD_eq_getElem _ _ (by omega)]
    exact List.getElem_mem _
  have hpix : d.pixels.getD (w.y0 + y) [] ∈ d.pixels := by
    rw [List.getD_eq_getElem _ _ (by omega)]
    exact List.getElem_mem _
  have hdrop {α : Type} (bs : List α) (n k : Nat) (b : α) : (bs.drop n).getD k b = bs.getD (n + k) b := by
    simp [List.getD_eq_getElem?_getD, List.getElem?_drop]
  rw [mergeRows, getD_zipWith _ ([] : List MergeRec) ([] : List Sample) ([] : List MergeRec) (by omega) (by rw [List.length_drop]; omega), mergeRow,
    getD_zipWith _ MergeRec.none (0#12 : Sample) MergeRec.none (by rw [hrow _ hrecs]; exact hx) (by rw [hdrop, List.length_drop]; have := hline _ hpix; omega), hdrop, hdrop]

/-! ### MERGE_END -/

theorem execMergeEnd_eq {s : State} {i : SlotId} {d : Slot} {pi : PlaneId} {p : Plane} {tile : Tile} {g : Flight}
    (hm : s.mergingSlot .ladder = some i) (hd : s.slot i = some d) (ht : s.pass.tile = some tile) (hpi : tile.plane = some pi)
    (hp : s.plane pi = some p) (hg : s.flightAt i = some g) :
    exec .mergeEnd s = .next (progressOn (rungMerged g (addCounter .rungsMerged 1
      (endFlight i ((s.setPlane pi (some (mergedPlane d p))).releaseSlot i))))) := by
  change execMergeEnd s = _
  rw [execMergeEnd, hm, ht, Option.bind_some, hpi]
  simp only [hd, hg, hp, Option.map_some]

theorem progress_due {s : State} {l : Ladder} (hl : s.ladder = some l) (hs : s.pass.settle = none) (hd : l.due ≠ none) : progress s = s := by
  rw [progress, hl]
  dsimp only
  rw [hs]
  exact if_neg fun h => hd h.2

theorem takeGuards_ladder {s : State} {l : Ladder} (hl : s.ladder = some l) (n : Nat) : takeGuards n s = s := by
  cases n with
  | zero => rfl
  | succ n =>
    rw [takeGuards, hl]
    cases s.pass.job <;> rfl

theorem progressOn_due {s : State} {l : Ladder} (hl : s.ladder = some l) (hs : s.pass.settle = none) (hd : l.due ≠ none) :
    progressOn s = s := by
  rw [progressOn, progress_due hl hs hd]
  exact takeGuards_ladder hl _

theorem rungMerged_plain {s : State} {l : Ladder} (hl : s.ladder = some l) (hr : l.restartPending = none) (g : Flight) :
    rungMerged g s = { s with ladder := some { l with rungList := insertRung ⟨g.rung, .merged, g.attempt, g.started⟩ l.rungList } } := by
  have hpending : (s.ladder.bind fun l => l.restartPending) = none := by rw [hl]; exact hr
  rw [rungMerged, hpending]
  simp only [enterRung, mapLadder, hl, Option.map_some]

theorem slot_releaseSlot (s : State) (i : SlotId) : (s.releaseSlot i).slot i = none := by cases i <;> rfl

/-- Settles O40. -/
theorem mergeFoldsAFrameIntoThePlane : Obligations.MergeFoldsAFrameIntoThePlane := by
  refine ⟨fun s i rest d hm ho hd hst ht => mergeBegin_spec hm ho hd hst ht, ?_⟩
  intro s i d pi p tile l g hm hd htile hpi hp hl hg hrestart hdue hsettle hcount hrecs hrow hpix hline
  let u := addCounter .rungsMerged 1 (endFlight i ((s.setPlane pi (some (mergedPlane d p))).releaseSlot i))
  have hul : u.ladder = some { l with inFlight := l.inFlight.filter fun f => decide (f.slot ≠ i) } := by
    simp [u, endFlight, mapLadder, hl]
  have husettle : u.pass.settle = none := by simp [u, hsettle]
  let m : Ladder := { l with
    inFlight := l.inFlight.filter fun f => decide (f.slot ≠ i), rungList := insertRung ⟨g.rung, .merged, g.attempt, g.started⟩ l.rungList }
  have hexec : exec .mergeEnd s = .next { u with ladder := some m } := by
    rw [execMergeEnd_eq hm hd htile hpi hp hg, rungMerged_plain hul hrestart]
    exact congrArg _ (progressOn_due (l := m) rfl husettle hdue)
  have hplane : ({ u with ladder := some m } : State).plane pi = some (mergedPlane d p) :=
    (plane_congr (t := s.setPlane pi (some (mergedPlane d p))) (by simp [u]) pi).trans (plane_setPlane s pi _)
  have hcounts := classCounts_eq (mergeRows d p.l p.window p.recs)
  have hrows := mergeRows_row (l := p.l) hrow hline
  have hlength := mergeRows_length (l := p.l) hrecs hpix
  refine ⟨_, mergedPlane d p, hexec, hplane, rfl, rfl, rfl, rfl, rfl, rfl, hlength, hrows, fun y x hy hx old outcome hold hout => ?_,
    ?_, congrArg ClassCounts.nNone hcounts, congrArg ClassCounts.nClipped hcounts, congrArg ClassCounts.nUnder hcounts, ?_, ?_,
    ⟨m, rfl, insertRung_entered _ _, rfl, rfl⟩, ?_, ?_, ?_, ?_⟩
  · refine (mergeRows_getD hrecs hrow hpix hline hy hx).trans ?_
    rw [hold, hout]
    unfold mergeRecord
    split <;> split <;> simp_all
  · have := classCounts_total hrows
    rw [hlength] at this
    exact this
  · refine (congrArg ClassCounts.nValid hcounts).trans (congrArg List.sum (List.map_congr_left fun row _ => ?_))
    refine congrArg (List.countP · row) (funext fun r => ?_)
    cases r <;> rfl
  · exact (slot_congr (t := (s.setPlane pi (some (mergedPlane d p))).releaseSlot i) (by simp [u]) i).trans (slot_releaseSlot _ i)
  · have hstats : (endFlight i ((s.setPlane pi (some (mergedPlane d p))).releaseSlot i)).stats = s.stats := by simp
    refine (congrArg Counter.value (addCounter_counter_same (by rw [hstats]; exact hcount) .rungsMerged 1)).trans ?_
    rw [counter_congr hstats, Counter.plus_value]
  all_goals simp [u]


end Sys2Proof.Machine
end

section
/-! Density conversion: the class and code of a pixel, a row pixel by pixel, the figures (R103 to R112); O44. -/
namespace Sys2Proof.Machine
open Sys2Proof

/-! ### A row -/

/-- Each pixel is converted beside the code of its left neighbour, the first beside the code given. -/
theorem convertRow_getElem? {bf l : Nat} {left : Option Nat} {row : List (FlatPixel × MergeRec)} {x : Nat} {p : FlatPixel} {r : MergeRec}
    (h : row[x]? = some (p, r)) : (convertRow bf l left row)[x]? = some (convertPixel bf l
      (match x with
        | 0 => left
        | y + 1 => ((convertRow bf l left row)[y]?).map fun w => w.code) p r) := by
  induction row generalizing left x with
  | nil => exact nomatch h
  | cons q row ih =>
    obtain ⟨p', r'⟩ := q
    cases x with
    | zero =>
      obtain ⟨rfl, rfl⟩ := Prod.mk.inj (Option.some.inj h)
      rfl
    | succ y =>
      refine (ih (left := some (convertPixel bf l left p' r').code) h).trans ?_
      cases y <;> rfl

theorem isDefect_iff {p : FlatPixel} {bf l : Nat} : isDefect p bf l = true ↔ p.clip = true ∨ (p.f : Int) - bf < l := by
  rw [isDefect, Bool.or_eq_true, decide_eq_true_eq]
  exact or_congr_right (by omega)

theorem convertPixel_defect {p : FlatPixel} {bf l : Nat} (h : isDefect p bf l = true) (left : Option Nat) (r : MergeRec) :
    convertPixel bf l left p r = ⟨left.getD 0, .defect⟩ := if_pos h

theorem convertPixel_plain {p : FlatPixel} {bf l : Nat} (h : ¬ isDefect p bf l = true) (left : Option Nat) (r : MergeRec) :
    convertPixel bf l left p r = match r with
      | .clipped => ⟨0, .overexp⟩
      | .under | .none => ⟨4095, .underexp⟩
      | .valid rung signal => ⟨densityCode (scaledFlat p.f bf) (scaledSignal rung signal), .normal⟩ := if_neg h

/-- The code of a NORMAL pixel, from the difference of the two logarithms as an integer. -/
theorem densityCode_spec {fn n : Nat} {delta : Int} (h : delta = (logUnits fn : Int) - logUnits n) :
    (delta < 0 → densityCode fn n = 0) ∧ (0 ≤ delta → (densityCode fn n : Int) = min 4095 ((delta * 1204 + 512) / 1024)) := by
  unfold densityCode
  generalize logUnits fn = a at h ⊢
  generalize logUnits n = b at h ⊢
  subst h
  omega

theorem scaledSignal_bounds {rung sg : Nat} (h : 1 ≤ sg) (hsg : sg ≤ 4094) : 1 ≤ scaledSignal rung sg ∧ scaledSignal rung sg ≤ 524160 := by
  have hlow : 1 ≤ 2 ^ (7 - rung) := Nat.one_le_two_pow
  have hhigh : 2 ^ (7 - rung) ≤ 128 := Nat.pow_le_pow_right (by decide : 0 < 2) (by omega : 7 - rung ≤ 7)
  refine ⟨Nat.one_le_iff_ne_zero.mpr (Nat.mul_ne_zero (by omega) (by omega)), ?_⟩
  calc scaledSignal rung sg ≤ 4094 * 128 := Nat.mul_le_mul hsg hhigh
    _ ≤ 524160 := by decide

theorem convertRow_spec (bf l : Nat) (row : List (FlatPixel × MergeRec)) (x : Nat) (p : FlatPixel) (r : MergeRec)
    (h : row[x]? = some (p, r)) :
    ∃ out, (convertRow bf l none row)[x]? = some out
      ∧ (p.clip = true ∨ (p.f : Int) - bf < l → out.cls = .defect
          ∧ (x = 0 → out.code = 0)
          ∧ (∀ y left, x = y + 1 → (convertRow bf l none row)[y]? = some left → out.code = left.code))
      ∧ (p.clip = false → (l : Int) ≤ (p.f : Int) - bf →
          (r = .clipped → out = ⟨0, .overexp⟩)
          ∧ (r = .under → out = ⟨4095, .underexp⟩)
          ∧ (∀ rung sg, r = .valid rung sg → out.cls = .normal
              ∧ ∀ delta : Int, delta = (logUnits ((p.f - bf) * 128) : Int) - logUnits (sg * 2 ^ (7 - rung)) →
                  (delta < 0 → out.code = 0)
                  ∧ (0 ≤ delta → (out.code : Int) = min 4095 ((delta * 1204 + 512) / 1024)))) := by
  refine ⟨_, convertRow_getElem? h, fun hd => ?_, fun hclip hlevel => ?_⟩
  · rw [convertPixel_defect (isDefect_iff.mpr hd)]
    refine ⟨rfl, ?_, ?_⟩
    · rintro rfl
      rfl
    · rintro y left rfl hleft
      simp only [hleft, Option.map_some, Option.getD_some]
  · have hd : ¬ isDefect p bf l = true := by
      rw [isDefect_iff, hclip, not_or]
      exact ⟨Bool.false_ne_true, by omega⟩
    rw [convertPixel_plain hd]
    refine ⟨?_, ?_, ?_⟩
    · rintro rfl
      rfl
    · rintro rfl
      rfl
    · rintro rung sg rfl
      exact ⟨rfl, fun delta hdelta => densityCode_spec hdelta⟩

/-! ### The pixels of a row (R104) -/

theorem rowWords_eq {d : FlatData} {c : Conversion} {recs : List (List MergeRec)} {i : Nat} {values : List Nat} {marks : List Bool}
    {records : List MergeRec} (hv : d.f[c.window.y0 + i]? = some values) (hm : d.clip[c.window.y0 + i]? = some marks)
    (hr : recs[i]? = some records) (hvl : c.window.x0 + records.length ≤ values.length) (hml : c.window.x0 + records.length ≤ marks.length) :
    ∃ row : List (FlatPixel × MergeRec), rowWords d c recs i = convertRow d.record.bf c.l none row ∧ row.length = records.length
      ∧ ∀ j < records.length, ∃ f clip r, values[c.window.x0 + j]? = some f ∧ marks[c.window.x0 + j]? = some clip
          ∧ records[j]? = some r ∧ row[j]? = some (⟨f, clip⟩, r) := by
  have hpixels : rowPixels d c recs i
      = List.zip (List.zipWith FlatPixel.mk (values.drop c.window.x0) (marks.drop c.window.x0)) records := by
    simp only [rowPixels, flatRow, List.getD_eq_getElem?_getD, hv, hm, hr, Option.getD_some]
  refine ⟨rowPixels d c recs i, rfl, ?_, fun j hj => ?_⟩
  · rw [hpixels, List.length_zip, List.length_zipWith, List.length_drop, List.length_drop]
    omega
  · have hf : c.window.x0 + j < values.length := by omega
    have hc : c.window.x0 + j < marks.length := by omega
    refine ⟨_, _, _, List.getElem?_eq_getElem hf, List.getElem?_eq_getElem hc, List.getElem?_eq_getElem hj, ?_⟩
    rw [hpixels]
    simp only [List.zip, List.getElem?_zipWith, List.getElem?_drop, List.getElem?_eq_getElem hf, List.getElem?_eq_getElem hc,
      List.getElem?_eq_getElem hj]

/-! ### One pixel (R103) -/

theorem convertRow_eq_append {bf l : Nat} {row : List (FlatPixel × MergeRec)} {before after : List PixOut} {word : PixOut}
    (h : convertRow bf l none row = before ++ word :: after) :
    ∃ x rest, row.drop before.length = x :: rest ∧ convertRow bf l (before.getLast?.map fun w => w.code) [x] = [word]
      ∧ (rest = [] ↔ after = []) := by
  have hlen : row.length = before.length + (after.length + 1) := by
    rw [← convertRow_length bf l none row, h, List.length_append, List.length_cons]
  obtain ⟨x, rest, hx⟩ : ∃ x rest, row.drop before.length = x :: rest := by
    cases hd : row.drop before.length with
    | nil =>
      have := congrArg List.length hd
      rw [List.length_drop, List.length_nil] at this
      omega
    | cons x rest => exact ⟨x, rest, rfl⟩
  have hrest : rest.length = after.length := by
    have := congrArg List.length hx
    rw [List.length_drop, List.length_cons] at this
    omega
  have hsplit := convertRow_append bf l none (row.take before.length) (row.drop before.length)
  rw [List.take_append_drop, h] at hsplit
  obtain ⟨hbefore, hwords⟩ := List.append_inj hsplit (by rw [convertRow_length, List.length_take]; omega)
  rw [← hbefore, hx, Option.or_none] at hwords
  refine ⟨x, rest, hx, ?_, ?_⟩
  · rw [convertRow, ← (List.cons.inj hwords).1]
    rfl
  · rw [← List.length_eq_zero_iff, hrest, List.length_eq_zero_iff]

theorem convertNextPixel_eq {s : State} {c : Conversion} {p : Plane} {d : FlatData} {b : Buf} {before after : List PixOut} {word : PixOut}
    (hc : s.conv = some c) (hp : s.plane c.plane = some p) (hd : (s.flat c.bank).data = some d) (hb : s.buf c.buffer = some b)
    (hbefore : b.rows.getD c.rowsDone [] = before) (hwords : rowWords d c p.recs c.rowsDone = before ++ word :: after)
    (hlast : c.lastCode = before.getLast?.map (fun w => w.code)) :
    convertNextPixel s = { s.setBuf c.buffer (some { b with rows := b.rows.take c.rowsDone ++ [before ++ [word]] }) with
      conv := some { c with
        figures := addPixel c.figures word
        rowsDone := if after = [] then c.rowsDone + 1 else c.rowsDone
        lastCode := if after = [] then none else some word.code } } := by
  obtain ⟨x, rest, hx, hword, hrest⟩ := convertRow_eq_append hwords
  have hleft : rowLeft d c p b = x :: rest := by
    rw [rowLeft, Conversion.colsDone, hbefore]
    exact hx
  have hends : ([x].length = (x :: rest).length) = (after = []) := by
    rw [eq_iff_iff, ← hrest, List.length_cons, List.length_cons, List.length_nil, ← List.length_eq_zero_iff]
    omega
  rw [convertNextPixel, convertNext_eq (some 1) hc hp hd hb, hleft]
  dsimp only [Option.getD_some, List.take_succ_cons, List.take_zero]
  simp only [hlast, hword, hends, Buf.write, hbefore]
  by_cases h : after = [] <;> simp [Conversion.after, h, hlast]

/-! ### The figures (R111, R112) -/

theorem sum_modify_succ {l : List Nat} {i : Nat} (h : i < l.length) : (l.modify i (· + 1)).sum = l.sum + 1 := by
  induction l generalizing i with
  | nil => exact absurd h (Nat.not_lt_zero i)
  | cons n l ih =>
    cases i with
    | zero => simp only [List.modify_zero_cons, List.sum_cons]; omega
    | succ i =>
      rw [List.modify_succ_cons, List.sum_cons, ih (Nat.lt_of_succ_lt_succ h), List.sum_cons]
      omega

theorem getElem?_modify_succ {l : List Nat} {i k n : Nat} (h : l[k]? = some n) :
    (l.modify i (· + 1))[k]? = some (if k = i then n + 1 else n) := by
  rw [List.getElem?_modify, h]
  by_cases hk : i = k
  · simp [hk]
  · simp [hk, Ne.symm hk]

theorem addPixel_normal (g : ConvFigures) (code : Nat) : ∃ bins : List Nat, addPixel g ⟨code, .normal⟩ = { g with
      nNormal := g.nNormal + 1, sum := g.sum + code, bins := bins
      min := some (match g.min with | none => code | some m => if code < m then code else m)
      max := some (match g.max with | none => code | some m => if m < code then code else m) }
    ∧ bins.length = g.bins.length
    ∧ ∀ k n, g.bins[k]? = some n → bins[k]? = some (if k = min (code / 100) 40 then n + 1 else n) := by
  refine ⟨g.bins.modify (binOf code) (· + 1), ?_, List.length_modify .., fun k n h => getElem?_modify_succ h⟩
  have hmin (m : Nat) : min m code = if code < m then code else m := by split <;> omega
  have hmax (m : Nat) : max m code = if m < code then code else m := by split <;> omega
  cases hlow : g.min <;> cases hhigh : g.max <;> simp only [addPixel, hlow, hhigh, hmin, hmax]

/-- The NORMAL words among words. -/
def normalWords (words : List PixOut) : List PixOut := words.filter fun p => decide (p.cls = .normal)

theorem normalWords_cons (w : PixOut) (words : List PixOut) :
    normalWords (w :: words) = if w.cls = .normal then w :: normalWords words else normalWords words := by
  simp only [normalWords, List.filter_cons, decide_eq_true_eq]

theorem foldl_addPixel_counts (words : List PixOut) (g : ConvFigures) :
    (words.foldl addPixel g).nNormal = g.nNormal + (normalWords words).length
      ∧ (words.foldl addPixel g).nOver = g.nOver + words.countP (fun p => decide (p.cls = .overexp))
      ∧ (words.foldl addPixel g).nUnder = g.nUnder + words.countP (fun p => decide (p.cls = .underexp))
      ∧ (words.foldl addPixel g).nDefect = g.nDefect + words.countP (fun p => decide (p.cls = .defect))
      ∧ (words.foldl addPixel g).sum = g.sum + ((normalWords words).map fun p => p.code).sum := by
  induction words generalizing g with
  | nil => exact ⟨rfl, rfl, rfl, rfl, rfl⟩
  | cons w words ih =>
    obtain ⟨hn, ho, hu, hd, hs⟩ := ih (addPixel g w)
    rw [List.foldl_cons, hn, ho, hu, hd, hs, normalWords_cons]
    cases hw : w.cls <;> simp [addPixel, hw] <;> omega

/-- Each word is of one class. -/
theorem foldl_addPixel_total (words : List PixOut) (g : ConvFigures) :
    (words.foldl addPixel g).nNormal + (words.foldl addPixel g).nOver + (words.foldl addPixel g).nUnder + (words.foldl addPixel g).nDefect
      = g.nNormal + g.nOver + g.nUnder + g.nDefect + words.length := by
  induction words generalizing g with
  | nil => rfl
  | cons w words ih =>
    rw [List.foldl_cons, ih, List.length_cons]
    cases hw : w.cls <;> simp only [addPixel, hw] <;> omega

theorem addPixel_bins (g : ConvFigures) (w : PixOut) :
    (addPixel g w).bins = if w.cls = .normal then g.bins.modify (binOf w.code) (· + 1) else g.bins := by
  unfold addPixel
  cases w.cls <;> rfl

theorem foldl_addPixel_bin {words : List PixOut} {g : ConvFigures} {k n : Nat} (h : g.bins[k]? = some n) :
    (words.foldl addPixel g).bins[k]? = some (n + (normalWords words).countP fun p => decide (min (p.code / 100) 40 = k)) := by
  induction words generalizing g n with
  | nil => exact h
  | cons w words ih =>
    rw [List.foldl_cons, normalWords_cons]
    by_cases hw : w.cls = .normal
    · rw [if_pos hw, List.countP_cons,
        ih (n := if k = binOf w.code then n + 1 else n) (by rw [addPixel_bins, if_pos hw]; exact getElem?_modify_succ h)]
      have hbin : decide (min (w.code / 100) 40 = k) = decide (k = binOf w.code) := decide_eq_decide.mpr eq_comm
      rw [hbin]
      by_cases hk : k = binOf w.code
      · simp only [hk, if_true, decide_true]; congr 1; omega
      · simp [hk]
    · rw [if_neg hw, ih (n := n) (by rw [addPixel_bins, if_neg hw]; exact h)]

theorem foldl_addPixel_bins {words : List PixOut} {g : ConvFigures} (h : g.bins.length = 41) :
    (words.foldl addPixel g).bins.length = 41 ∧ (words.foldl addPixel g).bins.sum = g.bins.sum + (normalWords words).length := by
  induction words generalizing g with
  | nil => exact ⟨h, rfl⟩
  | cons w words ih =>
    have hbin : binOf w.code < g.bins.length := by
      rw [h]
      exact Nat.lt_succ_of_le (Nat.min_le_right _ _)
    rw [List.foldl_cons, normalWords_cons]
    by_cases hw : w.cls = .normal
    · obtain ⟨hl, hs⟩ := ih (g := addPixel g w) (by rw [addPixel_bins, if_pos hw, List.length_modify]; exact h)
      refine ⟨hl, ?_⟩
      rw [hs, addPixel_bins, if_pos hw, if_pos hw, sum_modify_succ hbin, List.length_cons]
      omega
    · obtain ⟨hl, hs⟩ := ih (g := addPixel g w) (by rw [addPixel_bins, if_neg hw]; exact h)
      rw [if_neg hw]
      refine ⟨hl, ?_⟩
      rw [hs, addPixel_bins, if_neg hw]

/-- The minimum and the maximum are those of the NORMAL codes, and of the ones that stood before. -/
theorem foldl_addPixel_range (words : List PixOut) (g : ConvFigures) :
    (words.foldl addPixel g).min = (g.min.toList ++ (normalWords words).map fun p => p.code).min?
      ∧ (words.foldl addPixel g).max = (g.max.toList ++ (normalWords words).map fun p => p.code).max? := by
  induction words generalizing g with
  | nil => exact ⟨by cases h : g.min <;> simp [normalWords, h], by cases h : g.max <;> simp [normalWords, h]⟩
  | cons w words ih =>
    obtain ⟨hmin, hmax⟩ := ih (addPixel g w)
    rw [List.foldl_cons, hmin, hmax, normalWords_cons]
    cases hw : w.cls with
    | normal =>
      constructor
      · cases hm : g.min with
        | none => simp [addPixel, hw, hm, List.min?_cons']
        | some m =>
          simp only [addPixel, hw, hm, if_true, Option.toList_some, List.map_cons, List.singleton_append, List.min?_cons]
          cases ((normalWords words).map fun p => p.code).min? <;> simp [Nat.min_assoc]
      · cases hm : g.max with
        | none => simp [addPixel, hw, hm, List.max?_cons']
        | some m =>
          simp only [addPixel, hw, hm, if_true, Option.toList_some, List.map_cons, List.singleton_append, List.max?_cons]
          cases ((normalWords words).map fun p => p.code).max? <;> simp [Nat.max_assoc]
    | _ => simp [addPixel, hw]

theorem foldl_addPixel_bounds {words : List PixOut} {g : ConvFigures} (hmin : g.min = none) (hmax : g.max = none)
    (hne : normalWords words ≠ []) :
    ∃ low high, (words.foldl addPixel g).min = some low ∧ (words.foldl addPixel g).max = some high
      ∧ (∃ p ∈ normalWords words, p.code = low) ∧ (∃ p ∈ normalWords words, p.code = high)
      ∧ ∀ p ∈ normalWords words, low ≤ p.code ∧ p.code ≤ high := by
  obtain ⟨hlow, hhigh⟩ := foldl_addPixel_range words g
  rw [hmin, Option.toList_none, List.nil_append] at hlow
  rw [hmax, Option.toList_none, List.nil_append] at hhigh
  have hcodes : ((normalWords words).map fun p => p.code) ≠ [] := fun h => hne (List.map_eq_nil_iff.mp h)
  obtain ⟨low, hl⟩ := Option.ne_none_iff_exists'.mp (mt List.min?_eq_none_iff.mp hcodes)
  obtain ⟨high, hh⟩ := Option.ne_none_iff_exists'.mp (mt List.max?_eq_none_iff.mp hcodes)
  obtain ⟨hlmem, hlle⟩ := List.min?_eq_some_iff.mp hl
  obtain ⟨hhmem, hhle⟩ := List.max?_eq_some_iff.mp hh
  exact ⟨low, high, hlow.trans hl, hhigh.trans hh, List.mem_map.mp hlmem, List.mem_map.mp hhmem,
    fun p hp => ⟨hlle _ (List.mem_map_of_mem hp), hhle _ (List.mem_map_of_mem hp)⟩⟩

/-- Settles O44. -/
theorem pixelClassAndCodeFollowTheRow : Obligations.PixelClassAndCodeFollowTheRow := by
  refine ⟨fun bf l row => ⟨convertRow_length .., fun x p r h => convertRow_spec bf l row x p r h,
      convertRow_code_le bf l none row (fun _ h => nomatch h), fun f sg rung hl hsg hhigh _ hf hlevel => ?_⟩,
    fun d c recs i values marks records hv hm hr hvl hml => rowWords_eq hv hm hr hvl hml, ?_,
    fun g code => ⟨rfl, rfl, rfl, addPixel_normal g code⟩, ?_⟩
  · obtain ⟨hn, hn'⟩ := scaledSignal_bounds (rung := rung) (hl.trans hsg) hhigh
    unfold scaledFlat
    exact ⟨hn, hn', by omega, by omega⟩
  · intro s t c p d b before after word hc hp hd hb hbefore hwords hlast ht
    rw [ht, convertNextPixel_eq hc hp hd hb hbefore hwords hlast]
    refine ⟨rfl, buf_setBuf s c.buffer _, fun k hk => buf_setBuf_ne s _ hk, ?_⟩
    cases c.buffer <;> rfl
  · intro words g t normal ht hnormal
    obtain rfl : normal = normalWords words := hnormal
    subst ht
    obtain ⟨hn, ho, hu, hd, hs⟩ := foldl_addPixel_counts words g
    refine ⟨hn, ho, hu, hd, foldl_addPixel_total words g, hs, fun k n h => foldl_addPixel_bin h, fun h => foldl_addPixel_bins h,
      fun hmin hmax hnone => ?_, fun hmin hmax hne => foldl_addPixel_bounds hmin hmax hne⟩
    obtain ⟨hlow, hhigh⟩ := foldl_addPixel_range words g
    rw [hlow, hhigh, hmin, hmax, hnone]
    exact ⟨rfl, rfl⟩

end Sys2Proof.Machine
end

section
/-! Calibration: CALIBRATE, its attempts, its frames, the taking in and the judgement (R120 to R127); O46, O47, O48, O49. -/
namespace Sys2Proof.Machine
open Sys2Proof

/-! ### CALIBRATE (R120) -/

theorem eFlatTaken_spec (e : Nat) : 20 ≤ eFlatTaken e ∧ eFlatTaken e ≤ 500000 ∧ (20 ≤ e → e ≤ 500000 → eFlatTaken e = e)
    ∧ (e < 20 → eFlatTaken e = 20) ∧ (500000 < e → eFlatTaken e = 500000) := by
  unfold eFlatTaken
  omega

theorem framesTaken_spec (n : Nat) : framesTaken n ∈ [1, 2, 4, 8, 16] ∧ (∀ k ∈ [1, 2, 4, 8, 16], k ≤ n → k ≤ framesTaken n)
    ∧ (1 ≤ n → framesTaken n ≤ n) ∧ (n = 0 → framesTaken n = 1) := by
  unfold framesTaken
  simp only [List.mem_cons, List.not_mem_nil, or_false, forall_eq_or_imp, forall_eq]
  split_ifs <;> omega

theorem calLayout_eq {code frames : Byte} {e : Nat} (he : e < 4294967296) :
    numsBody calSizes (code :: (leBytes 4 e ++ [frames])) = some [code.toNat, e, frames.toNat] := by
  have hbody : code :: (leBytes 4 e ++ [frames]) = leBytes 1 code.toNat ++ (leBytes 4 e ++ (leBytes 1 frames.toNat ++ [])) := by
    simp [leBytes_toNat]
  have hbyte (v : Byte) : v.toNat % 256 ^ 1 = v.toNat := Nat.mod_eq_of_lt v.isLt
  have hword : e % 256 ^ 4 = e := Nat.mod_eq_of_lt he
  have hnil : takeNums [] [] = some ([], []) := rfl
  rw [hbody, numsBody, calSizes]
  simp only [takeNums_cons, hnil, Option.map_some, hbyte, hword, wholeBody]

/-- CALIBRATE of a bank, past the naming of the bank: its checks in order (R120). -/
theorem calibrate_of_bank {code e n : Nat} {b : BankId} (hb : bankOfCode code = some b) (s : State) :
    (s.pass.job ≠ none ∨ s.cal.cal ≠ none ∨ s.motion.homeRequest = true → calibrate [code, e, n] s = (refuse .busy, s))
      ∧ (s.pass.job = none → s.cal.cal = none → s.motion.homeRequest = false →
        calibrate [code, e, n] s =
          if s.pass.state = .halted then (refuse .halted, s)
          else if s.platePresent then (refuse .platePresent, s)
          else if (s.bank b).health = .failed then (refuse .bankFailed, s)
          else
            (if calClamps e n = [] then
              .ok (.calibrating (calClamps e n) b (eFlatTaken e) (framesTaken n) (topRung (eFlatTaken e)) s.motion.unsure)
            else .adjusted (.calibrating (calClamps e n) b (eFlatTaken e) (framesTaken n) (topRung (eFlatTaken e)) s.motion.unsure),
            wantOrder (calOrder (freshCal b (eFlatTaken e) (framesTaken n) s))
              { s with cal.cal := some (freshCal b (eFlatTaken e) (framesTaken n) s) })) := by
  refine ⟨fun h => ?_, fun hj hc hh => ?_⟩
  · have hbusy : (s.jobActive || s.cal.cal.isSome || s.motion.homeRequest) = true := by
      rcases h with h | h | h
      · simp [State.jobActive, Option.isSome_iff_ne_none.mpr h]
      · simp [Option.isSome_iff_ne_none.mpr h]
      · simp [h]
    rw [calibrate, hb]
    exact if_pos hbusy
  · have hfree : ¬ (s.jobActive || s.cal.cal.isSome || s.motion.homeRequest) = true := by simp [State.jobActive, hj, hc, hh]
    rw [calibrate, hb]
    exact if_neg hfree

/-- The order that a calibration begins with (R122). -/
def State.calWanted (s : State) : Wanted :=
  if s.motion.unsure then ⟨.home, 0, 0, .calibration⟩ else ⟨.move, s.params.calX, s.params.calY, .calibration⟩

theorem calOrder_fresh (b : BankId) (e n : Nat) (s : State) : calOrder (freshCal b e n s) = s.calWanted := by
  unfold calOrder freshCal State.calWanted
  cases s.motion.unsure <;> rfl

theorem wantOrder_calWanted (s : State) (c : Calibration) :
    wantOrder s.calWanted { s with cal.cal := some c } = { s with
      cal.cal := some c
      motion := if s.motion.order = none ∧ s.motion.stop = none then s.motionIssued s.calWanted false
        else { s.motion with waiting := some s.calWanted } } := by
  by_cases h : s.motion.order = none ∧ s.motion.stop = none
  · rw [wantOrder_free (s := { s with cal.cal := some c }) h.1 h.2, if_pos h]
    unfold State.calWanted
    cases s.motion.unsure <;> rfl
  · rw [wantOrder_busy (s := { s with cal.cal := some c }) (not_and_or.mp h), if_neg h]

theorem calWanted_limit (s : State) : s.limitFor s.calWanted.kind = s.params.moveLimit := by
  unfold State.calWanted
  cases s.motion.unsure <;> rfl

/-- Settles O46. -/
theorem calibrateIsTakenOrRefusedInOrder : Obligations.CalibrateIsTakenOrRefusedInOrder := by
  intro tag flags code frames e rest s b hat he
  have hlayout := calLayout_eq (code := code) (frames := frames) he
  refine ⟨fun hcode => ?_, fun hb => ?_⟩
  · refine exec_answer rfl rfl hlayout hat ?_
    have hnone : bankOfCode code.toNat = none := by
      obtain ⟨n, hn⟩ : ∃ n, code.toNat = n + 2 := ⟨code.toNat - 2, by omega⟩
      rw [hn]
      rfl
    rw [calibrate, hnone]
    rfl
  · have hbank : bankOfCode code.toNat = some b := by
      rcases hb with ⟨rfl, rfl⟩ | ⟨rfl, rfl⟩ <;> rfl
    obtain ⟨hbusy, hfree⟩ := calibrate_of_bank (e := e) (n := frames.toNat) hbank { s with link.intake := rest }
    refine ⟨fun h => exec_answer rfl rfl hlayout hat (hbusy h), fun hj hc hh => ?_⟩
    have hcal := hfree hj hc hh
    refine ⟨fun hst => ?_, fun hst hp => ?_, fun hst hp hf => ?_, fun hst hp hr => ?_⟩
    · exact exec_answer rfl rfl hlayout hat (hcal.trans (if_pos hst))
    · exact exec_answer rfl rfl hlayout hat (hcal.trans ((if_neg hst).trans (if_pos hp)))
    · exact exec_answer rfl rfl hlayout hat (hcal.trans ((if_neg hst).trans ((if_neg (by simp [hp])).trans (if_pos hf))))
    · have hready : ¬ (({ s with link.intake := rest } : State).bank b).health = .failed := fun h => nomatch hr.symm.trans h
      rw [if_neg hst, if_neg (by simp [hp]), if_neg hready, calOrder_fresh, wantOrder_calWanted { s with link.intake := rest }] at hcal
      refine ⟨_, eFlatTaken e, framesTaken frames.toNat, calClamps e frames.toNat, s.calWanted,
        exec_answer (t := { s with
          cal.cal := some (freshCal b (eFlatTaken e) (framesTaken frames.toNat) s)
          motion := if s.motion.order = none ∧ s.motion.stop = none then s.motionIssued s.calWanted false
            else { s.motion with waiting := some s.calWanted } }) rfl rfl hlayout hat hcal,
        eFlatTaken_spec e, ?_, rfl, rfl, rfl, rfl, fun ho hs => ?_, fun h => ?_, rfl⟩
      · obtain ⟨hmem, hmax, hle, hzero⟩ := framesTaken_spec frames.toNat
        exact ⟨hmem, hmax, hle, fun h => hzero (h ▸ rfl)⟩
      · refine (if_pos ⟨ho, hs⟩).trans ?_
        simp only [State.motionIssued, State.orderOf, calWanted_limit]
        unfold State.calWanted
        cases s.motion.unsure <;> rfl
      · exact if_neg (not_and_or.mpr h)

end Sys2Proof.Machine
end

section
/-! A calibration's attempts, frames and taking in (R123 to R127); O47, O48, O49. -/
namespace Sys2Proof.Machine
open Sys2Proof

/-! ### The slots -/

theorem fillingSlot_eq_none {s : State} {i other : SlotId} (hne : i ≠ other) (hi : s.slot i = none)
    (ho : ∀ d, s.slot other = some d → d.state ≠ .filling) : s.fillingSlot = none := by
  have hother : ¬ ((s.slot other).any fun d => decide (d.state = .filling)) = true := by
    cases h : s.slot other with
    | none => exact Bool.false_ne_true
    | some d => simpa using ho d h
  rw [State.fillingSlot, List.find?_eq_none]
  intro k _
  by_cases hk : k = i
  · simp [hk, hi]
  · have : k = other := by revert hne hk; cases i <;> cases other <;> cases k <;> decide
    exact this ▸ hother

theorem fillingSlot_of_free {s : State} {i other : SlotId} (hne : i ≠ other) (hi : s.slot i = none) (ho : s.slot other = none) :
    s.fillingSlot = none := fillingSlot_eq_none hne hi fun d hd => nomatch ho.symm.trans hd

theorem slot_of_free {s : State} {i other : SlotId} (hne : i ≠ other) (hi : s.slot i = none) (ho : s.slot other = none) (k : SlotId) :
    s.slot k = none := by
  by_cases hk : k = i
  · rw [hk, hi]
  · have : k = other := by revert hne hk; cases i <;> cases other <;> cases k <;> decide
    rw [this, ho]

theorem freeSlot_eq_some {s : State} {i other : SlotId}
    (h : i = .s1 ∧ other = .s2 ∧ s.slot .s1 = none ∨ i = .s2 ∧ other = .s1 ∧ s.slot .s1 ≠ none ∧ s.slot .s2 = none) :
    s.freeSlot = some i ∧ i ≠ other ∧ s.slot i = none := by
  rcases h with ⟨rfl, rfl, h1⟩ | ⟨rfl, rfl, h1, h2⟩
  · exact ⟨by simp [State.freeSlot, allSlots, h1], by decide, h1⟩
  · exact ⟨by simp [State.freeSlot, allSlots, h1, h2], by decide, h2⟩

theorem markFilling_of_none {s : State} (h : s.fillingSlot = none) (t : Taker) : markFilling t s = s := by rw [markFilling, h]

theorem freeValid_of_free {s : State} (h : ∀ k, s.slot k = none) (t : Taker) : freeValid t s = s := by
  simp [freeValid, allSlots, h]

theorem holdsSlot_of_free {s : State} (h : ∀ k, s.slot k = none) (t : Taker) : s.holdsSlot t = false := by
  simp [State.holdsSlot, allSlots, h]

/-! ### The end of a calibration (R126, R127) -/

/-- The OPERATION-DONE of a calibration. -/
def Calibration.done (c : Calibration) (judged : Option (Nat × Nat)) (made : Option (Nat × Nat × Nat)) (tag : Nat) : Notice :=
  .calDone ⟨c.bank, c.eFlat, c.n, c.failure, c.takenIn, c.retakes, if c.failure = some .frames then some c.frameIndex else none, judged,
    made, tag⟩

theorem endCal_eq (c : Calibration) (judged : Option (Nat × Nat)) (made : Option (Nat × Nat × Nat)) (s : State) :
    endCal c judged made s = { s with cal.cal := none, link := s.link.posted (c.done judged made s.time.count) } := by
  unfold endCal Calibration.done
  dsimp only
  rw [postNotice_eq]
  cases h : c.failure with
  | none => rfl
  | some why => cases why <;> rfl

theorem closeCal_of_free {s : State} {c : Calibration} (hc : s.cal.cal = some c) (hf : c.failure ≠ none) (h : ∀ k, s.slot k = none) :
    closeCal s = { s with cal.cal := none, link := s.link.posted (c.done none none s.time.count) } := by
  rw [closeCal, hc]
  dsimp only
  rw [holdsSlot_of_free h, Option.isSome_iff_ne_none.mpr hf, if_pos (by decide), endCal_eq]

/-- A calibration that holds no slot fails: it ends at once. -/
theorem failCal_of_free {s : State} {c : Calibration} (hc : s.cal.cal = some c) (hf : c.failure = none) (h : ∀ k, s.slot k = none)
    (why : CalFailure) : failCal why s =
      { s with cal.cal := none, link := s.link.posted (({ c with failure := some why } : Calibration).done none none s.time.count) } := by
  let t : State := { s with cal.cal := some { c with failure := some why, phase := .closing, due := false } }
  have ht (k : SlotId) : t.slot k = none := h k
  have hclosed := closeCal_of_free (s := t) rfl (fun h => nomatch h) ht
  have hfilling : t.fillingSlot = none := fillingSlot_of_free (i := .s1) (other := .s2) (by decide) (h .s1) (h .s2)
  have hmap : mapCal (fun c => { c with failure := some why, phase := .closing, due := false }) s = t := by
    simp only [mapCal, hc, Option.map_some, t]
  rw [failCal, hc]
  dsimp only
  rw [hf, Option.isSome_none, if_neg (by decide), hmap, markFilling_of_none hfilling, freeValid_of_free ht, hclosed]
  rfl

/-! ### Attempts (R123) -/

theorem calAttempt_exposes {s : State} {c : Calibration} {i other : SlotId} {reading : Sample} (hc : s.cal.cal = some c) (hdue : c.due = true)
    (hf : c.failure = none) (hp : s.platePresent = false) (hb : (s.bank c.bank).health = .ready) (ha : s.lamps.a.lit = false)
    (hbl : s.lamps.b.lit = false) (hfree : s.freeSlot = some i) (hne : i ≠ other) (hi : s.slot i = none)
    (ho : ∀ d, s.slot other = some d → d.state ≠ .filling) :
    exec (.calAttemptStart reading) s = .next (expose c.bank .calibration c.eFlat reading
      { s.setSlot i (some (freshSlot .calibration 0 0 fullWindow c.clipLevel c.eFlat s)) with cal.cal := some { c with due := false } }) := by
  have hcond : c.due ∧ c.failure = none ∧ s.fillingSlot = none := ⟨hdue, hf, fillingSlot_eq_none hne hi ho⟩
  have hready : ¬ (s.bank c.bank).health = .failed := fun h => nomatch hb.symm.trans h
  have hdark : ¬ s.anyLit = true := by simp [State.anyLit, ha, hbl]
  change execCalAttemptStart reading s = _
  rw [execCalAttemptStart, hc, hfree]
  dsimp only
  rw [if_pos hcond, if_neg (by simp [hp]), if_neg hready, if_neg hdark]
  have hcal : (s.setSlot i (some (freshSlot .calibration 0 0 fullWindow c.clipLevel c.eFlat s))).cal.cal = some c := by simp [hc]
  simp only [mapCal, hcal, Option.map_some]

theorem calAttempt_fails {s : State} {c : Calibration} {reading : Sample} {why : CalFailure} (hc : s.cal.cal = some c) (hdue : c.due = true)
    (hf : c.failure = none) (h1 : s.slot .s1 = none) (h2 : s.slot .s2 = none)
    (hwhy : s.platePresent = true ∧ why = .platePresent
      ∨ s.platePresent = false ∧ (s.bank c.bank).health = .failed ∧ why = .bankFault) :
    exec (.calAttemptStart reading) s = .next (failCal why s) := by
  have hfree : s.freeSlot = some .s1 := by simp [State.freeSlot, allSlots, h1]
  have hcond : c.due ∧ c.failure = none ∧ s.fillingSlot = none :=
    ⟨hdue, hf, fillingSlot_of_free (i := .s1) (other := .s2) (by decide) h1 h2⟩
  change execCalAttemptStart reading s = _
  rw [execCalAttemptStart, hc, hfree]
  dsimp only
  rw [if_pos hcond]
  rcases hwhy with ⟨hp, rfl⟩ | ⟨hp, hb, rfl⟩
  · rw [if_pos hp]
  · rw [if_neg (by simp [hp]), if_pos hb]

theorem bank_other_ne (b : BankId) : BankId.other b ≠ b := by cases b <;> decide

/-- Settles O47. -/
theorem calibrationAttemptExposesOrFails : Obligations.CalibrationAttemptExposesOrFails := by
  intro s c reading hc hdue hf
  refine ⟨fun i other hp hb ha hbl hio ho => ?_, fun why h1 h2 hwhy => ?_⟩
  · obtain ⟨hfree, hne, hi⟩ := freeSlot_eq_some hio
    let d := freshSlot .calibration 0 0 fullWindow c.clipLevel c.eFlat s
    let u : State := { s.setSlot i (some d) with cal.cal := some { c with due := false } }
    have hslot (k : SlotId) : (expose c.bank .calibration c.eFlat reading u).slot k = (s.setSlot i (some d)).slot k :=
      slot_congr (by simp [u]) k
    have hubank (k : BankId) : u.bank k = s.bank k := bank_congr (by simp [u]) k
    have hbank (k : BankId) : (expose c.bank .calibration c.eFlat reading u).bank k
        = (u.setBank c.bank { u.bank c.bank with lit := true }).bank k := by cases k <;> rfl
    refine ⟨_, calAttempt_exposes hc hdue hf hp hb ha hbl hfree hne hi ho, (hslot i).trans (slot_setSlot ..),
      (hslot other).trans (slot_setSlot_ne s _ hne.symm), ?_, ?_, ?_, ?_, ?_, ?_⟩
    · simp
    · unfold expose
      simp [State.tag]
    · unfold expose
      simp
    · rw [hbank, bank_setBank, hubank]
    · rw [hbank, bank_setBank_ne _ _ (bank_other_ne _), hubank]
    · have h := hio
      rcases h with ⟨rfl, rfl, -⟩ | ⟨rfl, rfl, -, -⟩ <;> cases hb : c.bank <;> rfl
  · rw [calAttempt_fails hc hdue hf h1 h2 hwhy, failCal_of_free hc hf (slot_of_free (i := .s1) (other := .s2) (by decide) h1 h2)]
    have hframes : ¬ (some why = some CalFailure.frames) := by
      rcases hwhy with ⟨-, rfl⟩ | ⟨-, -, rfl⟩ <;> decide
    simp only [Calibration.done, if_neg hframes]

end Sys2Proof.Machine
end

section
/-! A calibration's taking in and judgement (R124, R125, R127); O49. -/
namespace Sys2Proof.Machine
open Sys2Proof

/-! ### Taking in -/

theorem takeInBegin_spec {s : State} {i : SlotId} {rest : List SlotId} {d : Slot} (hm : s.mergingSlot .calibration = none)
    (ho : s.intake.validOrder = i :: rest) (hd : s.slot i = some d) (hst : d.state = .valid) (ht : d.taker = .calibration) :
    ∃ t, exec .takeInBegin s = .next t ∧ t.slot i = some { d with state := .merging }
      ∧ t.intake.validOrder = rest.filter (fun k => decide (k ≠ i)) ∧ t.cal = s.cal ∧ t.faults = s.faults ∧ t.pass = s.pass := by
  have hexec : exec .takeInBegin s = execTakeInBegin s := rfl
  have horder : (s.setSlot i (some { d with state := .merging })).intake.validOrder = i :: rest := by
    rw [← ho]
    cases i <;> rfl
  rw [hexec, execTakeInBegin, hm, oldestValid_head ho hd hst ht]
  dsimp only
  rw [hd, Option.map_some, horder, List.filter_cons_of_neg (by simp)]
  refine ⟨_, rfl, slot_setSlot s i _, rfl, ?_, ?_, ?_⟩
  all_goals simp

theorem getElem?_zipWith_some {α β γ : Type} (f : α → β → γ) {as : List α} {bs : List β} {k : Nat} {a : α} {b : β} (ha : as[k]? = some a)
    (hb : bs[k]? = some b) : (List.zipWith f as bs)[k]? = some (f a b) := by
  rw [List.getElem?_zipWith, ha, hb]

theorem getD_of_getElem? {α : Type} {rows : List (List α)} {y x : Nat} {v : α} (h : (rows.getD y [])[x]? = some v) :
    ∃ row, rows[y]? = some row ∧ row[x]? = some v := by
  rw [List.getD_eq_getElem?_getD] at h
  cases hr : rows[y]? with
  | none => rw [hr] at h; exact nomatch h
  | some row => exact ⟨row, rfl, by rw [hr] at h; exact h⟩

/-- Two tables combined place by place. -/
theorem getElem?_zipWith_rows {α β γ : Type} (f : α → β → γ) {as : List (List α)} {bs : List (List β)} {y x : Nat} {a : α} {b : β}
    (ha : (as.getD y [])[x]? = some a) (hb : (bs.getD y [])[x]? = some b) :
    ((List.zipWith (List.zipWith f) as bs).getD y [])[x]? = some (f a b) := by
  obtain ⟨ra, hra, ha⟩ := getD_of_getElem? ha
  obtain ⟨rb, hrb, hb⟩ := getD_of_getElem? hb
  rw [List.getD_eq_getElem?_getD, getElem?_zipWith_some _ hra hrb]
  exact getElem?_zipWith_some f ha hb

/-! ### The judgement -/

/-- The three outcomes of R125's judgement, by the marks and by the dark pixels. -/
theorem judgeCal_eq {c : Calibration} {s : State} (hf : c.failure = none) {marked bf dark : Nat} (hmarked : marked = countTrue c.marks)
    (hbf : bf = average c.n c.sumB) (hdark : dark = countDark bf c.floor (c.sums.map fun row => row.map (average c.n))) :
    (12582912 < marked * 1000 → judgeCal c s = { s with
        cal.cal := none
        link := s.link.posted (.calDone ⟨c.bank, c.eFlat, c.n, some .clipped, c.takenIn, c.retakes, none, some (marked, dark), none, s.time.count⟩) })
      ∧ (marked * 1000 ≤ 12582912 → 6291456 < dark → judgeCal c s = { s with
        cal.cal := none
        link := s.link.posted (.calDone ⟨c.bank, c.eFlat, c.n, some .dark, c.takenIn, c.retakes, none, some (marked, dark), none, s.time.count⟩) })
      ∧ (marked * 1000 ≤ 12582912 → dark ≤ 6291456 → judgeCal c s = { s.setFlat c.bank ⟨.valid, some (flatOf c marked dark s.time.count)⟩ with
        cal.cal := none
        link := s.link.posted (.calDone ⟨c.bank, c.eFlat, c.n, none, c.takenIn, c.retakes, none, some (marked, dark),
          some (bf, average c.n c.sumM, topRung c.eFlat), s.time.count⟩) }) := by
  subst hmarked hbf hdark
  have hpixels : sensorPixels = 12582912 := rfl
  have hhalf : sensorPixels / 2 = 6291456 := rfl
  refine ⟨fun hm => ?_, fun hm hd => ?_, fun hm hd => ?_⟩
  · unfold judgeCal
    rw [if_pos (hpixels ▸ hm), endCal_eq]
    rfl
  · unfold judgeCal
    rw [if_neg (by rw [hpixels]; omega), if_pos (hhalf ▸ hd), endCal_eq]
    rfl
  · unfold judgeCal
    rw [if_neg (by rw [hpixels]; omega), if_neg (by rw [hhalf]; omega), endCal_eq]
    simp only [Calibration.done, hf, State.setFlat_frame, if_neg (show ¬ (none = some CalFailure.frames) from fun h => nomatch h)]
    rfl

theorem flat_congr {s t : State} (ha : s.cal.flatA = t.cal.flatA) (hb : s.cal.flatB = t.cal.flatB) (k : BankId) : s.flat k = t.flat k := by
  cases k
  · exact ha
  · exact hb

/-- A judgement changes the calibration store and the notices alone. -/
theorem judgeCal_leaves (c : Calibration) (s : State) : (judgeCal c s).cal.cal = none ∧ (judgeCal c s).intake = s.intake
    ∧ (judgeCal c s).pass = s.pass ∧ (judgeCal c s).faults = s.faults ∧ (judgeCal c s).lamps = s.lamps := by
  unfold judgeCal
  dsimp only
  split
  · rw [endCal_eq]; exact ⟨rfl, rfl, rfl, rfl, rfl⟩
  · split
    · rw [endCal_eq]; exact ⟨rfl, rfl, rfl, rfl, rfl⟩
    · rw [endCal_eq]; simp

theorem execTakeInEnd_eq {s : State} {c : Calibration} {i : SlotId} {d : Slot} (hc : s.cal.cal = some c) (hf : c.failure = none)
    (hm : s.mergingSlot .calibration = some i) (hd : s.slot i = some d) :
    exec .takeInEnd s = .next (if c.takenIn + 1 = c.n then judgeCal (takeIn d c) (({ s with cal.cal := some (takeIn d c) } : State).releaseSlot i)
      else ({ s with cal.cal := some (takeIn d c) } : State).releaseSlot i) := by
  have hnone : (takeIn d c).failure.isSome = false := by rw [takeIn, hf]; rfl
  have hn : (takeIn d c).takenIn = (takeIn d c).n ↔ c.takenIn + 1 = c.n := Iff.rfl
  change execTakeInEnd s = _
  rw [execTakeInEnd, hc, hm]
  dsimp only
  rw [hd]
  dsimp only
  rw [hnone, if_neg (by decide)]
  by_cases h : c.takenIn + 1 = c.n
  · rw [if_pos (hn.mpr h), if_pos h]
  · rw [if_neg (mt hn.mp h), if_neg h]

/-- Settles O49. -/
theorem calibrationTakesInAveragesAndJudges : Obligations.CalibrationTakesInAveragesAndJudges := by
  refine ⟨fun s i rest d hm ho hd hst ht => takeInBegin_spec hm ho hd hst ht, fun s c i d hc hf hm hd => ?_⟩
  have hexec := execTakeInEnd_eq hc hf hm hd
  let v := takeIn d c
  let u : State := ({ s with cal.cal := some v } : State).releaseSlot i
  have hslot : u.slot i = none := slot_releaseSlot _ i
  have hulink : u.link = s.link := by simp [u]
  have hucal : u.cal = { s.cal with cal := some v } := by simp [u]
  obtain ⟨hnone, hintake, hpass, hfaults, hlamps⟩ := judgeCal_leaves v u
  refine ⟨_, v.sums, v.marks, hexec, ?_, fun y x n p hv hp => getElem?_zipWith_rows _ hv hp,
    fun y x m p hv hp => getElem?_zipWith_rows _ hv hp, fun hne => ?_, fun hn => ?_, ?_, ?_, ?_⟩
  · split
    · exact (slot_congr hintake i).trans hslot
    · exact hslot
  · rw [if_neg hne]
    exact ⟨hulink, hucal⟩
  · rw [if_pos hn]
    intro avg marked bf mref dark havg hmarked hbf hmref hdark
    obtain rfl : avg = average c.n := funext havg
    have hdark' : dark = countDark bf v.floor (v.sums.map fun row => row.map (average v.n)) := by
      rw [hdark, countDark, List.map_map]
      refine congrArg List.sum (List.map_congr_left fun row _ => ?_)
      rw [Function.comp_apply, List.countP_map]
      refine congrArg (List.countP · row) (funext fun sum => ?_)
      have hfloor : v.floor = c.floor := rfl
      have hframes : v.n = c.n := rfl
      simp only [Function.comp_apply, decide_eq_decide, hfloor, hframes]
      omega
    obtain ⟨hclip, hdarkened, hgood⟩ := judgeCal_eq (c := v) (s := u) hf hmarked hbf hdark'
    have htime : u.time = s.time := by simp [u]
    have htaken : v.takenIn = c.n := hn
    refine ⟨hnone, fun h => ?_, fun h h' => ?_, fun h h' => ?_⟩
    · have heq := hclip h
      refine ⟨(congrArg State.cal heq).trans ?_, (congrArg State.link heq).trans ?_⟩
      · exact congrArg (fun x : CalStore => { x with cal := none }) hucal
      · dsimp only
        rw [hulink, htime, htaken]
        rfl
    · have heq := hdarkened h h'
      refine ⟨(congrArg State.cal heq).trans ?_, (congrArg State.link heq).trans ?_⟩
      · exact congrArg (fun x : CalStore => { x with cal := none }) hucal
      · dsimp only
        rw [hulink, htime, htaken]
        rfl
    · have heq := hgood h h'
      let f : Flat := ⟨.valid, some (flatOf v marked dark u.time.count)⟩
      have hflat (k : BankId) : (judgeCal v u).flat k = (u.setFlat c.bank f).flat k := by rw [heq]; cases k <;> rfl
      refine ⟨(hflat c.bank).trans ((flat_setFlat u c.bank f).trans ?_), (hflat _).trans ?_, (congrArg State.link heq).trans ?_⟩
      · subst hbf hmref
        simp only [f, flatOf, htime]
        rfl
      · rw [flat_setFlat_ne u f (bank_other_ne c.bank)]
        exact flat_congr (by rw [hucal]) (by rw [hucal]) _
      · subst hmref
        dsimp only
        rw [hulink, htime, htaken]
        rfl
  · split
    · exact hpass.trans (by simp [u])
    · simp
  · split
    · exact hfaults.trans (by simp [u])
    · simp
  · split
    · exact hlamps.trans (by simp [u])
    · simp

end Sys2Proof.Machine
end

section
/-! How a frame ends (R83, R88 to R90), and the fate of a calibration's (R124, R126); O48. -/
namespace Sys2Proof.Machine
open Sys2Proof

/-! ### The three ways in which a frame ends -/

theorem exec_frameEnd {s : State} {i : SlotId} (h : s.intake.rx = .receiving i) :
    exec .frameEnd s = .next (judgeFrame i false { s with intake.rx := .idle }) := by
  change execFrameEnd s = _
  rw [execFrameEnd, h]

theorem exec_frameStart_breaks {s : State} {i : SlotId} (h : s.intake.rx = .receiving i) :
    exec .frameStart s = .next (countStray (judgeFrame i true { s with intake.rx := .idle })) := by
  change execFrameStart s = _
  rw [execFrameStart, h]

theorem exec_frameDeadline {s : State} {i : SlotId} {d : Slot} (hi : s.fillingSlot = some i) (hd : s.slot i = some d)
    (hnow : d.deadline ≤ s.now) : exec .frameDeadline s = .next
      (if d.discard then frameDiscarded i d (giveUpFrame i true s)
      else frameFailed i d .frameTimeout .frameTimeout (giveUpFrame i false s)) := by
  change execFrameDeadline s = _
  rw [execFrameDeadline, hi]
  dsimp only
  rw [hd]
  dsimp only
  rw [if_pos hnow]
  split <;> rfl

theorem judgeFrame_eq {s : State} {i : SlotId} {d : Slot} (hd : s.slot i = some d) (broken : Bool) : judgeFrame i broken s =
    if d.discard then frameDiscarded i d s
    else if broken || d.isShort then frameFailed i d .frameShort .frameShort s else frameValid i d s := by rw [judgeFrame, hd]

theorem giveUpFrame_eq (i : SlotId) (marked : Bool) (s : State) : giveUpFrame i marked s = { s with
    intake.rx := if s.intake.rx = .receiving i then (if marked then .released else .discarding) else s.intake.rx } := by
  unfold giveUpFrame
  by_cases h : s.intake.rx = .receiving i
  · rw [if_pos h, if_pos h]
  · rw [if_neg h, if_neg h]

theorem isShort_iff {d : Slot} : d.isShort = true ↔ d.lines ≠ 3072 ∨ d.shortSeen = true := by
  rw [Slot.isShort, Bool.or_eq_true, decide_eq_true_eq, or_comm]
  rfl

theorem not_isShort {d : Slot} (hl : d.lines = 3072) (hs : d.shortSeen = false) : ¬ d.isShort = true := by
  rw [isShort_iff]
  simp [hl, hs]

/-- What is left of the frame in reception when slot `i`'s frame ends by `cmd`. -/
def endedRx (cmd : Instr) (i : SlotId) (marked : Bool) (rx : LinkRx) : LinkRx :=
  if cmd = .frameDeadline then (if rx = .receiving i then (if marked then .released else .discarding) else rx) else .idle

/-- What a frame start that breaks a frame adds: the starting frame is a stray. -/
def straysAfter (cmd : Instr) (s : State) : State := if cmd = .frameStart then countStray s else s

/-- A frame that ends short, broken or late, and is not marked, fails with its kind and verdict. -/
theorem exec_frame_fails {s : State} {i : SlotId} {d : Slot} {cmd : Instr} {kind : FaultKind} {verdict : FrameVerdict}
    (hd : s.slot i = some d) (hmark : d.discard = false)
    (h : cmd = .frameEnd ∧ kind = .frameShort ∧ verdict = .frameShort ∧ s.intake.rx = .receiving i ∧ (d.lines ≠ 3072 ∨ d.shortSeen = true)
      ∨ cmd = .frameStart ∧ kind = .frameShort ∧ verdict = .frameShort ∧ s.intake.rx = .receiving i
      ∨ cmd = .frameDeadline ∧ kind = .frameTimeout ∧ verdict = .frameTimeout ∧ s.fillingSlot = some i ∧ d.deadline ≤ s.now) :
    exec cmd s = .next (straysAfter cmd (frameFailed i d kind verdict { s with intake.rx := endedRx cmd i false s.intake.rx })) := by
  have hslot : ({ s with intake.rx := .idle } : State).slot i = some d := by cases i <;> exact hd
  have hnot : ¬ d.discard = true := by rw [hmark]; decide
  rcases h with ⟨rfl, rfl, rfl, hrx, hshort⟩ | ⟨rfl, rfl, rfl, hrx⟩ | ⟨rfl, rfl, rfl, hi, hnow⟩
  · rw [exec_frameEnd hrx, judgeFrame_eq hslot, if_neg hnot, if_pos (by rw [isShort_iff.mpr hshort]; rfl)]
    rfl
  · rw [exec_frameStart_breaks hrx, judgeFrame_eq hslot, if_neg hnot, if_pos (by rfl)]
    rfl
  · rw [exec_frameDeadline hi hd hnow, if_neg hnot, giveUpFrame_eq]
    rfl

/-- A marked frame that ends, is broken or is late, is discarded. -/
theorem exec_frame_discarded {s : State} {i : SlotId} {d : Slot} {cmd : Instr} (hd : s.slot i = some d) (hmark : d.discard = true)
    (h : cmd ∈ [.frameEnd, .frameStart] ∧ s.intake.rx = .receiving i
      ∨ cmd = .frameDeadline ∧ s.fillingSlot = some i ∧ d.deadline ≤ s.now) :
    exec cmd s = .next (straysAfter cmd (frameDiscarded i d { s with intake.rx := endedRx cmd i true s.intake.rx })) := by
  have hslot : ({ s with intake.rx := .idle } : State).slot i = some d := by cases i <;> exact hd
  rcases h with ⟨hcmd, hrx⟩ | ⟨rfl, hi, hnow⟩
  · rcases List.mem_pair.mp hcmd with rfl | rfl
    · rw [exec_frameEnd hrx, judgeFrame_eq hslot, if_pos hmark]
      rfl
    · rw [exec_frameStart_breaks hrx, judgeFrame_eq hslot, if_pos hmark]
      rfl
  · rw [exec_frameDeadline hi hd hnow, if_pos hmark, giveUpFrame_eq]
    rfl

/-! ### A calibration's frame -/

theorem dropFrame_slot {s : State} {i other : SlotId} (hne : i ≠ other) (ho : s.slot other = none) (d : Slot) (verdict : FrameVerdict)
    (k : SlotId) : (dropFrame i d verdict s).slot k = none := by
  refine slot_of_free hne ?_ ?_ k <;> revert hne ho <;> cases i <;> cases other <;> simp [dropFrame, noteFrame, State.releaseSlot, State.slot, State.setSlot]

/-- A calibration frame has failed, no slot being held: a retake becomes due, or, at attempt 3, the calibration fails. -/
theorem calFrameFailed_of_free {s : State} {c : Calibration} (hc : s.cal.cal = some c) (hf : c.failure = none) (h : ∀ k, s.slot k = none) :
    (c.attempt < 3 → calFrameFailed s = { s with
        cal.cal := some { c with pendingM := none, attempt := c.attempt + 1, retakes := c.retakes + 1, due := true } })
      ∧ (3 ≤ c.attempt → calFrameFailed s = { s with
        cal.cal := none
        link := s.link.posted
          (.calDone ⟨c.bank, c.eFlat, c.n, some .frames, c.takenIn, c.retakes, some c.frameIndex, none, none, s.time.count⟩) }) := by
  have hnot : ¬ c.failure.isSome = true := by rw [hf]; decide
  have hmap : mapCal (fun c => { c with pendingM := none }) s = { s with cal.cal := some { c with pendingM := none } } := by
    simp only [mapCal, hc, Option.map_some]
  refine ⟨fun ha => ?_, fun ha => ?_⟩
  · rw [calFrameFailed, hc]
    dsimp only
    rw [if_neg hnot, if_pos ha, hmap]
    rfl
  · rw [calFrameFailed, hc]
    dsimp only
    rw [if_neg hnot, if_neg (by omega), hmap,
      failCal_of_free (s := { s with cal.cal := some { c with pendingM := none } }) rfl hf h .frames]
    rfl

theorem frameFailed_calibration {s : State} {d : Slot} (ht : d.taker = .calibration) (i : SlotId) (kind : FaultKind) (verdict : FrameVerdict) :
    frameFailed i d kind verdict s
      = calFrameFailed (raiseFault kind ⟨none, none, none, s.cal.cal.map fun c => c.bank⟩ (dropFrame i d verdict s)) := by
  have hctx : s.frameCtx d = ⟨none, none, none, s.cal.cal.map fun c => c.bank⟩ := by rw [State.frameCtx, ht]
  rw [frameFailed, ht, hctx]

theorem frameDiscarded_calibration {d : Slot} (ht : d.taker = .calibration) (i : SlotId) (s : State) :
    frameDiscarded i d s = closeCal (dropFrame i d .discarded s) := by rw [frameDiscarded, ht]

theorem dropFrame_last (i : SlotId) {d : Slot} (ht : d.taker = .calibration) (verdict : FrameVerdict) (s : State) :
    (dropFrame i d verdict s).intake.last = some ⟨.calibration, none, d.lines, none, verdict, s.time.count⟩ := by
  rw [dropFrame, noteFrame, Slot.rungOf, ht]
  cases i <;> rfl

theorem straysAfter_leaves (cmd : Instr) (s : State) :
    (∀ k, (straysAfter cmd s).slot k = s.slot k) ∧ (straysAfter cmd s).intake.last = s.intake.last
      ∧ (straysAfter cmd s).faults = s.faults ∧ (straysAfter cmd s).cal = s.cal ∧ (straysAfter cmd s).link = s.link
      ∧ (straysAfter cmd s).pass = s.pass ∧ (straysAfter cmd s).lamps = s.lamps := by
  unfold straysAfter
  split
  · refine ⟨fun k => ?_, rfl, rfl, rfl, rfl, rfl, rfl⟩
    cases k <;> rfl
  · exact ⟨fun _ => rfl, rfl, rfl, rfl, rfl, rfl, rfl⟩

theorem dropFrame_leaves (i : SlotId) (d : Slot) (verdict : FrameVerdict) (s : State) :
    (dropFrame i d verdict s).cal = s.cal ∧ (dropFrame i d verdict s).link = s.link ∧ (dropFrame i d verdict s).faults = s.faults
      ∧ (dropFrame i d verdict s).pass = s.pass ∧ (dropFrame i d verdict s).lamps = s.lamps ∧ (dropFrame i d verdict s).time = s.time
      ∧ (dropFrame i d verdict s).intake.rx = s.intake.rx ∧ (dropFrame i d verdict s).intake.discarded = s.intake.discarded := by
  unfold dropFrame noteFrame
  simp

/-- A whole calibration frame, not marked, is kept: it waits VALID with its B and the pending M (R124; log 46). -/
theorem calFrame_kept {s : State} {c : Calibration} {i other : SlotId} {d : Slot} (hc : s.cal.cal = some c) (hne : i ≠ other)
    (hd : s.slot i = some d) (ht : d.taker = .calibration) (hrx : s.intake.rx = .receiving i) (hmark : d.discard = false)
    (hl : d.lines = 3072) (hs : d.shortSeen = false) :
    ∃ t, exec .frameEnd s = .next t
      ∧ t.slot i = some { d with
          state := .valid, reception := .ended, b := min 1023 ((d.refSum + 24576) / 49152), m := c.pendingM.getD 0 }
      ∧ t.slot other = s.slot other ∧ t.intake.validOrder = s.intake.validOrder ++ [i]
      ∧ (c.frameIndex < c.n →
          t.cal.cal = some { c with pendingM := none, frameIndex := c.frameIndex + 1, attempt := 1, due := true })
      ∧ (c.n ≤ c.frameIndex → t.cal.cal = some { c with pendingM := none })
      ∧ t.faults = s.faults ∧ t.link = s.link ∧ t.pass = s.pass ∧ t.lamps = s.lamps := by
  let u : State := { s with intake.rx := .idle }
  have hslot : u.slot i = some d := by cases i <;> exact hd
  let v := validateFrame i d (c.pendingM.getD 0) u
  have hvslot : v.slot i = some { d with
      state := .valid, reception := .ended, b := min 1023 ((d.refSum + 24576) / 49152), m := c.pendingM.getD 0 } := by
    simp only [v, validateFrame, noteFrame]
    cases i <;> rfl
  have hvother : v.slot other = s.slot other := by
    revert hne
    cases i <;> cases other <;> first | exact fun h => absurd rfl h | exact fun _ => rfl
  have hexec : exec .frameEnd s = .next (calFrameValid v) := by
    rw [exec_frameEnd hrx, judgeFrame_eq hslot, if_neg (by rw [hmark]; decide), if_neg, frameValid, ht]
    · dsimp only
      have hm : ((u.cal.cal.bind fun c => c.pendingM).getD 0) = c.pendingM.getD 0 := by simp only [u, hc, Option.bind_some]
      rw [hm]
    · rw [Bool.false_or]
      exact not_isShort hl hs
  have hvcal : v.cal.cal = some c := by cases i <;> exact hc
  have hcal : (calFrameValid v).cal.cal = some (if c.frameIndex < c.n then
      { c with pendingM := none, frameIndex := c.frameIndex + 1, attempt := 1, due := true } else { c with pendingM := none }) := by
    simp only [calFrameValid, mapCal, hvcal, Option.map_some]
  refine ⟨_, hexec, hvslot, hvother, ?_, fun h => ?_, fun h => ?_, ?_, ?_, ?_, ?_⟩
  · cases i <;> rfl
  · rw [hcal, if_pos h]
  · rw [hcal, if_neg (by omega)]
  all_goals cases i <;> rfl

/-- Settles O48. -/
theorem calibrationFramesAreKeptOrRetaken : Obligations.CalibrationFramesAreKeptOrRetaken := by
  intro s c i other d hc hne hd ht
  refine ⟨fun _ hrx hmark hl hs => calFrame_kept hc hne hd ht hrx hmark hl hs, fun cmd kind verdict hf hmark ho hcmd => ?_,
    fun cmd why hf hmark ho hcmd => ?_⟩
  · let u : State := { s with intake.rx := endedRx cmd i false s.intake.rx }
    let v := raiseFault kind ⟨none, none, none, s.cal.cal.map fun c => c.bank⟩ (dropFrame i d verdict u)
    have hexec : exec cmd s = .next (straysAfter cmd (calFrameFailed v)) := by
      rw [exec_frame_fails hd hmark hcmd, frameFailed_calibration ht]
    have huo : u.slot other = none := by cases other <;> exact ho
    have hfree (k : SlotId) : v.slot k = none := dropFrame_slot hne huo d verdict k
    obtain ⟨hcal, hlink, hfaults, hpass, hlamps, htime, hrx, hdisc⟩ := dropFrame_leaves i d verdict u
    have hvcal : v.cal = s.cal := hcal
    have hvlink : v.link = s.link := hlink
    have hvtime : v.time = s.time := htime
    have hvfaults : v.faults = { s.faults with raised := s.faults.raised ++ [⟨kind, ⟨none, none, none, some c.bank⟩⟩] } := by
      simp only [v, raiseFault, hfaults, hc, Option.map_some]
      rfl
    obtain ⟨hretake, hfail⟩ := calFrameFailed_of_free (s := v) ((congrArg CalStore.cal hvcal).trans hc) hf hfree
    obtain ⟨w, hw, hwcal, hwlink⟩ : ∃ w : CalStore, w.flatA = s.cal.flatA ∧ w.flatB = s.cal.flatB ∧ ∃ l : Link,
        calFrameFailed v = { v with cal := w, link := l }
          ∧ (c.attempt < 3 → l = s.link
            ∧ w.cal = some { c with pendingM := none, attempt := c.attempt + 1, retakes := c.retakes + 1, due := true })
          ∧ (3 ≤ c.attempt → w.cal = none ∧ l = s.link.posted
            (.calDone ⟨c.bank, c.eFlat, c.n, some .frames, c.takenIn, c.retakes, some c.frameIndex, none, none, s.time.count⟩)) := by
      by_cases ha : c.attempt < 3
      · exact ⟨_, by rw [← hvcal], by rw [← hvcal], _, hretake ha, fun _ => ⟨hvlink, rfl⟩, fun h => by omega⟩
      · refine ⟨_, by rw [← hvcal], by rw [← hvcal], _, hfail (by omega), fun h => absurd h ha, fun _ => ⟨rfl, ?_⟩⟩
        rw [hvlink, hvtime]
    obtain ⟨l, heq, hlow, hhigh⟩ := hwlink
    obtain ⟨sslot, slast, sfaults, scal, slink, spass, slamps⟩ := straysAfter_leaves cmd (calFrameFailed v)
    have hslot (k : SlotId) : (straysAfter cmd (calFrameFailed v)).slot k = none := by
      rw [sslot, heq]
      cases k
      · exact hfree .s1
      · exact hfree .s2
    refine ⟨_, hexec, hslot i, hslot other, ?_, ?_, ?_, fun ha => ?_, fun ha => ?_, ?_, ?_, ?_, ?_⟩
    · rw [sfaults, heq]
      exact hvfaults
    · rw [slast, heq]
      exact dropFrame_last i ht verdict u
    · rintro rfl
      rw [heq]
      exact ⟨hdisc, hrx⟩
    · rw [slink, scal, heq]
      exact hlow ha
    · rw [slink, scal, heq]
      exact hhigh ha
    · rw [scal, heq]
      exact hw
    · rw [scal, heq]
      exact hwcal
    · rw [spass, heq]
      exact hpass
    · rw [slamps, heq]
      exact hlamps
  · let u : State := { s with intake.rx := endedRx cmd i true s.intake.rx }
    let v := dropFrame i d .discarded u
    have huo : u.slot other = none := by cases other <;> exact ho
    have hfree (k : SlotId) : v.slot k = none := dropFrame_slot hne huo d .discarded k
    obtain ⟨hcal, hlink, hfaults, hpass, hlamps, htime, -, -⟩ := dropFrame_leaves i d .discarded u
    have hvcal : v.cal = s.cal := hcal
    have hvlink : v.link = s.link := hlink
    have hvtime : v.time = s.time := htime
    have hclosed : closeCal v = { v with cal.cal := none, link := v.link.posted (c.done none none v.time.count) } :=
      closeCal_of_free ((congrArg CalStore.cal hvcal).trans hc) (by rw [hf]; exact Option.some_ne_none why) hfree
    have hexec : exec cmd s = .next (straysAfter cmd (closeCal v)) := by
      rw [exec_frame_discarded hd hmark hcmd, frameDiscarded_calibration ht]
    obtain ⟨sslot, slast, sfaults, scal, slink, spass, slamps⟩ := straysAfter_leaves cmd (closeCal v)
    have hslot (k : SlotId) : (straysAfter cmd (closeCal v)).slot k = none := by
      rw [sslot, hclosed]
      cases k
      · exact hfree .s1
      · exact hfree .s2
    refine ⟨_, hexec, hslot i, hslot other, ?_, ?_, ?_, ?_, ?_, ?_⟩
    · rw [slast, hclosed]
      exact dropFrame_last i ht .discarded u
    · rw [scal, hclosed, ← hvcal]
    · rw [slink, hclosed, ← hvlink, ← hvtime]
      simp only [Calibration.done, hf, Option.some.injEq]
    · rw [sfaults, hclosed]
      exact hfaults
    · rw [spass, hclosed]
      exact hpass
    · rw [slamps, hclosed]
      exact hlamps

end Sys2Proof.Machine
end

section
/-! Lines and frame starts (R83, R86, R87, R93), and what a frame's end leaves of the intake; O36. -/
namespace Sys2Proof.Machine
open Sys2Proof

/-! ### An operation that fills no slot

What the pass controller, the ladder sequencer and the calibration do at a frame's end marks and frees slots, and notes no frame. -/

/-- The last frame record is as it was, and each FREE slot is FREE still. -/
structure FillsNoSlot (s t : State) : Prop where
  last : t.intake.last = s.intake.last
  free : ∀ k, s.slot k = none → t.slot k = none

theorem FillsNoSlot.refl (s : State) : FillsNoSlot s s := ⟨rfl, fun _ => id⟩

theorem FillsNoSlot.trans {s t u : State} (h : FillsNoSlot s t) (h' : FillsNoSlot t u) : FillsNoSlot s u :=
  ⟨h'.last.trans h.last, fun k hk => h'.free k (h.free k hk)⟩

theorem FillsNoSlot.of_intake {s t : State} (h : t.intake = s.intake) : FillsNoSlot s t :=
  ⟨by rw [h], fun k hk => (slot_congr h k).trans hk⟩

theorem FillsNoSlot.intake {s t u : State} (h : FillsNoSlot s t) (h' : u.intake = t.intake) : FillsNoSlot s u :=
  h.trans (.of_intake h')

theorem FillsNoSlot.setSlot {s : State} (i : SlotId) (f : Slot → Slot) : FillsNoSlot s (s.setSlot i ((s.slot i).map f)) := by
  refine ⟨by cases i <;> rfl, fun k hk => ?_⟩
  by_cases h : k = i
  · rw [h, slot_setSlot, ← h, hk]
    rfl
  · rw [slot_setSlot_ne s _ h, hk]

theorem FillsNoSlot.releaseSlot (s : State) (i : SlotId) : FillsNoSlot s (s.releaseSlot i) := by
  refine ⟨by cases i <;> rfl, fun k hk => ?_⟩
  by_cases h : k = i
  · rw [h, slot_releaseSlot]
  · exact (show (s.releaseSlot i).slot k = (s.setSlot i none).slot k by cases i <;> cases k <;> rfl).trans
      ((slot_setSlot_ne s none h).trans hk)

variable {r s : State}

theorem FillsNoSlot.markFilling (h : FillsNoSlot r s) (t : Taker) : FillsNoSlot r (markFilling t s) := by
  unfold Machine.markFilling
  split
  · exact h
  · exact h.trans (.setSlot _ _)

theorem FillsNoSlot.freeValid (h : FillsNoSlot r s) (t : Taker) : FillsNoSlot r (freeValid t s) := by
  unfold Machine.freeValid
  generalize allSlots = l
  induction l generalizing s with
  | nil => exact h
  | cons i l ih =>
    rw [List.foldl_cons]
    refine ih ?_
    split
    · exact h.trans (.releaseSlot s i)
    · exact h

theorem FillsNoSlot.discardWaiting (h : FillsNoSlot r s) : FillsNoSlot r (discardWaiting s) :=
  (h.intake (by simp)).freeValid _

theorem FillsNoSlot.stopLadder (h : FillsNoSlot r s) (why : Stopping) : FillsNoSlot r (stopLadder why s) := by
  unfold Machine.stopLadder
  split
  · exact h
  · dsimp only
    split
    · exact h
    · split
      · exact h.intake (by simp)
      · exact h.intake (by simp)
      all_goals exact ((h.intake (by simp)).markFilling _).discardWaiting

theorem FillsNoSlot.cutExposure (h : FillsNoSlot r s) : FillsNoSlot r (cutExposure s) := by
  unfold Machine.cutExposure
  split
  · split
    all_goals exact (h.intake (by simp)).markFilling _
  · exact h.intake (by simp)

theorem FillsNoSlot.closeCal (h : FillsNoSlot r s) : FillsNoSlot r (closeCal s) := h.intake (by simp)
theorem FillsNoSlot.endHome (h : FillsNoSlot r s) (result : HomeResult) (kind : Option FaultKind) : FillsNoSlot r (endHome result kind s) :=
  h.intake (by simp)
theorem FillsNoSlot.haltTile (h : FillsNoSlot r s) : FillsNoSlot r (haltTile s) := h.intake (by simp)
theorem FillsNoSlot.postNotice (h : FillsNoSlot r s) (n : Notice) : FillsNoSlot r (postNotice n s) := h.intake (by simp)

theorem FillsNoSlot.failCal (h : FillsNoSlot r s) (why : CalFailure) : FillsNoSlot r (failCal why s) := by
  unfold Machine.failCal
  split
  · exact h
  · split
    · exact h
    · exact FillsNoSlot.closeCal (FillsNoSlot.freeValid (FillsNoSlot.markFilling (h.intake (by simp)) _) _)

theorem FillsNoSlot.halt (h : FillsNoSlot r s) (kind : FaultKind) (injected : Bool) : FillsNoSlot r (halt kind injected s) := by
  have hcut : FillsNoSlot r (stopBudget (sendStop (Machine.cutExposure s))) := h.cutExposure.intake (by simp)
  unfold Machine.halt
  split
  · exact h
  · dsimp only
    refine FillsNoSlot.endHome (FillsNoSlot.failCal (FillsNoSlot.haltTile (FillsNoSlot.postNotice (FillsNoSlot.stopLadder ?_ _) _)) _) _ _
    generalize stopBudget (sendStop (Machine.cutExposure s)) = t at hcut
    exact ⟨hcut.last, hcut.free⟩

theorem FillsNoSlot.haltNext (h : FillsNoSlot r s) : FillsNoSlot r (haltNext s) := by
  unfold Machine.haltNext
  split
  · exact h
  · refine FillsNoSlot.halt ?_ _ _
    exact h.intake rfl

theorem FillsNoSlot.takeAhead (h : FillsNoSlot r s) : FillsNoSlot r (takeAhead s) := by
  unfold Machine.takeAhead
  split
  · exact h
  · dsimp only
    split
    · exact h.intake rfl
    · exact h.intake (by simp)
    · exact (h.intake (by simp)).haltNext

theorem FillsNoSlot.restart (h : FillsNoSlot r s) (policy : Bool) : FillsNoSlot r (restart policy s) := by
  unfold Machine.restart
  dsimp only
  split
  all_goals exact h.discardWaiting.intake (by simp)

theorem FillsNoSlot.loseRung (h : FillsNoSlot r s) (rung started : Nat) : FillsNoSlot r (loseRung rung started s) := by
  unfold Machine.loseRung
  split
  · exact h
  · exact FillsNoSlot.intake (FillsNoSlot.takeAhead (h.intake (by simp))) (mapLadder_frame _ _).2.2.2.1

theorem FillsNoSlot.decideFailure (h : FillsNoSlot r s) (bankFault : Bool) (n a started : Nat) :
    FillsNoSlot r (decideFailure bankFault n a started s) := by
  unfold Machine.decideFailure
  split
  · split
    · exact h.restart false
    · split
      · exact h
      · split
        · exact h.restart true
        · split
          · exact h.intake (by simp)
          · exact h.loseRung n started
  · exact h

theorem FillsNoSlot.takeGuards (h : FillsNoSlot r s) (n : Nat) : FillsNoSlot r (takeGuards n s) := by
  induction n generalizing s with
  | zero => exact h
  | succ n ih =>
    unfold Machine.takeGuards
    split
    · exact h
    · exact h
    · split
      · exact ih (h.takeAhead.intake (by simp))
      · exact h

theorem FillsNoSlot.progressOn (h : FillsNoSlot r s) : FillsNoSlot r (progressOn s) := (h.intake (by simp)).takeGuards _

theorem FillsNoSlot.calFrameFailed (h : FillsNoSlot r s) : FillsNoSlot r (calFrameFailed s) := by
  unfold Machine.calFrameFailed
  split
  · exact h
  · dsimp only
    split
    · exact h.intake (by simp)
    · split
      · exact h.intake (by simp)
      · exact (h.intake (by simp)).failCal .frames

/-- After a frame's slot is dropped, what the taker does fills no slot. -/
theorem frameFailed_fillsNoSlot (i : SlotId) (d : Slot) (kind : FaultKind) (verdict : FrameVerdict) (s : State) :
    FillsNoSlot (dropFrame i d verdict s) (frameFailed i d kind verdict s) := by
  have h : FillsNoSlot (dropFrame i d verdict s) (raiseFault kind (s.frameCtx d) (dropFrame i d verdict s)) := .of_intake (by simp)
  unfold frameFailed
  dsimp only
  split
  · exact FillsNoSlot.progressOn (FillsNoSlot.decideFailure (FillsNoSlot.intake h.takeAhead (by simp)) _ _ _ _)
  · exact h.calFrameFailed

theorem frameDiscarded_fillsNoSlot (i : SlotId) (d : Slot) (s : State) :
    FillsNoSlot (dropFrame i d .discarded s) (frameDiscarded i d s) := by
  have h := FillsNoSlot.refl (dropFrame i d .discarded s)
  unfold frameDiscarded
  dsimp only
  split
  · exact FillsNoSlot.progressOn (h.intake (by simp))
  · exact h.intake (by simp)

end Sys2Proof.Machine
end

section
/-! FRAME_START, FRAME_LINE and FRAME_END line by line (R83, R86, R87, R93); O36. -/
namespace Sys2Proof.Machine
open Sys2Proof

theorem awaiting_eq_some {s : State} {i : SlotId} {d : Slot} (hi : s.fillingSlot = some i) (hd : s.slot i = some d)
    (hr : d.reception = .notStarted) (hl : s.lamps.line = none) (hnow : s.now < d.deadline) : s.awaiting = some i := by
  simp [State.awaiting, hi, hd, hr, hl, hnow]

theorem awaiting_eq_none {s : State} (h : s.fillingSlot = none ∨ s.lamps.line ≠ none) : s.awaiting = none := by
  rcases h with h | h
  · simp [State.awaiting, h]
  · rw [State.awaiting, Option.filter_eq_none_iff]
    intro i _
    cases s.slot i <;> simp [h]

/-- The awaited frame starts. -/
theorem startFrame_awaited {s : State} {i : SlotId} {d : Slot} (ha : s.awaiting = some i) (hd : s.slot i = some d) :
    startFrame s = { s.setSlot i (some { d with reception := .receiving }) with intake.rx := .receiving i } := by
  rw [startFrame, ha]
  dsimp only
  rw [hd, Option.map_some]

theorem startFrame_stray {s : State} (ha : s.awaiting = none) :
    startFrame s = { s with intake.discarded := min 65535 (s.intake.discarded + 1), intake.rx := .discarding } := by
  rw [startFrame, ha]
  rfl

theorem exec_frameStart_idle {s : State} (h : s.intake.rx ∈ [LinkRx.idle, .discarding]) : exec .frameStart s = .next (startFrame s) := by
  change execFrameStart s = _
  rw [execFrameStart]
  rcases List.mem_pair.mp h with h | h <;> rw [h]

theorem exec_frameStart_released {s : State} (h : s.intake.rx = .released) :
    exec .frameStart s = .next (startFrame { s with intake.discarded := min 65535 (s.intake.discarded + 1) }) := by
  change execFrameStart s = _
  rw [execFrameStart, h]
  rfl

/-! ### Lines -/

theorem exec_frameLine {s : State} {i : SlotId} {d : Slot} (hrx : s.intake.rx = .receiving i) (hd : s.slot i = some d) (samples : List Sample) :
    exec (.frameLine samples) s = .next (s.setSlot i (some (takeLine samples d))) := by
  change execFrameLine samples s = _
  rw [execFrameLine, hrx]
  dsimp only
  rw [hd, Option.map_some]

/-- The clipped samples of a window's columns, counted on the line as it came. -/
theorem filter_window_length {samples : List Sample} {x0 w c : Nat} (h : x0 + w ≤ (samples.drop 16).length) :
    ((((samples.drop 16).drop x0).take w).filter fun p => decide (c ≤ p.toNat)).length
      = ((List.range w).filter fun k => decide (c ≤ (samples.getD (16 + x0 + k) 0#12).toNat)).length := by
  have hlist : ((samples.drop 16).drop x0).take w = (List.range w).map fun k => samples.getD (16 + x0 + k) 0#12 := by
    refine List.ext_getElem (by simp only [List.length_take, List.length_drop, List.length_map, List.length_range] at h ⊢; omega) fun k hk _ => ?_
    simp only [List.length_take, List.length_drop] at hk h
    simp only [List.getElem_take, List.getElem_drop, List.getElem_map, List.getElem_range]
    rw [List.getD_eq_getElem _ _ (by omega)]
    congr 1
    omega
  rw [hlist, List.filter_map, List.length_map]
  rfl

theorem takeLine_whole {samples : List Sample} {d : Slot} (hlen : samples.length = 4112) (hl : d.lines < 3072)
    (hw : d.window.x0 + d.window.w ≤ 4096) : takeLine samples d = { d with
      lines := d.lines + 1
      refSum := d.refSum + ((samples.take 16).map BitVec.toNat).sum
      clipped := (if d.taker = .ladder then
          d.clipped + (if d.window.y0 ≤ d.lines ∧ d.lines < d.window.y0 + d.window.h then
              ((List.range d.window.w).filter fun k => decide (d.c ≤ (samples.getD (16 + d.window.x0 + k) 0#12).toNat)).length
            else 0)
        else 0)
      pixels := d.pixels ++ [samples.drop 16] } := by
  have hactive : (samples.drop Config.refSamples).take Config.sensorCols = samples.drop 16 :=
    List.take_of_length_le (by rw [List.length_drop, hlen]; decide)
  have hlines : satAdd 65535 d.lines 1 = d.lines + 1 := Nat.min_eq_right (by omega)
  have hshort : decide (samples.length ≠ Config.lineSamples) = false := decide_eq_false (not_not_intro hlen)
  have hclipped : clippedIn d.window d.c d.lines (samples.drop 16)
      = if d.window.y0 ≤ d.lines ∧ d.lines < d.window.y0 + d.window.h then
          ((List.range d.window.w).filter fun k => decide (d.c ≤ (samples.getD (16 + d.window.x0 + k) 0#12).toNat)).length
        else 0 := by
    simp only [clippedIn, Window.hasLine, decide_eq_true_eq]
    rw [filter_window_length (by rw [List.length_drop, hlen]; exact hw)]
  rw [takeLine, if_pos (show d.lines < Config.sensorLines from hl)]
  dsimp only
  rw [hactive, hlines, hshort, hclipped, Bool.or_false]
  cases ht : d.taker
  · rw [if_pos rfl]
    rfl
  · rw [if_neg (show ¬ Taker.calibration = .ladder by decide)]
    rfl

/-- Settles O36. -/
theorem framesAreReceivedLineByLine : Obligations.FramesAreReceivedLineByLine := by
  refine ⟨?awaited, ?stray, ?breaks, fun s => ⟨fun h => ?released, fun h => ?discarding, fun h => ?idle⟩, ?line, ?short, ?beyond, ?other⟩
  case awaited =>
    intro s i d ended hrx hi hd hr hl hnow
    rcases hrx with ⟨hrx, hended⟩ | ⟨hrx, hended⟩
    · rw [exec_frameStart_idle hrx, startFrame_awaited (awaiting_eq_some hi hd hr hl hnow) hd, hended]
      cases i <;> rfl
    · let u : State := { s with intake.discarded := min 65535 (s.intake.discarded + 1) }
      have hud : u.slot i = some d := by cases i <;> exact hd
      have hui : u.fillingSlot = some i := hi
      rw [exec_frameStart_released hrx, startFrame_awaited (s := u) (awaiting_eq_some hui hud hr hl hnow) hud, hended]
      cases i <;> rfl
  case stray =>
    intro s ended hrx h
    rcases hrx with ⟨hrx, rfl⟩ | ⟨hrx, rfl⟩
    · rw [exec_frameStart_idle hrx, startFrame_stray (awaiting_eq_none h)]
    · have hnone : ({ s with intake.discarded := min 65535 (s.intake.discarded + 1) } : State).awaiting = none := awaiting_eq_none h
      rw [exec_frameStart_released hrx, startFrame_stray hnone]
      have hcount : min 65535 (min 65535 (s.intake.discarded + 1) + 1) = min 65535 (s.intake.discarded + 1 + 1) := by omega
      dsimp only
      rw [hcount]
  case breaks =>
    intro s i d hrx hd
    let u : State := { s with intake.rx := .idle }
    have hud : u.slot i = some d := by cases i <;> exact hd
    let verdict : FrameVerdict := if d.discard then .discarded else .frameShort
    have hkept : FillsNoSlot (dropFrame i d verdict u) (judgeFrame i true u) ∧ (judgeFrame i true u).intake.discarded = u.intake.discarded := by
      rw [judgeFrame_eq hud]
      by_cases hm : d.discard = true
      · rw [if_pos hm]
        simp only [verdict, if_pos hm]
        exact ⟨frameDiscarded_fillsNoSlot i d u, by simp⟩
      · rw [if_neg hm, Bool.true_or, if_pos rfl]
        simp only [verdict, if_neg hm]
        exact ⟨frameFailed_fillsNoSlot i d .frameShort .frameShort u, by simp⟩
    obtain ⟨⟨hlast, hfree⟩, hdisc⟩ := hkept
    have hslot : (dropFrame i d verdict u).slot i = none := by cases i <;> rfl
    have hcount : (countStray (judgeFrame i true u)).slot i = (judgeFrame i true u).slot i := by cases i <;> rfl
    refine ⟨_, exec_frameStart_breaks hrx, hcount.trans (hfree i hslot), rfl, ?_, ?_⟩
    · exact congrArg (fun n => min 65535 (n + 1)) hdisc
    · refine Eq.trans hlast ?_
      simp only [dropFrame, noteFrame, Slot.rungOf, State.tag]
      cases d.taker <;> cases i <;> rfl
  case released =>
    change execFrameEnd s = _
    rw [execFrameEnd, h]
    rfl
  case discarding =>
    change execFrameEnd s = _
    rw [execFrameEnd, h]
  case idle =>
    change execFrameEnd s = _
    rw [execFrameEnd, h]
  case line =>
    intro s i d samples hrx hd hlen hl hw
    rw [exec_frameLine hrx hd, takeLine_whole hlen hl hw]
  case short =>
    intro s t i d samples hrx hd hlen hl ht
    rw [exec_frameLine hrx hd] at ht
    obtain rfl := Host.Outcome.next.inj ht
    refine ⟨takeLine samples d, slot_setSlot .., ?_, ?_⟩
    · rw [takeLine, if_pos (show d.lines < Config.sensorLines from hl)]
      exact Bool.or_eq_true_iff.mpr (.inr (decide_eq_true hlen))
    · rw [takeLine, if_pos (show d.lines < Config.sensorLines from hl)]
      exact Nat.min_eq_right (by omega)
  case beyond =>
    intro s i d samples hrx hd hl
    rw [exec_frameLine hrx hd, takeLine, if_neg (show ¬ d.lines < Config.sensorLines from Nat.not_lt.mpr hl)]
    rfl
  case other =>
    intro s samples hrx
    change execFrameLine samples s = _
    rw [execFrameLine]
    simp only [List.mem_cons, List.not_mem_nil, or_false] at hrx
    rcases hrx with h | h | h <;> rw [h]

end Sys2Proof.Machine
end

section
/-! PROOFS. The obligation about frame verdicts (R56, R61, R63, R88 to R92, log 68) is refuted: the HALTED notice of an escalation let come before
the ladder goes on after a lost rung can be the third notice of its step, behind the COUNTER notice of RUNGS_LOST and the FAULT notice. -/

namespace Sys2Proof.Machine

open Sys2Proof

/-- The job whose rung is lost: one attempt is allowed. -/
def lostRungJob : JobInHand :=
  { number := 1, started := 0
    record := { plateId := [80#8], slot := 1, formatClass := 3, rows := 3, cols := 5, originX := 12000, originY := 8000, stepX := 60000
                stepY := 45000, fieldX := 64000, fieldY := 48000, walk := .serpentine, firstRung := 0, lastRung := 7, maxExtensions := 1
                underLimit := 500, overLimit := 500, retryCount := 0, retryBank1 := .same, retryBank2 := .same, bankPref := .aOnly
                budgetS := some 60, attention := 63#6, attentionDefaulted := true, stopOnAttention := false, notifyQuiet := false
                window := ⟨0, 0, 64, 64⟩, windowDefaulted := false, useZones := false } }

def lostRungFlight : Flight := ⟨.s1, 0, 1, .awaited, 0⟩

/-- Its ladder, with the frame of rung 0's only attempt awaited. -/
def lostRungLadder : Ladder :=
  { freshLadder lostRungJob.record ⟨.a, 7, 0, 7⟩ false 3968 24 with due := none, inFlight := [lostRungFlight] }

def lostRungTile : Tile := ⟨0, 0, 0, .ladder, 0, true, some .p1⟩

/-- The slot of that frame, its deadline at time 0. -/
def lostRungSlot : Slot := { freshSlot .ladder 0 1 lostRungJob.record.window 3968 0 State.reset with deadline := 0 }

/-- The frame is at its deadline, RUNG_LOST is FATAL and let halt the pass, RUNGS_LOST stands one below its half mark, and 30 notices are
queued. -/
def lostRungState : State :=
  { State.reset.setKind .rungLost { State.reset.kind .rungLost with severity := .fatal } with
    faults.ahead := [.no, .halted]
    pass := { resetPass with state := .walking, job := some lostRungJob, plate := .onTable, tile := some lostRungTile }
    ladder := some lostRungLadder
    intake.s1 := some lostRungSlot
    stats.counters := State.reset.stats.counters.set CounterId.rungsLost.index ⟨2147483647, .armed, .armed⟩
    link.notices := List.replicate 30 ⟨false, .counter .rungsLost false 0 0⟩ }

/-- What the machine makes of the frame's deadline there: the two notices before it fill the queue, and HALTED is dropped. -/
theorem lostRungState_drops_halted :
    (match exec .frameDeadline lostRungState with
      | .next t => some (t.pass.state, t.link.notices.map (fun n => n.notice), t.link.dropped)
      | _ => none)
      = some (.halted, List.replicate 30 (.counter .rungsLost false 0 0) ++ [.counter .rungsLost false 2147483648 0,
          .fault .rungLost .fatal 1 ⟨⟨some (1, [80#8]), some (0, 0), some (0, 1), some .a⟩, 0, false⟩ .filled], true) := by
  decide

/-- The state meets what RUNG_LOST's clause asks of the ladder, and of the sender. -/
theorem lostRungState_meets :
    lostRungState.fillingSlot = some .s1 ∧ lostRungState.slot .s1 = some lostRungSlot ∧ lostRungState.flightAt .s1 = some lostRungFlight
      ∧ EscalatesFirst { lostRungState with faults.ahead := lostRungState.faults.ahead.tail } .rungLost
      ∧ lostRungState.link.notices.length ≤ 30 :=
  ⟨by decide, rfl, by decide, ⟨rfl, rfl, by decide, by decide⟩, by decide⟩

/-- Refutes O37: RUNG_LOST's clause has HaltedFirst promise the HALTED notice with up to 30 notices queued, one FAULT notice being all that
comes before it elsewhere; here RUNGS_LOST's COUNTER notice comes before both, and with 30 queued HALTED is dropped. -/
theorem not_frameVerdictsDecideTheRung : ¬ Obligations.FrameVerdictsDecideTheRung := by
  intro h
  obtain ⟨hfilling, hslot, hflight, hahead, hroom⟩ := lostRungState_meets
  obtain ⟨-, hfails, -⟩ := h lostRungState .s1 lostRungSlot lostRungLadder lostRungJob lostRungFlight hfilling hslot rfl rfl rfl rfl rfl
    hflight rfl rfl
  obtain ⟨-, -, hhalts⟩ := hfails .frameTimeout .frameTimeout .frameDeadline (.inr (.inr ⟨rfl, rfl, rfl, Nat.le_refl 0⟩)) rfl
  obtain ⟨t, m, hexec, ⟨-, -, -, -, -, hnotice⟩, -⟩ :=
    (hhalts lostRungTile rfl (by decide)).2 rfl hahead (by decide) (by decide)
  have hmem := hnotice hroom
  have hrun := lostRungState_drops_halted
  simp only [hexec, Option.some.injEq, Prod.mk.injEq] at hrun
  rw [hrun.2.1] at hmem
  simp at hmem

end Sys2Proof.Machine
end

section
/-! What the pass controller writes down: notices that join the link, tile records, the closing of the walk and the record of the tile in hand
(R29, R31, R32, R155, R157, R162). -/
namespace Sys2Proof.Machine
open Sys2Proof

/-! ### A link on which notices are posted -/

/-- `l'` is `l` after some notices have been posted. -/
def Link.PostsTo (l l' : Link) : Prop := ∃ ns : List Notice, l' = ns.foldl Link.posted l

theorem Link.PostsTo.refl (l : Link) : l.PostsTo l := ⟨[], rfl⟩

theorem Link.PostsTo.trans {l m n : Link} (h : l.PostsTo m) (h' : m.PostsTo n) : l.PostsTo n := by
  obtain ⟨ns, rfl⟩ := h
  obtain ⟨ms, rfl⟩ := h'
  exact ⟨ns ++ ms, List.foldl_append.symm⟩

theorem Link.PostsTo.posts (l : Link) (ns : List Notice) : l.PostsTo (ns.foldl Link.posted l) := ⟨ns, rfl⟩

theorem Link.PostsTo.posted (l : Link) (n : Notice) : l.PostsTo (l.posted n) := ⟨[n], rfl⟩

theorem Link.posted_notices_prefix (l : Link) (n : Notice) : l.notices <+: (l.posted n).notices := by
  unfold Link.posted
  split
  · exact List.prefix_append _ _
  · exact List.prefix_rfl

/-- What is queued stays queued. -/
theorem Link.PostsTo.keeps {l l' : Link} (h : l.PostsTo l') : l.notices <+: l'.notices := by
  obtain ⟨ns, rfl⟩ := h
  induction ns generalizing l with
  | nil => exact List.prefix_rfl
  | cons n ns ih => exact (l.posted_notices_prefix n).trans ih

/-- Posting reaches the notices and the dropped-notice mark alone. -/
theorem Link.PostsTo.rest {l l' : Link} (h : l.PostsTo l') :
    l'.state = l.state ∧ l'.intake = l.intake ∧ l'.replies = l.replies ∧ l'.pipe = l.pipe ∧ l'.cause = l.cause := by
  obtain ⟨ns, rfl⟩ := h
  induction ns generalizing l with
  | nil => exact ⟨rfl, rfl, rfl, rfl, rfl⟩
  | cons n ns ih =>
    rw [List.foldl_cons]
    simpa using ih (l := l.posted n)

theorem Link.posted_length (l : Link) (n : Notice) : (l.posted n).notices.length ≤ l.notices.length + 1 := by
  unfold Link.posted
  split <;> simp

/-- A notice posted while the queue has room is queued from then on. -/
theorem Link.PostsTo.mem {l l' : Link} {n : Notice} (h : (l.posted n).PostsTo l') (hroom : l.notices.length < 32) :
    n ∈ l'.notices.map fun q => q.notice := by
  refine List.mem_map.mpr ⟨⟨l.dropped, n⟩, h.keeps.subset ?_, rfl⟩
  rw [Link.posted_room n hroom]
  exact List.mem_append_right _ (List.mem_singleton_self _)

/-! ### Records -/

/-- What the writing of tile records changes outside the pass: the log, the station's counters, the link. -/
structure Notes where
  records : List TileRecord
  newest : Nat
  readMark : Nat
  counters : List Counter
  link : Link

def State.noted (s : State) (n : Notes) : State :=
  { s with out.records := n.records, out.newest := n.newest, out.readMark := n.readMark, stats.counters := n.counters, link := n.link }

/-- All that a record does; it is the newest of the log. -/
theorem writeRecord_notes (r : TileRecord) (quiet : Bool) (s : State) :
    ∃ n : Notes, s.link.PostsTo n.link ∧ n.newest = (s.out.newest + 1) % 4294967296
      ∧ n.records.getLast? = some { r with sequence := (s.out.newest + 1) % 4294967296 }
      ∧ writeRecord r quiet s = { s with pass.counts := s.pass.counts.count r }.noted n := by
  generalize hn : (s.out.newest + 1) % 4294967296 = newest
  generalize hu : s.unread = unread
  have hjoin : s.link.PostsTo (s.recordJoined r quiet newest unread).link := .posts _ _
  have hlast : (s.recordJoined r quiet newest unread).out.records.getLast? = some { r with sequence := newest } := List.getLast?_concat
  rw [writeRecord_eq, countStatus_eq, hn, hu]
  cases r.status.counter with
  | none =>
    exact ⟨⟨(s.recordJoined r quiet newest unread).out.records, newest, (s.recordJoined r quiet newest unread).out.readMark,
      s.stats.counters, (s.recordJoined r quiet newest unread).link⟩, hjoin, rfl, hlast, rfl⟩
  | some c =>
    dsimp only
    rw [addCounter_eq]
    exact ⟨⟨(s.recordJoined r quiet newest unread).out.records, newest, (s.recordJoined r quiet newest unread).out.readMark, _, _⟩,
      hjoin.trans (.posts _ _), rfl, hlast, rfl⟩

/-- The counts once `k` more tiles are NOT_CAPTURED. -/
def RecordCounts.missed (c : RecordCounts) (k : Nat) : RecordCounts := { c with notCaptured := c.notCaptured + k }

/-- The notes of a state as they stand. -/
def State.notes (s : State) : Notes := ⟨s.out.records, s.out.newest, s.out.readMark, s.stats.counters, s.link⟩

theorem recordUndecided_foldl_notes (j : JobInHand) (l : List Nat) (s : State) :
    ∃ n : Notes, s.link.PostsTo n.link
      ∧ l.foldl (recordUndecided j) s = { s with pass.counts := s.pass.counts.missed l.length }.noted n := by
  induction l generalizing s with
  | nil => exact ⟨s.notes, .refl _, rfl⟩
  | cons o os ih =>
    obtain ⟨n, hn, -, -, hwrite⟩ := writeRecord_notes
      (plainRecord j (j.record.cell o).1 (j.record.cell o).2 o .notCaptured none s.tag s.tag) j.record.notifyQuiet s
    obtain ⟨m, hm, hrest⟩ := ih (recordUndecided j s o)
    have hone : recordUndecided j s o = { s with pass.counts := s.pass.counts.missed 1 }.noted n := hwrite
    rw [hone] at hm
    refine ⟨m, hn.trans hm, ?_⟩
    rw [List.foldl_cons, hrest, hone]
    simp only [State.noted, RecordCounts.missed, List.length_cons, Nat.add_assoc, Nat.add_comm 1]

/-! ### The closing of the walk (R32) -/

/-- The pass once the walk of its job is closed. -/
def Pass.closed (p : Pass) (total : Nat) : Pass := { p with walkPos := total, counts := p.counts.missed (total - p.walkPos) }

/-- The walk of a plate that was loaded is closed: each undecided tile gets its NOT_CAPTURED record. -/
theorem closeWalk_notes {s : State} {j : JobInHand} (hj : s.pass.job = some j) (hp : s.pass.plate ≠ .notLoaded) :
    ∃ n : Notes, s.link.PostsTo n.link ∧ closeWalk s = { s with pass := s.pass.closed j.record.tiles }.noted n := by
  obtain ⟨n, hn, hfold⟩ :=
    recordUndecided_foldl_notes j (List.range' s.pass.walkPos (j.record.tiles - s.pass.walkPos)) s
  refine ⟨n, hn, ?_⟩
  rw [List.length_range'] at hfold
  unfold closeWalk
  rw [hj]
  dsimp only
  split
  · next h => exact absurd h hp
  · rw [hfold]
    rfl

/-- A walk that is complete is closed already. -/
theorem closeWalk_complete {s : State} {j : JobInHand} (hj : s.pass.job = some j) (hw : s.pass.walkPos = j.record.tiles) :
    closeWalk s = s := by
  obtain ⟨queue, pass, rest⟩ := s
  obtain ⟨st, job, plate, loadIssued, bank, banksUsed, walkPos, prest⟩ := pass
  obtain rfl : job = some j := hj
  obtain rfl : walkPos = j.record.tiles := hw
  cases plate <;> simp [closeWalk]

/-! ### The plane of the tile in hand, and its record (R31, R96) -/

/-- The planes once the one a tile holds is freed. -/
def Merge.freed (m : Merge) : Option PlaneId → Merge
  | none => m
  | some .p1 => { m with p1 := none }
  | some .p2 => { m with p2 := none }

theorem plane_freed {s t : State} {o : Option PlaneId} (h : t.merge = s.merge.freed o) (k : PlaneId) :
    t.plane k = if o = some k then none else s.plane k := by
  cases o with
  | none => exact plane_congr h k
  | some i => cases i <;> cases k <;> simp [State.plane, h, Merge.freed]

theorem freeTilePlane_eq {s : State} {t : Tile} (ht : s.pass.tile = some t) :
    freeTilePlane s = { s with merge := s.merge.freed t.plane, pass.tile := some { t with plane := none } } := by
  obtain ⟨row, col, ordinal, phase, started, moveDone, plane⟩ := t
  unfold freeTilePlane
  rw [ht]
  cases plane with
  | none => simp only [Merge.freed, ← ht]
  | some i => cases i <;> rfl

/-- The NOT_CAPTURED record of a tile in hand. -/
def State.missedRecord (s : State) (j : JobInHand) (t : Tile) : TileRecord :=
  plainRecord j t.row t.col t.ordinal .notCaptured (s.ladder.map fun l => l.fields.shown) t.started s.time.count

/-- The pass once the tile in hand is recorded NOT_CAPTURED. -/
def Pass.withoutTile (p : Pass) : Pass := { p with tile := none, settle := none, counts := p.counts.missed 1 }

theorem recordTile_notes {s : State} {j : JobInHand} {t : Tile} (hj : s.pass.job = some j) (ht : s.pass.tile = some t) :
    ∃ n : Notes, s.link.PostsTo n.link ∧ n.newest = (s.out.newest + 1) % 4294967296
      ∧ n.records.getLast? = some { s.missedRecord j t with sequence := (s.out.newest + 1) % 4294967296 }
      ∧ recordTile s = { s with merge := s.merge.freed t.plane, ladder := none, pass := s.pass.withoutTile }.noted n := by
  obtain ⟨n, hn, hnew, hlast, hwrite⟩ := writeRecord_notes (s.missedRecord j t) j.record.notifyQuiet
    { freeTilePlane s with pass.tile := none, pass.settle := none, ladder := none }
  rw [freeTilePlane_eq ht] at hn hnew hlast
  refine ⟨n, hn, hnew, hlast, ?_⟩
  have hrecord : recordTile s = writeRecord (s.missedRecord j t) j.record.notifyQuiet
      { freeTilePlane s with pass.tile := none, pass.settle := none, ladder := none } := by
    unfold recordTile
    rw [hj, ht]
    dsimp only
    rw [freeTilePlane_eq ht]
    rfl
  rw [hrecord, hwrite, freeTilePlane_eq ht]
  rfl

/-! ### The boundary of a walk that is complete (R28) -/

theorem tiles_eq (r : JobRecord) : r.tiles = r.rows * r.cols := rfl

/-- PAUSED as the boundary enters it. -/
def Pass.pausedAt (p : Pass) (point : ResumePoint) : Pass :=
  { p with
    state := .paused, pausePending := false, resumePoint := some point
    budget := if p.budget.state = .running then { p.budget with state := .suspended } else p.budget }

theorem enterPaused_eq (point : ResumePoint) (s : State) : enterPaused point s = { s with pass := s.pass.pausedAt point } := by
  unfold enterPaused Pass.pausedAt
  dsimp only
  split
  · next h => rw [if_pos h]
  · next h => rw [if_neg h]

/-- After the last tile the pass returns, or pauses first. -/
theorem boundary_complete {s : State} {j : JobInHand} (hstate : s.pass.state ≠ .halted) (hj : s.pass.job = some j)
    (hw : s.pass.walkPos = j.record.tiles) :
    boundary s = if s.pass.pausePending then { s with pass := s.pass.pausedAt .return } else enterReturning s := by
  have hloop : boundary s = boundaryLoop (j.record.tiles + 1) s := by
    unfold boundary
    split
    · next h => exact absurd h hstate
    · next h _ => exact nomatch hj.symm.trans h
    · next h _ => cases hj.symm.trans h; rfl
  have hmore : ¬ (s.pass.walkPos < j.record.tiles ∧ s.pass.mark = none) := fun h => by omega
  have hclosed : ¬ (s.pass.mark.isSome = true ∧ s.pass.walkPos < j.record.tiles) := fun h => by omega
  rw [hloop]
  unfold boundaryLoop
  rw [hj]
  dsimp only
  rw [if_neg hclosed, decide_eq_false hmore, enterPaused_eq]
  rfl

end Sys2Proof.Machine
end

section
/-! A job's end (R14, R16, R35, R129, R168, R182): what is written and what is left free. -/
namespace Sys2Proof.Machine
open Sys2Proof

/-! ### A recording, whatever the kinds' table holds (R178, R181, R182) -/

/-- The escalations once kind `k` has been recorded. -/
def State.escalationsAfter (s : State) (k : FaultKind) (injected : Bool) : List (FaultKind × Bool) :=
  s.faults.escalations ++ if (s.kind k).masked = false ∧ (s.kind k).severity = .fatal then [(k, injected)] else []

/-- A recording reaches the faults and, by one notice at most, the link. -/
theorem recordFault_writes (k : FaultKind) (fields : Ctx) (injected : Bool) (s : State) :
    ∃ (f : Faults) (ns : List Notice), ns.length ≤ 1
      ∧ (recordFault k fields injected s).1 = { s with faults := f, link := ns.foldl Link.posted s.link }
      ∧ f.raised = s.faults.raised ∧ f.ahead = s.faults.ahead ∧ f.jobMark = s.jobMarkAfter k
      ∧ f.escalations = s.escalationsAfter k injected := by
  unfold State.escalationsAfter
  cases hm : (s.kind k).masked with
  | true => exact ⟨_, [], Nat.zero_le 1, (congrArg Prod.fst (recordFault_masked hm fields injected)).trans (markSeen_eq k s), rfl, rfl, rfl,
      by simp⟩
  | false =>
    unfold recordFault
    simp only [hm, Bool.false_eq_true, if_false, takeSlot_eq, postNotice_ite, markSeen_eq]
    generalize hn : Notice.fault k _ _ _ _ = n
    clear hn
    generalize hc : State.notifies _ _ = b
    clear hc
    cases b with
    | false => cases (s.kind k).severity <;> exact ⟨_, [], Nat.zero_le 1, rfl, rfl, rfl, rfl, by simp [Faults.withSlot]⟩
    | true => cases (s.kind k).severity <;> exact ⟨_, [n], Nat.le_refl 1, rfl, rfl, rfl, rfl, by simp [Faults.withSlot]⟩

/-! ### The first fault (R16, R182) -/

/-- What is free of a recording before a job's end: which fault was the first, and what that leaves of the faults, the notices and the
draws. -/
structure FirstFault where
  first : Option FaultKind
  faults : Faults
  notices : List Notice
  drawn : Nat

/-- The first fault of the job that ends at `s`, the faults as they stand then. -/
structure FirstFault.Of (s : State) (x : FirstFault) : Prop where
  first : EndsWithFirstFault s.faults.jobMark s.faults.raised x.first x.faults.raised
  marked : ∀ k, s.faults.jobMark = some k → x.first = some k
  jobMark : x.faults.jobMark = none
  ahead : x.faults.ahead = s.faults.ahead
  kept : s.faults.jobMark ≠ none ∨ s.faults.raised = [] → x.faults = { s.faults with jobMark := none }
  notices : x.notices.length ≤ 1

theorem takeFirstFault_of (s : State) (hj : s.pass.job ≠ none) : ∃ x : FirstFault, x.Of s
    ∧ takeFirstFault s = (x.first, { s with faults := x.faults, link := x.notices.foldl Link.posted s.link, drawn := x.drawn }) := by
  unfold takeFirstFault recordBeforeEnd
  cases hm : s.faults.jobMark with
  | some k =>
    have hfirst : EndsWithFirstFault s.faults.jobMark s.faults.raised (some k) s.faults.raised := by
      rw [hm]
      exact ⟨rfl, rfl⟩
    exact ⟨⟨some k, { s.faults with jobMark := none }, [], s.drawn⟩,
      ⟨hfirst, fun _ h => hm.symm.trans h, rfl, rfl, fun _ => rfl, Nat.zero_le 1⟩, by simp [hm]⟩
  | none =>
    have hstands (d : Nat) : FirstFault.Of s ⟨none, { s.faults with jobMark := none }, [], d⟩ :=
      ⟨by rw [hm]; exact .inl ⟨rfl, rfl⟩, fun k h => (nomatch hm.symm.trans h), rfl, rfl, fun _ => rfl, Nat.zero_le 1⟩
    cases hr : s.faults.raised with
    | nil => exact ⟨_, hstands s.drawn, by simp [hm]⟩
    | cons r rs =>
      dsimp only
      split
      · exact ⟨_, hstands (s.drawn + 1), by simp [hm, State.draw]⟩
      · next n _ =>
        cases hn : s.draw.faults.raised[n]? with
        | none =>
          have hsame : takeRaised n s.draw = s.draw := by simp only [takeRaised, hn]
          exact ⟨_, hstands (s.drawn + 1), by rw [hsame]; simp [State.draw, hm]⟩
        | some q =>
          obtain ⟨f, ns, hns, hrec, hraised, hahead, hmark, -⟩ := recordFault_writes q.kind q.ctx false
            { s.draw with faults.raised := s.draw.faults.raised.eraseIdx n }
          have hseen : f.jobMark = some q.kind := hmark.trans (if_pos ⟨hj, hm⟩)
          refine ⟨⟨some q.kind, { f with jobMark := none }, ns, s.drawn + 1⟩,
            ⟨?_, fun k h => (nomatch hm.symm.trans h), rfl, hahead, ?_, hns⟩, ?_⟩
          · rw [hm]
            exact .inr ⟨n, q, hn, rfl, hraised⟩
          · rintro (h | h)
            · exact absurd hm h
            · exact nomatch hr.symm.trans h
          · rw [takeRaised_eq hn, hrec]
            simp only [hseen]
            rfl

/-! ### The job's end (R14, R35) -/

/-- The outcome of a job by its mark and its tile records. -/
theorem outcome_endsAs (s : State) : EndsAs s.pass.mark s.pass.counts s.outcome := by
  unfold EndsAs State.outcome
  rcases s.pass.mark with _ | m
  · rfl
  · cases m <;> rfl

/-- The flats once the age of each bank used has risen (R129). -/
def CalStore.aged (c : CalStore) (used : BankSet) : CalStore :=
  let older (f : Flat) : Flat := { f with data := f.data.map fun d => { d with record := { d.record with age := min 65535 (d.record.age + 1) } } }
  { c with flatA := if used.a then older c.flatA else c.flatA, flatB := if used.b then older c.flatB else c.flatB }

theorem ageFlats_eq (used : BankSet) (s : State) : ageFlats used s = { s with cal := s.cal.aged used } := by
  obtain ⟨a, b⟩ := used
  cases a <;> cases b <;> rfl

theorem countJobEnd_eq (outcome : JobOutcome) (s : State) : ∃ (counters : List Counter) (ns : List Notice),
    countJobEnd outcome s = { s with stats.counters := counters, link := ns.foldl Link.posted s.link }
      ∧ ∀ c, c ≠ .platesDone → c ≠ .platesFailed → (countJobEnd outcome s).counter c = s.counter c := by
  have hadd (k : CounterId) (hk : k = .platesDone ∨ k = .platesFailed) : ∃ (counters : List Counter) (ns : List Notice),
      addCounter k 1 s = { s with stats.counters := counters, link := ns.foldl Link.posted s.link }
        ∧ ∀ c, c ≠ .platesDone → c ≠ .platesFailed → (addCounter k 1 s).counter c = s.counter c :=
    ⟨_, _, addCounter_eq k 1 s, fun c hd hf => addCounter_counter_ne (by rcases hk with rfl | rfl <;> assumption) 1 s⟩
  cases outcome with
  | cancelled => exact ⟨s.stats.counters, [], rfl, fun _ _ _ => rfl⟩
  | done | doneDegraded => exact hadd .platesDone (.inl rfl)
  | failed | overtime | slotEmpty | noBank => exact hadd .platesFailed (.inr rfl)

/-- The histogram once a job that issued LOAD has ended (R168). -/
def HistState.frozenIf (h : HistState) (loadIssued : Bool) : HistState := if loadIssued = true ∧ h = .opened then .frozen else h

theorem freezeHistogram_eq (loadIssued : Bool) (s : State) :
    (if loadIssued then freezeHistogram s else s) = { s with stats.histState := s.stats.histState.frozenIf loadIssued } := by
  cases loadIssued with
  | false => rfl
  | true =>
    unfold HistState.frozenIf
    by_cases h : s.stats.histState = .opened
    · simp [freezeHistogram, h]
    · have hstays : freezeHistogram s = s := by
        unfold freezeHistogram
        split
        · next h' => exact absurd h' h
        all_goals rfl
      simp [hstays, h]

/-- What a job's end leaves free, besides its first fault: the two job counters and the notices. -/
structure JobEnd where
  fault : FirstFault
  counters : List Counter
  after : List Notice

/-- The state once the job `j` has ended. -/
def State.ended (s : State) (occupied : Bool) (j : JobInHand) (x : JobEnd) : State :=
  { s with
    queue :=
      { s.queue with
        history := (if s.queue.history.length < 8 then s.queue.history else s.queue.history.drop 1)
          ++ [s.entryOf j s.outcome x.fault.first]
        jobs := s.queue.jobs.filter fun q => decide (q.number ≠ j.number)
        run := runAfterJob occupied s.queue.run }
    pass := { resetPass with state := if s.pass.state = .halted then .halted else .idle, walkPos := s.pass.walkPos }
    cal := { s.cal.aged s.pass.banksUsed with staleSet := noBanks, raisedSet := noBanks }
    motion.expect := .none
    motion.waiting := s.motion.waiting.filter fun w => decide (w.requester ≠ .pass)
    faults := x.fault.faults
    drawn := x.fault.drawn
    stats.counters := x.counters
    stats.histState := s.stats.histState.frozenIf s.pass.loadIssued
    link := (x.fault.notices ++ .plateDone (s.entryOf j s.outcome x.fault.first) :: x.after).foldl Link.posted s.link }

/-- The queue's part of a job's end, before the counters'. -/
def State.filed (s : State) (occupied : Bool) (j : JobInHand) (x : FirstFault) : State :=
  { s with
    queue :=
      { s.queue with
        history := (if s.queue.history.length < 8 then s.queue.history else s.queue.history.drop 1)
          ++ [s.entryOf j s.outcome x.first]
        jobs := s.queue.jobs.filter fun q => decide (q.number ≠ j.number)
        run := runAfterJob occupied s.queue.run }
    faults := x.faults
    drawn := x.drawn
    link := (x.notices ++ [Notice.plateDone (s.entryOf j s.outcome x.first)]).foldl Link.posted s.link }

theorem endJob_filed {s : State} {j : JobInHand} (hj : s.pass.job = some j) (occupied : Bool) {x : FirstFault}
    (hx : takeFirstFault s
      = (x.first, { s with faults := x.faults, link := x.notices.foldl Link.posted s.link, drawn := x.drawn })) :
    endJob occupied s =
      let t := ageFlats s.pass.banksUsed (countJobEnd s.outcome (s.filed occupied j x))
      clearPass (if t.pass.loadIssued then freezeHistogram t else t) := by
  have hfile : { fileHistory (s.entryOf j s.outcome x.first)
        { s with faults := x.faults, link := x.notices.foldl Link.posted s.link, drawn := x.drawn } with
      queue.jobs := s.queue.jobs.filter fun q => decide (q.number ≠ j.number), queue.run := runAfterJob occupied s.queue.run }
      = s.filed occupied j x := by
    unfold fileHistory State.filed
    dsimp only
    rw [postNotice_eq, List.foldl_append]
    rfl
  rw [← hfile]
  unfold endJob
  rw [hj]
  dsimp only
  rw [hx]
  simp

/-- All that a job's end does. -/
theorem endJob_ends {s : State} {j : JobInHand} (hj : s.pass.job = some j) (occupied : Bool) :
    ∃ x : JobEnd, x.fault.Of s ∧ endJob occupied s = s.ended occupied j x
      ∧ ∀ c, c ≠ .platesDone → c ≠ .platesFailed → (endJob occupied s).counter c = s.counter c := by
  obtain ⟨x, hx, hfirst⟩ := takeFirstFault_of s (by rw [hj]; exact nofun)
  obtain ⟨counters, ns, hcount, hother⟩ := countJobEnd_eq s.outcome (s.filed occupied j x)
  have hpass : clearPass = fun t : State => { t with
      pass := { resetPass with state := if t.pass.state = .halted then .halted else .idle, walkPos := t.pass.walkPos }
      cal.staleSet := noBanks, cal.raisedSet := noBanks, motion.expect := .none
      motion.waiting := t.motion.waiting.filter fun w => decide (w.requester ≠ .pass) } := by
    funext t
    unfold clearPass
    dsimp only
    split
    · next h => rw [if_pos h]
    · next h => rw [if_neg h]
  have hend : endJob occupied s = s.ended occupied j ⟨x, counters, ns⟩ := by
    rw [endJob_filed hj occupied hfirst, hcount, hpass]
    dsimp only
    rw [freezeHistogram_eq, ageFlats_eq]
    simp only [State.ended, State.filed, List.foldl_append, List.foldl_cons, List.foldl_nil]
  refine ⟨⟨x, counters, ns⟩, hx, hend, fun c hd hf => ?_⟩
  rw [← (show (s.filed occupied j x).counter c = s.counter c from rfl), ← hother c hd hf, hend, hcount]
  rfl

end Sys2Proof.Machine
end

section
/-! The halt (R45, R76, R91, R126, R136, R141): what it writes, and what it leaves of the tile in hand. -/
namespace Sys2Proof.Machine
open Sys2Proof

/-! ### Slots marked and freed (R90, R91) -/

theorem fillingSlot_congr {s t : State}
    (h : ∀ k, ((t.slot k).any fun d => decide (d.state = .filling)) = (s.slot k).any fun d => decide (d.state = .filling)) :
    t.fillingSlot = s.fillingSlot := by
  unfold State.fillingSlot
  exact congrArg (List.find? · allSlots) (funext h)

/-- The slot once a discard mark has reached it, where its taker is `t`. -/
def Slot.markedFor (t : Taker) (d : Slot) : Slot := if d.taker = t then { d with discard := true } else d

theorem Slot.markedFor_state (t : Taker) (d : Slot) : (d.markedFor t).state = d.state := by
  unfold Slot.markedFor
  split <;> rfl

theorem Slot.markedFor_taker (t : Taker) (d : Slot) : (d.markedFor t).taker = d.taker := by
  unfold Slot.markedFor
  split <;> rfl

theorem slot_markFilling (t : Taker) (s : State) (k : SlotId) :
    (markFilling t s).slot k = if s.fillingSlot = some k then (s.slot k).map (Slot.markedFor t) else s.slot k := by
  unfold markFilling
  split
  · next h => rw [h, if_neg nofun]
  · next i h =>
    by_cases hk : k = i
    · rw [hk, slot_setSlot, h, if_pos rfl]
      rfl
    · rw [slot_setSlot_ne s _ hk, h, if_neg (by simpa using Ne.symm hk)]

theorem markFilling_fillingSlot (t : Taker) (s : State) : (markFilling t s).fillingSlot = s.fillingSlot := by
  refine fillingSlot_congr fun k => ?_
  rw [slot_markFilling]
  split
  · cases s.slot k with
    | none => rfl
    | some d => simp only [Option.map_some, Option.any_some, Slot.markedFor_state]
  · rfl

theorem markFilling_intake (t : Taker) (s : State) : markFilling t s = { s with intake := (markFilling t s).intake } := by
  unfold markFilling
  split
  · rfl
  · next i _ => cases i <;> rfl

/-- A VALID slot of the taker. -/
def State.validFor (s : State) (t : Taker) (k : SlotId) : Bool := (s.slot k).any fun d => decide (d.state = .valid ∧ d.taker = t)

theorem slot_releaseSlot_ne (s : State) {i k : SlotId} (h : k ≠ i) : (s.releaseSlot i).slot k = s.slot k :=
  (show (s.releaseSlot i).slot k = (s.setSlot i none).slot k by cases i <;> cases k <;> rfl).trans (slot_setSlot_ne s none h)

theorem slot_freeValid (t : Taker) (s : State) (k : SlotId) :
    (freeValid t s).slot k = if s.validFor t k then none else s.slot k := by
  have hstep (s : State) (i : SlotId) : (if s.validFor t i then s.releaseSlot i else s).slot k
      = if k = i ∧ s.validFor t i = true then none else s.slot k := by
    by_cases hv : s.validFor t i = true
    · rw [if_pos hv]
      by_cases hk : k = i
      · rw [if_pos ⟨hk, hv⟩, hk, slot_releaseSlot]
      · rw [if_neg fun h => hk h.1, slot_releaseSlot_ne s hk]
    · rw [if_neg hv, if_neg fun h => hv h.2]
  have hvalid (s : State) (i : SlotId) (h : k ≠ i) :
      (if s.validFor t i then s.releaseSlot i else s).validFor t k = s.validFor t k := by
    unfold State.validFor at hstep ⊢
    rw [hstep, if_neg fun hk => h hk.1]
  change (allSlots.foldl (fun s i => if s.validFor t i then s.releaseSlot i else s) s).slot k = _
  simp only [allSlots, List.foldl_cons, List.foldl_nil]
  rw [hstep]
  cases k with
  | s1 => rw [if_neg (by simp), hstep]; simp
  | s2 =>
    rw [hvalid s .s1 (by simp), hstep]
    simp

theorem freeValid_intake (t : Taker) (s : State) : freeValid t s = { s with intake := (freeValid t s).intake } := by
  have hstep (s : State) (i : SlotId) : ∃ x : Intake, (if s.validFor t i then s.releaseSlot i else s) = { s with intake := x } := by
    split
    · exact ⟨(s.releaseSlot i).intake, by cases i <;> rfl⟩
    · exact ⟨s.intake, rfl⟩
  change allSlots.foldl (fun s i => if s.validFor t i then s.releaseSlot i else s) s
    = { s with intake := (allSlots.foldl (fun s i => if s.validFor t i then s.releaseSlot i else s) s).intake }
  simp only [allSlots, List.foldl_cons, List.foldl_nil]
  obtain ⟨x, hx⟩ := hstep s .s1
  rw [hx]
  obtain ⟨y, hy⟩ := hstep { s with intake := x } .s2
  rw [hy]

theorem freeValid_fillingSlot (t : Taker) (s : State) : (freeValid t s).fillingSlot = s.fillingSlot := by
  refine fillingSlot_congr fun k => ?_
  rw [slot_freeValid]
  unfold State.validFor
  cases s.slot k with
  | none => simp
  | some d =>
    by_cases hd : d.state = .valid ∧ d.taker = t
    · simp [hd]
    · simp [hd]

/-! ### A ladder that is stopped (R68, R91) -/

/-- A ladder once a cancel, a halt or a fatal action has stopped it: its waiting frames are discarded. -/
def Ladder.stopped (why : Stopping) (l : Ladder) : Ladder :=
  if l.stopping ≠ .no then l
  else { l with stopping := why, due := none, restartPending := none, inFlight := l.inFlight.filter fun f => decide (f.state ≠ .valid) }

/-- A ladder once its budget's expiry has stopped it: its frames stand (R37). -/
def Ladder.expired (l : Ladder) : Ladder :=
  if l.stopping ≠ .no then l
  else { l with stopping := .expired, due := none, restartPending := none, conds := Conds.put l.conds condTruncated true }

theorem Ladder.stopped_of_no (why : Stopping) {l : Ladder} (h : l.stopping = .no) : l.stopped why =
    { l with stopping := why, due := none, restartPending := none, inFlight := l.inFlight.filter fun f => decide (f.state ≠ .valid) } :=
  if_neg (not_not_intro h)

theorem withLadder_self {s : State} {o : Option Ladder} (h : o = s.ladder) : s = { s with ladder := o } := by rw [h]

/-- The stopping events that discard the tile's frames. -/
def Stopping.discards (why : Stopping) : Prop := why = .cancelled ∨ why = .halted ∨ why = .fatal

theorem stopLadder_of_stopped {s : State} {l : Ladder} (hl : s.ladder = some l) (h : l.stopping ≠ .no) (why : Stopping) :
    stopLadder why s = s := by
  unfold stopLadder
  rw [hl]
  exact if_pos h

theorem stopLadder_of_none {s : State} (hl : s.ladder = none) (why : Stopping) : stopLadder why s = s := by
  unfold stopLadder
  rw [hl]

theorem stopLadder_expired (s : State) : stopLadder .expired s = { s with ladder := s.ladder.map Ladder.expired } := by
  cases hl : s.ladder with
  | none => exact (stopLadder_of_none hl _).trans (withLadder_self (by rw [hl]; rfl))
  | some l =>
    by_cases h : l.stopping ≠ .no
    · exact (stopLadder_of_stopped hl h _).trans (withLadder_self (by rw [hl, Option.map_some, Ladder.expired, if_pos h]))
    · unfold stopLadder
      rw [hl]
      simp only [if_neg h, mapLadder, Option.map_some, Ladder.expired, hl]

/-- The running ladder `l` is stopped with its frames discarded. -/
theorem stopLadder_discarding {s : State} {l : Ladder} (hl : s.ladder = some l) (h : l.stopping = .no) {why : Stopping}
    (hwhy : why.discards) :
    stopLadder why s = freeValid .ladder { markFilling .ladder s with ladder := some (l.stopped why) } := by
  have hmark (f : Ladder → Ladder) : markFilling .ladder (mapLadder f s) = { markFilling .ladder s with ladder := some (f l) } := by
    rw [markFilling_intake, markFilling_intake .ladder s]
    unfold mapLadder
    rw [hl]
    have hfill : State.fillingSlot { s with ladder := Option.map f (some l) } = s.fillingSlot := rfl
    unfold markFilling
    rw [hfill]
    split
    · rfl
    · next i _ => cases i <;> rfl
  unfold stopLadder
  rw [hl]
  dsimp only
  rw [if_neg (not_not_intro h), hmark]
  rcases hwhy with rfl | rfl | rfl
  all_goals
    dsimp only
    unfold discardWaiting
    rw [Ladder.stopped_of_no _ h]
    rfl

/-- A stopped ladder, and what the intake makes of its frames. -/
theorem stopLadder_eq {why : Stopping} (hwhy : why.discards) (s : State) :
    stopLadder why s = { s with ladder := s.ladder.map (Ladder.stopped why), intake := (stopLadder why s).intake } := by
  cases hl : s.ladder with
  | none =>
    rw [stopLadder_of_none hl]
    exact withLadder_self (by rw [hl]; rfl)
  | some l =>
    by_cases h : l.stopping = .no
    · rw [stopLadder_discarding hl h hwhy, freeValid_intake, markFilling_intake]
      rfl
    · rw [stopLadder_of_stopped hl h]
      exact withLadder_self (by rw [hl, Option.map_some, Ladder.stopped, if_pos h])

theorem slot_stopLadder {s : State} {l : Ladder} (hl : s.ladder = some l) (h : l.stopping = .no) {why : Stopping} (hwhy : why.discards)
    (k : SlotId) : (stopLadder why s).slot k = if s.validFor .ladder k then none else (markFilling .ladder s).slot k := by
  rw [stopLadder_discarding hl h hwhy, slot_freeValid]
  have hvalid : State.validFor { markFilling .ladder s with ladder := some (l.stopped why) } .ladder k = s.validFor .ladder k := by
    change (markFilling .ladder s).validFor .ladder k = _
    unfold State.validFor
    rw [slot_markFilling]
    split
    · cases s.slot k with
      | none => rfl
      | some d => simp only [Option.map_some, Option.any_some, Slot.markedFor_state, Slot.markedFor_taker]
    · rfl
  rw [hvalid]
  rfl

theorem stopLadder_fillingSlot {why : Stopping} (hwhy : why.discards) (s : State) : (stopLadder why s).fillingSlot = s.fillingSlot := by
  cases hl : s.ladder with
  | none => rw [stopLadder_of_none hl]
  | some l =>
    by_cases h : l.stopping = .no
    · rw [stopLadder_discarding hl h hwhy, freeValid_fillingSlot]
      exact markFilling_fillingSlot .ladder s
    · rw [stopLadder_of_stopped hl h]

/-! ### An exposure that is cut (R76) -/

/-- The lamps once both banks are dark, the line running its length. -/
def Lamps.dark (p : Lamps) : Lamps := { p with a.lit := false, b.lit := false, exposure := none }

theorem darkenNow_eq (s : State) : darkenNow s = { s with lamps := s.lamps.dark } := rfl

theorem cutExposure_eq (s : State) : cutExposure s = { s with lamps := s.lamps.dark, intake := (cutExposure s).intake } := by
  unfold cutExposure
  split
  · split <;> rw [markFilling_intake] <;> rfl
  · rfl

theorem cutExposure_of_none {s : State} (h : s.lamps.exposure = none) : cutExposure s = { s with lamps := s.lamps.dark } := by
  unfold cutExposure
  rw [h]
  rfl

theorem cutExposure_fillingSlot (s : State) : (cutExposure s).fillingSlot = s.fillingSlot := by
  unfold cutExposure
  split
  · split <;> exact markFilling_fillingSlot _ (darkenNow s)
  · rfl

end Sys2Proof.Machine
end

section
/-! The halt (R45, R76, R91, R126, R136, R141): what it writes, and what it leaves of the tile in hand. -/
namespace Sys2Proof.Machine
open Sys2Proof

/-! ### STOP (R136) -/

/-- The motion port once STOP is due. -/
def Motion.stopping (m : Motion) (limit now : Nat) : Motion :=
  { m with
    order := none, waiting := none
    nextNumber := if m.stop.isSome then m.nextNumber else (m.nextNumber + 1) % 256
    stop := some (match m.stop with
      | some st => { st with reissue := false }
      | none => ⟨m.nextNumber, limit, now, false⟩)
    sent := if m.stop.isSome then m.sent else m.sent ++ [motionRecord 5 m.nextNumber 0 0] }

theorem sendStop_stopping (s : State) : sendStop s = { s with motion := s.motion.stopping s.params.moveLimit s.now } := sendStop_eq s

theorem Motion.stopping_of_none {m : Motion} (h : m.stop = none) (limit now : Nat) : m.stopping limit now =
    { m with
      order := none, waiting := none, nextNumber := (m.nextNumber + 1) % 256, stop := some ⟨m.nextNumber, limit, now, false⟩
      sent := m.sent ++ [motionRecord 5 m.nextNumber 0 0] } := by
  simp [Motion.stopping, h]

/-- One STOP serves for all that ask for it. -/
theorem Motion.stopping_stopping (m : Motion) (limit now limit' now' : Nat) :
    (m.stopping limit now).stopping limit' now' = m.stopping limit now := by
  cases h : m.stop with
  | none => simp [Motion.stopping, h]
  | some st => simp [Motion.stopping, h]

/-! ### The pass as a halt finds it and leaves it (R45) -/

/-- The pass once it is HALTED. -/
def Pass.halting (p : Pass) : Pass :=
  { p with
    state := .halted, step := .none, pausePending := false, cancelPending := false, resumePoint := none, budget := p.budget.stop }

theorem Budget.stop_state (b : Budget) : b.stop.state ∉ [BudgetState.running, .suspended] := by
  unfold Budget.stop
  split
  · simp
  · next h => simpa using h

theorem Budget.stop_of {b : Budget} (h : b.state ∈ [BudgetState.running, .suspended]) : b.stop.state = .stopped := by
  unfold Budget.stop
  rw [if_pos (by simpa using h)]

/-- What a halt does before it comes to the tile in hand. -/
def haltBegun (k : FaultKind) (injected : Bool) (s : State) : State :=
  let t := stopBudget (sendStop (cutExposure s))
  postNotice (.halted k injected s.pass.state (s.pass.job.map (·.number)) s.tileCtx s.time.count)
    (stopLadder .halted
      { t with pass.state := .halted, pass.step := .none, pass.pausePending := false, pass.cancelPending := false,
               pass.resumePoint := none })

theorem halt_begun {s : State} (h : s.pass.state ≠ .halted) (k : FaultKind) (injected : Bool) :
    halt k injected s = endHome .halted none (failCal .halted (haltTile (haltBegun k injected s))) := by
  have htag : (stopBudget (sendStop (cutExposure s))).time = s.time := by simp
  unfold halt haltBegun
  split
  · next h' => exact absurd h' h
  · rfl

theorem Stopping.discards_halted : Stopping.discards .halted := .inr (.inl rfl)

/-- All that a halt does before it comes to the tile in hand. -/
theorem haltBegun_eq (k : FaultKind) (injected : Bool) (s : State) : haltBegun k injected s =
    { s with
      pass := s.pass.halting, ladder := s.ladder.map (Ladder.stopped .halted), lamps := s.lamps.dark
      intake := (haltBegun k injected s).intake, motion := s.motion.stopping s.params.moveLimit s.now
      link := s.link.posted (.halted k injected s.pass.state (s.pass.job.map (·.number)) s.tileCtx s.time.count) } := by
  unfold haltBegun
  dsimp only
  rw [postNotice_eq, stopLadder_eq Stopping.discards_halted, sendStop_stopping, cutExposure_eq]
  rfl

theorem haltBegun_fillingSlot (k : FaultKind) (injected : Bool) (s : State) : (haltBegun k injected s).fillingSlot = s.fillingSlot := by
  have hslots (t : State) (n : Notice) : (postNotice n t).fillingSlot = t.fillingSlot := by
    rw [postNotice_eq]
    rfl
  unfold haltBegun
  dsimp only
  rw [hslots, stopLadder_fillingSlot Stopping.discards_halted, sendStop_stopping]
  exact cutExposure_fillingSlot s

/-- The slots of a running ladder at a halt that cuts no exposure: the waiting frames' are freed, the awaited one's is marked. -/
theorem slot_haltBegun {s : State} {l : Ladder} (hl : s.ladder = some l) (h : l.stopping = .no) (hx : s.lamps.exposure = none)
    (k : FaultKind) (injected : Bool) (i : SlotId) :
    (haltBegun k injected s).slot i = if s.validFor .ladder i then none else (markFilling .ladder s).slot i := by
  have hslots (t : State) (n : Notice) : (postNotice n t).slot i = t.slot i := by
    rw [postNotice_eq]
    cases i <;> rfl
  unfold haltBegun
  dsimp only
  rw [hslots, sendStop_stopping, cutExposure_of_none hx]
  exact (slot_stopLadder (s := { s with lamps := s.lamps.dark, motion := s.motion.stopping s.params.moveLimit s.now, pass := s.pass.halting })
    hl h Stopping.discards_halted i).trans (by rw [slot_markFilling, slot_markFilling]; rfl)

/-! ### A calibration and a HOME request at a halt (R126, R141) -/

theorem endHome_eq (result : HomeResult) (kind : Option FaultKind) (s : State) :
    ∃ l : Link, s.link.PostsTo l ∧ (s.motion.homeRequest = false → l = s.link)
      ∧ endHome result kind s = { s with motion.homeRequest := false, link := l } := by
  unfold endHome
  cases h : s.motion.homeRequest with
  | true =>
    rw [if_pos rfl, postNotice_eq]
    exact ⟨_, .posted _ _, nofun, rfl⟩
  | false =>
    rw [if_neg nofun]
    exact ⟨s.link, .refl _, fun _ => rfl, by rw [← h]⟩

theorem closeCal_eq (s : State) : ∃ (c : Option Calibration) (l : Link), s.link.PostsTo l ∧ (s.cal.cal = none → c = none ∧ l = s.link)
    ∧ closeCal s = { s with cal.cal := c, link := l } := by
  cases hc : s.cal.cal with
  | none =>
    have hstays : closeCal s = s := by rw [closeCal, hc]
    exact ⟨none, s.link, .refl _, fun _ => ⟨rfl, rfl⟩, by rw [hstays, ← hc]⟩
  | some c =>
    unfold closeCal
    rw [hc]
    dsimp only
    split
    · rw [endCal_eq]
      exact ⟨none, _, .posted _ _, nofun, rfl⟩
    · exact ⟨some c, s.link, .refl _, nofun, by rw [← hc]⟩

/-- A calibration's failure reaches the calibration, the slots it holds, and the link. -/
theorem failCal_eq (why : CalFailure) (s : State) : ∃ (c : Option Calibration) (i : Intake) (l : Link), s.link.PostsTo l
    ∧ (s.cal.cal = none → c = none ∧ i = s.intake ∧ l = s.link) ∧ failCal why s = { s with cal.cal := c, intake := i, link := l }
    ∧ (failCal why s).fillingSlot = s.fillingSlot
    ∧ ∀ k d, s.slot k = some d → d.taker = .ladder → (failCal why s).slot k = some d := by
  cases hc : s.cal.cal with
  | none =>
    have hstays : failCal why s = s := by rw [failCal, hc]
    rw [hstays]
    exact ⟨none, s.intake, s.link, .refl _, fun _ => ⟨rfl, rfl, rfl⟩, by rw [← hc], rfl, fun _ _ h _ => h⟩
  | some c =>
    unfold failCal
    rw [hc]
    dsimp only
    split
    · exact ⟨some c, s.intake, s.link, .refl _, nofun, by rw [← hc], rfl, fun _ _ h _ => h⟩
    · generalize hm : mapCal _ s = m
      have hslot (k : SlotId) : m.slot k = s.slot k := by subst hm; cases k <;> rfl
      have hfill : m.fillingSlot = s.fillingSlot := by subst hm; rfl
      obtain ⟨cal, l, hl, -, hclose⟩ := closeCal_eq (freeValid .calibration (markFilling .calibration m))
      rw [hclose]
      refine ⟨cal, (freeValid .calibration (markFilling .calibration m)).intake, l, ?_, nofun, ?_, ?_, ?_⟩
      · rw [freeValid_intake, markFilling_intake] at hl
        subst hm
        exact hl
      · rw [freeValid_intake, markFilling_intake]
        subst hm
        rfl
      · exact (freeValid_fillingSlot .calibration _).trans ((markFilling_fillingSlot .calibration m).trans hfill)
      · intro k d hd ht
        have hmarked : (markFilling .calibration m).slot k = some d := by
          rw [slot_markFilling, hslot, hd]
          split
          · rw [Option.map_some, Slot.markedFor, if_neg (by rw [ht]; decide)]
          · rfl
        refine (slot_freeValid .calibration (markFilling .calibration m) k).trans ?_
        rw [if_neg, hmarked]
        unfold State.validFor
        rw [hmarked]
        simp [ht]

/-! ### The whole halt -/

/-- What the end of a halt does, once the tile in hand is seen to. -/
theorem halt_ends {s : State} (h : s.pass.state ≠ .halted) (k : FaultKind) (injected : Bool) {t : State}
    (ht : haltTile (haltBegun k injected s) = t) :
    ∃ (c : Option Calibration) (i : Intake) (l : Link), t.link.PostsTo l ∧ (t.cal.cal = none → c = none ∧ i = t.intake)
      ∧ (t.cal.cal = none → t.motion.homeRequest = false → l = t.link)
      ∧ halt k injected s = { t with cal.cal := c, intake := i, motion.homeRequest := false, link := l }
      ∧ (halt k injected s).fillingSlot = t.fillingSlot
      ∧ ∀ k' d, t.slot k' = some d → d.taker = .ladder → (halt k injected s).slot k' = some d := by
  obtain ⟨c, i, l, hl, hnone, hcal, hfill, hslots⟩ := failCal_eq .halted t
  obtain ⟨l', hl', hnone', hhome⟩ := endHome_eq .halted none (failCal .halted t)
  have hwhole : halt k injected s = { failCal .halted t with motion.homeRequest := false, link := l' } := by
    rw [halt_begun h, ht, hhome]
  rw [hwhole]
  refine ⟨c, i, l', ?_, fun h => ⟨(hnone h).1, (hnone h).2.1⟩, ?_, by rw [hcal], hfill, hslots⟩
  · rw [hcal] at hl'
    exact hl.trans hl'
  · intro hc hh
    rw [hcal] at hnone'
    exact (hnone' hh).trans (hnone hc).2.2

/-! ### The tile in hand at a halt -/

/-- A tile in hand that is not being settled is held, its plane freed unless a frame is on its way into it. -/
theorem haltTile_held {b : State} {t : Tile} (ht : b.pass.tile = some t) (hs : b.pass.settle = none) :
    ∃ (m : Merge) (p : Option PlaneId), m.freed p = b.merge.freed t.plane
      ∧ haltTile b = { b with merge := m, pass.tile := some { t with plane := p }, pass.settle := some .held } := by
  have hheld : haltTile b = progress { b with pass.settle := some .held } := by
    unfold haltTile
    rw [ht, hs]
  rw [hheld]
  unfold progress
  cases hl : b.ladder with
  | none => exact ⟨b.merge, t.plane, rfl, by simp only [hl, ← ht]⟩
  | some l =>
    dsimp only [hl]
    have hend (x : State) : (if l.inFlight = [] ∧ SettleTo.held ≠ .held then settleNow .held x else x) = x := if_neg fun h => h.2 rfl
    rw [hend]
    split
    · exact ⟨b.merge, t.plane, rfl, by simp only [← ht]⟩
    · refine ⟨b.merge.freed t.plane, none, rfl, ?_⟩
      rw [freeTilePlane_eq (t := t) (by exact ht)]

theorem haltTile_loose {b : State} (ht : b.pass.tile = none) : haltTile b = jobEndCheck b := by
  unfold haltTile
  rw [ht]

/-! ### An escalation that comes before its action (R46, R177; log 68) -/

/-- The fault is recorded and the pass halted by it, before what the command makes of the fault. -/
theorem takeAhead_escalates {s : State} {k : FaultKind} (h : EscalatesFirst s k) (ctx : Ctx) : ∃ (f : Faults) (l : Link),
    takeAhead (raiseFault k ctx s) = halt k false { s with faults := f, link := l } ∧ f.escalations = []
      ∧ f.ahead = s.faults.ahead.tail ∧ f.raised = s.faults.raised ∧ f.jobMark = s.jobMarkAfter k ∧ s.link.PostsTo l
      ∧ l.notices.length ≤ s.link.notices.length + 1 := by
  obtain ⟨hhead, hnone, hmask, hfatal⟩ := h
  obtain ⟨rest, hahead⟩ : ∃ rest, s.faults.ahead = .halted :: rest := by
    cases hs : s.faults.ahead with
    | nil => rw [hs] at hhead; exact nomatch hhead
    | cons a rest => rw [hs] at hhead; cases hhead; exact ⟨rest, rfl⟩
  obtain ⟨f, ns, hns, hrec, hraised, hah, hmark, -⟩ := recordFault_writes k ctx false
    { s with faults.ahead := rest, faults.raised := s.faults.raised }
  have hhalts := takeAhead_halts (raiseFault k ctx s) s.faults.raised ⟨k, ctx⟩ rest rfl hahead hnone hmask hfatal
  refine ⟨{ f with escalations := [] }, ns.foldl Link.posted s.link, ?_, rfl, ?_, hraised, hmark, .posts _ ns, ?_⟩
  · have hlit : { raiseFault k ctx s with faults.ahead := rest, faults.raised := s.faults.raised }
        = { s with faults.ahead := rest, faults.raised := s.faults.raised } := rfl
    rw [hhalts]
    dsimp only
    rw [hlit, hrec]
  · rw [hahead]
    exact hah
  · cases ns with
    | nil => exact Nat.le_succ _
    | cons n ns =>
      obtain rfl : ns = [] := List.eq_nil_of_length_eq_zero (by simpa using hns)
      exact s.link.posted_length n

end Sys2Proof.Machine
end

section
/-! HALT_ESCALATION, and whether a job ends where its work is done (R34, R35, R45, R46); O29. -/
namespace Sys2Proof.Machine
open Sys2Proof

/-! ### The check of a job's end (R34, R35, R46) -/

theorem jobEndCheck_ends {s : State} (hj : s.pass.job ≠ none) (ht : s.pass.tile = none) (hh : s.pass.handedOver = 0)
    (ho : s.passOrder = false) (hp : s.plateLetsEnd = true) : jobEndCheck s = endJob false s := by
  refine if_pos ?_
  rw [State.workDone, jobActive_eq hj, ho, hp, decide_eq_true ⟨ht, hh⟩]
  rfl

theorem jobEndCheck_stays {s : State}
    (h : s.pass.job = none ∨ s.pass.tile ≠ none ∨ s.pass.handedOver ≠ 0 ∨ s.passOrder = true ∨ s.plateLetsEnd = false) :
    jobEndCheck s = s := by
  refine if_neg fun hc => ?_
  simp only [State.workDone, State.jobActive, Bool.and_eq_true, decide_eq_true_eq, Bool.not_eq_true'] at hc
  obtain ⟨⟨⟨hj, ht, hh⟩, ho⟩, hp⟩ := hc
  rcases h with h | h | h | h | h
  · simp [h] at hj
  · exact h ht
  · exact h hh
  · simp [ho] at h
  · simp [hp] at h

theorem passOrder_of_none {s : State} (h : s.motion.order = none) : s.passOrder = false := by rw [State.passOrder, h, Option.any_none]

/-- Under HALTED a job ends only with its plate RETURNED, or FAILED and not on the table. -/
theorem plateLetsEnd_halted {s : State} (h : s.pass.state = .halted) :
    s.plateLetsEnd = decide (s.pass.plate = .returned ∨ s.pass.mark = some .failed ∧ s.pass.plate ≠ .onTable) := by
  rw [State.plateLetsEnd, h]

theorem jobEndCheck_cases (s : State) : jobEndCheck s = s
    ∨ ∃ j, s.pass.job = some j ∧ s.plateLetsEnd = true ∧ jobEndCheck s = endJob false s := by
  unfold jobEndCheck
  split
  · next h =>
    rw [Bool.and_eq_true, State.workDone, Bool.and_eq_true, Bool.and_eq_true] at h
    obtain ⟨⟨⟨hj, -⟩, -⟩, hp⟩ := h
    obtain ⟨j, hj⟩ := Option.isSome_iff_exists.mp hj
    exact .inr ⟨j, hj, hp, rfl⟩
  · exact .inl rfl

/-! ### A tile in hand that is being settled, under HALTED (R45) -/

/-- `t` is `s` but for the tile in hand, its plane, its ladder and its record. -/
def State.Tidies (s t : State) : Prop := ∃ (m : Merge) (l : Option Ladder) (tile : Option Tile) (dest : Option SettleTo)
  (counts : RecordCounts) (n : Notes), s.link.PostsTo n.link
    ∧ t = { s with merge := m, ladder := l, pass.tile := tile, pass.settle := dest, pass.counts := counts }.noted n

theorem State.Tidies.refl (s : State) : s.Tidies s := ⟨s.merge, s.ladder, s.pass.tile, s.pass.settle, s.pass.counts, s.notes, .refl _, rfl⟩

theorem State.Tidies.trans {s t u : State} (h : s.Tidies t) (h' : t.Tidies u) : s.Tidies u := by
  obtain ⟨m, l, tile, dest, counts, n, hposts, rfl⟩ := h
  obtain ⟨m', l', tile', dest', counts', n', hposts', rfl⟩ := h'
  exact ⟨m', l', tile', dest', counts', n', hposts.trans hposts', rfl⟩

theorem tidies_settling (s : State) (dest : Option SettleTo) : s.Tidies { s with pass.settle := dest } :=
  ⟨s.merge, s.ladder, s.pass.tile, dest, s.pass.counts, s.notes, .refl _, rfl⟩

theorem tidies_freeTilePlane (s : State) : s.Tidies (freeTilePlane s) := by
  cases ht : s.pass.tile with
  | none =>
    have hstays : freeTilePlane s = s := by rw [freeTilePlane, ht]
    rw [hstays]
    exact .refl s
  | some t =>
    rw [freeTilePlane_eq ht]
    exact ⟨s.merge.freed t.plane, s.ladder, some { t with plane := none }, s.pass.settle, s.pass.counts, s.notes, .refl _, rfl⟩

theorem tidies_recordTile (s : State) : s.Tidies (recordTile s) := by
  cases hj : s.pass.job with
  | none =>
    have hstays : recordTile s = s := by rw [recordTile, hj]
    rw [hstays]
    exact .refl s
  | some j =>
    cases ht : s.pass.tile with
    | none =>
      have hstays : recordTile s = s := by rw [recordTile, hj, ht]
      rw [hstays]
      exact .refl s
    | some t =>
      obtain ⟨n, hposts, -, -, hrec⟩ := recordTile_notes hj ht
      rw [hrec]
      exact ⟨_, none, none, none, _, n, hposts, rfl⟩

theorem State.Tidies.state {s t : State} (h : s.Tidies t) : t.pass.state = s.pass.state := by
  obtain ⟨m, l, tile, dest, counts, n, -, rfl⟩ := h
  rfl

/-- Under HALTED no settled tile leads the pass on: at most the job ends. -/
theorem afterSettle_halted {s : State} (h : s.pass.state = .halted) (dest : SettleTo) :
    afterSettle dest s = s ∨ afterSettle dest s = jobEndCheck s := by
  cases dest with
  | boundary =>
    left
    unfold afterSettle boundary
    rw [h]
  | returning =>
    right
    unfold afterSettle
    rw [h]
  | inPlace => exact .inr rfl
  | held => exact .inl rfl

theorem settleNow_halted {s : State} (h : s.pass.state = .halted) (dest : SettleTo) :
    ∃ t, s.Tidies t ∧ (settleNow dest s = t ∨ settleNow dest s = jobEndCheck t) :=
  ⟨recordTile s, tidies_recordTile s, afterSettle_halted ((tidies_recordTile s).state.trans h) dest⟩

theorem progress_halted {s : State} (h : s.pass.state = .halted) {dest : SettleTo} (hs : s.pass.settle = some dest) :
    ∃ t, s.Tidies t ∧ (progress s = t ∨ progress s = jobEndCheck t) := by
  unfold progress
  cases s.ladder with
  | none => exact ⟨s, .refl s, .inl rfl⟩
  | some l =>
    dsimp only
    rw [hs]
    dsimp only
    generalize hf : (if s.planeBusy = true then s else freeTilePlane s) = f
    have hfree : s.Tidies f := by
      subst hf
      split
      · exact .refl s
      · exact tidies_freeTilePlane s
    split
    · obtain ⟨t, ht, hend⟩ := settleNow_halted (hfree.state.trans h) dest
      exact ⟨t, hfree.trans ht, hend⟩
    · exact ⟨f, hfree, .inl rfl⟩

theorem haltTile_halted {b : State} (h : b.pass.state = .halted) :
    ∃ t, b.Tidies t ∧ (haltTile b = t ∨ haltTile b = jobEndCheck t) := by
  unfold haltTile
  split
  · exact ⟨b, .refl b, .inr rfl⟩
  · obtain ⟨t, ht, hend⟩ := progress_halted (s := { b with pass.settle := some .held }) h rfl
    exact ⟨t, (tidies_settling b _).trans ht, hend⟩
  · unfold settle
    split
    · exact ⟨b, .refl b, .inr rfl⟩
    · split
      · obtain ⟨t, ht, hend⟩ := progress_halted (s := { b with pass.settle := some .inPlace }) h rfl
        exact ⟨t, (tidies_settling b _).trans ht, hend⟩
      · split
        · exact ⟨_, tidies_settling b _, .inl rfl⟩
        · exact settleNow_halted h .inPlace
      · exact settleNow_halted h .inPlace
      · exact settleNow_halted h .inPlace

/-! ### HALT_ESCALATION -/

theorem exec_haltEscalation {s : State} {k : FaultKind} {injected : Bool} {more : List (FaultKind × Bool)}
    (h : s.faults.escalations = (k, injected) :: more) :
    exec .haltEscalation s = .next (halt k injected { s with faults.escalations := more }) := by
  change execHaltEscalation s = _
  unfold execHaltEscalation
  rw [h]
  dsimp only
  rw [haltNext_of_cons s _ _ h]

theorem halt_of_halted {s : State} (h : s.pass.state = .halted) (k : FaultKind) (injected : Bool) : halt k injected s = s := by
  rw [halt, h]

/-- What stands of the slots when a halt finds no ladder and no exposure. -/
theorem haltBegun_idle {s : State} (hl : s.ladder = none) (hx : s.lamps.exposure = none) (k : FaultKind) (injected : Bool) :
    haltBegun k injected s = { s with
      pass := s.pass.halting, lamps := s.lamps.dark, motion := s.motion.stopping s.params.moveLimit s.now
      link := s.link.posted (.halted k injected s.pass.state (s.pass.job.map (·.number)) s.tileCtx s.time.count) } := by
  unfold haltBegun
  dsimp only
  rw [postNotice_eq, sendStop_stopping, cutExposure_of_none hx, stopLadder_of_none (by exact hl)]
  rfl

theorem haltBegun_pass (k : FaultKind) (injected : Bool) (s : State) : (haltBegun k injected s).pass = s.pass.halting := by rw [haltBegun_eq]

/-- What the end of a job, or its going on, keeps of a state under HALTED. -/
structure State.HaltKeeps (b u : State) : Prop where
  state : u.pass.state = .halted
  lamps : u.lamps = b.lamps
  order : u.motion.order = b.motion.order
  stop : u.motion.stop = b.motion.stop
  zones : u.zones = b.zones
  budget : u.pass.budget = b.pass.budget ∨ u.pass.budget = ⟨.absent, 0, 0⟩
  pausePending : u.pass.pausePending = b.pass.pausePending ∨ u.pass.pausePending = false
  cancelPending : u.pass.cancelPending = b.pass.cancelPending ∨ u.pass.cancelPending = false
  resumePoint : u.pass.resumePoint = b.pass.resumePoint ∨ u.pass.resumePoint = none
  escalations : b.faults.raised = [] ∨ b.faults.jobMark ≠ none ∨ b.pass.plate = .onTable → u.faults.escalations = b.faults.escalations

theorem haltKeeps_tidies {b t : State} (h : b.pass.state = .halted) (ht : b.Tidies t) : b.HaltKeeps t := by
  obtain ⟨m, l, tile, dest, counts, n, -, rfl⟩ := ht
  exact ⟨h, rfl, rfl, rfl, rfl, .inl rfl, .inl rfl, .inl rfl, .inl rfl, fun _ => rfl⟩

theorem haltKeeps_jobEndCheck {b t : State} (h : b.pass.state = .halted) (ht : b.Tidies t) : b.HaltKeeps (jobEndCheck t) := by
  rcases jobEndCheck_cases t with hstays | ⟨j, hj, hlets, hends⟩
  · rw [hstays]
    exact haltKeeps_tidies h ht
  · obtain ⟨x, hx, hended, -⟩ := endJob_ends hj false
    obtain ⟨m, l, tile, dest, counts, n, -, rfl⟩ := ht
    rw [hends, hended]
    refine ⟨if_pos h, rfl, rfl, rfl, rfl, .inr rfl, .inr rfl, .inr rfl, .inr rfl, fun hor => ?_⟩
    have hkept : b.faults.jobMark ≠ none ∨ b.faults.raised = [] := by
      rcases hor with hr | hm | hp
      · exact .inr hr
      · exact .inl hm
      · rw [plateLetsEnd_halted (by exact h), decide_eq_true_eq] at hlets
        have hp' : b.pass.plate = .returned ∨ b.pass.mark = some .failed ∧ b.pass.plate ≠ .onTable := hlets
        simp [hp] at hp'
    change x.fault.faults.escalations = _
    rw [hx.kept hkept]
    rfl

/-- What every halt leaves, whatever the pass, a calibration or a HOME request were doing. -/
theorem halt_general {s : State} (h : s.pass.state ≠ .halted) (k : FaultKind) (injected : Bool) : ∃ u : State,
    (haltBegun k injected s).HaltKeeps u ∧ (s.pass.tile ≠ none → s.pass.settle = none → u.faults = s.faults)
      ∧ ∃ (c : Option Calibration) (i : Intake) (l : Link),
        halt k injected s = { u with cal.cal := c, intake := i, motion.homeRequest := false, link := l } := by
  have hb := haltBegun_pass k injected s
  obtain ⟨c, i, l, -, -, -, hend, -⟩ := halt_ends h k injected rfl
  obtain ⟨t, ht, hcases⟩ := haltTile_halted (b := haltBegun k injected s) (by rw [hb]; rfl)
  refine ⟨haltTile (haltBegun k injected s), ?_, fun htile hsettle => ?_, c, i, l, hend⟩
  · rcases hcases with hcases | hcases
    · rw [hcases]
      exact haltKeeps_tidies (by rw [hb]; rfl) ht
    · rw [hcases]
      exact haltKeeps_jobEndCheck (by rw [hb]; rfl) ht
  · rw [haltTile_faults _ (by rw [hb]; exact htile) (by rw [hb]; exact hsettle), haltBegun_eq]

theorem Lamps.dark_of_dark {p : Lamps} (hx : p.exposure = none) (ha : p.a.lit = false) (hb : p.b.lit = false) : p.dark = p := by
  obtain ⟨⟨_, _, _, _, _, _⟩, ⟨_, _, _, _, _, _⟩, _, _⟩ := p
  subst hx ha hb
  rfl

/-- Settles O29. -/
theorem haltEscalationHaltsThePass : Obligations.HaltEscalationHaltsThePass := by
  refine ⟨fun s hnone => ⟨fun hahead => ?_, fun before a hahead => ?_⟩, fun s k injected more hmore => ⟨?halted, ?anyPass, ?idle, ?jobEnds⟩⟩
  · change execHaltEscalation s = _
    rw [execHaltEscalation, hnone]
    dsimp only
    rw [hahead, escalateAhead, ← hahead]
  · change execHaltEscalation s = _
    rw [execHaltEscalation, hnone]
    dsimp only
    rw [hahead, escalateAhead_append]
    cases a <;> rfl
  case halted =>
    intro h
    rw [exec_haltEscalation hmore, halt_of_halted (by exact h)]
  case anyPass =>
    intro h
    let z : State := { s with faults.escalations := more }
    obtain ⟨u, hu, hfaults, c, i, l, hend⟩ := halt_general (s := z) h k injected
    have hframe := halt_frame k injected z
    obtain ⟨-, -, -, -, hconv, -, -, hparams, -⟩ := hframe
    have hb := haltBegun_eq k injected z
    generalize haltBegun k injected z = b at hu hb
    have hpass : b.pass = s.pass.halting := by rw [hb]
    have hbudget := Budget.stop_state s.pass.budget
    refine ⟨_, exec_haltEscalation hmore, ?_⟩
    change (halt k injected z).pass.state = _ ∧ _
    rw [hconv, hparams, hend]
    refine ⟨hu.state, ?_, ?_, ?_, ?_, ?_, rfl, ?_, ?_, ?_, ?_, ?_, rfl, ?_, rfl⟩
    · exact (congrArg (·.a.lit) hu.lamps).trans (by rw [hb])
    · exact (congrArg (·.b.lit) hu.lamps).trans (by rw [hb])
    · exact (congrArg (·.exposure) hu.lamps).trans (by rw [hb])
    · exact hu.order.trans (by rw [hb]; rfl)
    · exact fun hn => nomatch (hn.symm.trans (hu.stop.trans (by rw [hb]; rfl)) : none = some _)
    · change u.pass.budget.state ∉ _
      rcases hu.budget with hk | hk
      · rw [hk, hpass]
        exact hbudget
      · rw [hk]
        decide
    · exact hu.pausePending.elim (fun hk => hk.trans (by rw [hpass]; rfl)) id
    · exact hu.cancelPending.elim (fun hk => hk.trans (by rw [hpass]; rfl)) id
    · exact hu.resumePoint.elim (fun hk => hk.trans (by rw [hpass]; rfl)) id
    · rintro (hr | hm | hp | ⟨ht, hs⟩)
      · exact (hu.escalations (.inl (by rw [hb]; exact hr))).trans (by rw [hb])
      · exact (hu.escalations (.inr (.inl (by rw [hb]; exact hm)))).trans (by rw [hb])
      · exact (hu.escalations (.inr (.inr (by rw [hb]; exact hp)))).trans (by rw [hb])
      · exact congrArg Faults.escalations (hfaults ht hs)
    · exact hu.zones.trans (by rw [hb])
  case idle =>
    intro h ht hl hcal hhome hstays hstop hx ha hb
    generalize hz : ({ s with faults.escalations := more } : State) = z
    have hloose : haltTile (haltBegun k injected z) = haltBegun k injected z := by
      have htile : (haltBegun k injected z).pass.tile = none := by rw [haltBegun_pass, ← hz]; exact ht
      refine (haltTile_loose htile).trans (jobEndCheck_stays ?_)
      rw [plateLetsEnd_halted (by rw [haltBegun_pass]; rfl), haltBegun_pass, ← hz]
      rcases hstays with hj | hh | hp | ⟨hp, hm⟩
      · exact .inl hj
      · exact .inr (.inr (.inl hh))
      · exact .inr (.inr (.inr (.inr (by simp [Pass.halting, hp]))))
      · exact .inr (.inr (.inr (.inr (by simp [Pass.halting, hp, hm]))))
    obtain ⟨c, i, l, -, hi, hlink, hend, -⟩ := halt_ends (s := z) (by rw [← hz]; exact h) k injected hloose
    rw [haltBegun_idle (by rw [← hz]; exact hl) (by rw [← hz]; exact hx)] at hi hlink hend
    subst hz
    obtain ⟨rfl, rfl⟩ := hi hcal
    obtain rfl := hlink hcal hhome
    have hlamps : s.lamps.dark = s.lamps := Lamps.dark_of_dark hx ha hb
    refine ⟨_, (exec_haltEscalation hmore).trans (congrArg Host.Outcome.next hend), ?_, ?_, ?_⟩
    · simp [State.tileCtx, ht]
    · rw [Motion.stopping_of_none hstop, ← hhome]
    · dsimp only
      rw [hlamps, ← hmore, ← hcal]
  case jobEnds =>
    intro j h hj ht hh hplate
    generalize hz : ({ s with faults.escalations := more } : State) = z
    have hb := haltBegun_pass k injected z
    have hmotion : (haltBegun k injected z).motion.order = none := by rw [haltBegun_eq]; rfl
    have hends : haltTile (haltBegun k injected z) = endJob false (haltBegun k injected z) := by
      refine (haltTile_loose (by rw [hb, ← hz]; exact ht)).trans
        (jobEndCheck_ends (by rw [hb, ← hz]; exact fun hn => nomatch hj.symm.trans hn) (by rw [hb, ← hz]; exact ht)
          (by rw [hb, ← hz]; exact hh) (passOrder_of_none hmotion) ?_)
      rw [plateLetsEnd_halted (by rw [hb]; rfl), hb, ← hz]
      exact decide_eq_true hplate
    obtain ⟨x, hx, hended, -⟩ := endJob_ends (s := haltBegun k injected z) (j := j) (by rw [hb, ← hz]; exact hj) false
    obtain ⟨c, i, l, -, -, -, hend, -⟩ := halt_ends (s := z) (by rw [← hz]; exact h) k injected (hends.trans hended)
    have hfirst := hx.first
    have houtcome := outcome_endsAs (haltBegun k injected z)
    rw [haltBegun_eq] at hend hfirst houtcome hx
    subst hz
    refine ⟨_, _, (exec_haltEscalation hmore).trans (congrArg Host.Outcome.next hend), rfl, rfl, rfl, rfl, rfl, hx.jobMark,
      List.getLast?_concat, rfl, rfl, houtcome, hfirst, rfl⟩

end Sys2Proof.Machine
end

section
/-! The start of a job (R12, R22 to R25, R130); O23, O24. -/
namespace Sys2Proof.Machine
open Sys2Proof

/-! ### A bank taken into use (R24, R51, R130) -/

theorem topRungTo_largest (e n : Nat) : topRungTo e n ≤ n ∧ (topRungTo e n = 0 ∨ e * 2 ^ topRungTo e n ≤ 8000000)
    ∧ (topRungTo e n = n ∨ 8000000 < e * 2 ^ (topRungTo e n + 1)) := by
  induction n with
  | zero => exact ⟨Nat.le_refl 0, .inl rfl, .inl rfl⟩
  | succ n ih =>
    obtain ⟨hle, hfits, hnext⟩ := ih
    unfold topRungTo
    split
    · next h => exact ⟨Nat.le_refl _, .inr h, .inl rfl⟩
    · next h =>
      have h : ¬ e * 2 ^ (n + 1) ≤ 8000000 := h
      refine ⟨hle.trans (Nat.le_succ n), hfits, .inr ?_⟩
      rcases hnext with hn | hn
      · rw [hn]
        omega
      · exact hn

/-- The stale set and the raised set after the stale check of a bank. -/
def CalStore.checked (c : CalStore) (bank : BankId) (stale : Bool) : CalStore :=
  { c with
    staleSet := if stale then c.staleSet.add bank else c.staleSet.remove bank
    raisedSet := if stale then c.raisedSet.add bank else c.raisedSet }

theorem BankSet.add_of_has {b : BankSet} {i : BankId} (h : b.has i = true) : b.add i = b := by
  obtain ⟨x, y⟩ := b
  cases i <;> (obtain rfl : _ = true := h) <;> rfl

theorem BankSet.has_add (b : BankSet) (i k : BankId) : (b.add i).has k = (b.has k || decide (k = i)) := by
  cases i <;> cases k <;> simp [BankSet.add, BankSet.has]

theorem BankSet.has_remove (b : BankSet) (i k : BankId) : (b.remove i).has k = (b.has k && !decide (k = i)) := by
  cases i <;> cases k <;> simp [BankSet.remove, BankSet.has]

/-- The stale check of a bank, whose STALE_FLAT is raised at most once. -/
theorem staleCheck_eq (s : State) (bank : BankId) : staleCheck bank s =
    { s with
      cal := s.cal.checked bank (s.isStale bank), pass.stale := s.pass.stale || s.isStale bank
      faults.raised := s.faults.raised ++ if s.isStale bank = true ∧ s.cal.raisedSet.has bank = false then
        [⟨.staleFlat, ⟨s.jobCtx, s.tileCtx, none, some bank⟩⟩] else [] } := by
  unfold staleCheck CalStore.checked
  cases hs : s.isStale bank with
  | false => simp
  | true =>
    cases hr : s.cal.raisedSet.has bank with
    | true => simp [BankSet.add_of_has hr]
    | false => simp [raiseFault, State.jobCtx, State.tileCtx]

/-- The bank in use, the job's rungs clamped to its flat's top rung. -/
def State.clamped (s : State) (job : JobRecord) (bank : BankId) : BankInUse := clampLadder job bank (s.eFlat bank)

theorem takeBank_eq (job : JobRecord) (bank : BankId) (s : State) : takeBank job bank s =
    { s with
      cal := s.cal.checked bank (s.isStale bank)
      pass.bank := some (s.clamped job bank), pass.banksUsed := s.pass.banksUsed.add bank, pass.stale := s.pass.stale || s.isStale bank
      faults.raised := s.faults.raised ++ if s.isStale bank = true ∧ s.cal.raisedSet.has bank = false then
        [⟨.staleFlat, ⟨s.jobCtx, s.tileCtx, none, some bank⟩⟩] else [] } := by
  unfold takeBank
  rw [staleCheck_eq]
  cases bank <;> rfl

theorem eFlat_of_flat {s : State} {bank : BankId} {f : FlatData} (h : (s.flat bank).data = some f) : s.eFlat bank = f.record.eFlat := by
  rw [State.eFlat, State.flatRecord, h]
  rfl

theorem isStale_of_flat {s : State} {bank : BankId} {f : FlatData} (h : (s.flat bank).data = some f) :
    s.isStale bank = true ↔ s.params.flatAgeLimit ≠ 0 ∧ s.params.flatAgeLimit ≤ f.record.age := by
  rw [isStale_iff]
  exact ⟨fun ⟨d, hd, hstale⟩ => by cases h.symm.trans hd; exact hstale, fun hstale => ⟨f, h, hstale⟩⟩

theorem usable_iff (s : State) (bank : BankId) :
    s.usable bank = true ↔ (s.bank bank).health = .ready ∧ (s.flat bank).validity = .valid := decide_eq_true_iff

/-! ### JOB_START -/

/-- The state as PREPARING begins for the head job `q` (R12, R22). -/
def State.prepared (s : State) (q : QueueJob) (rest : List QueueJob) : State :=
  { s with
    queue.jobs := { q with active := true, started := some s.time.count } :: rest, pass := s.preparingPass q
    cal.staleSet := noBanks, cal.raisedSet := noBanks, faults.jobMark := none }

theorem exec_jobStart {s : State} {q : QueueJob} {rest : List QueueJob} (h : StartsNow s q rest) :
    exec .jobStart s = .next (if s.motion.unsure then
        { s.prepared q rest with pass.step := .homing, motion := s.motionIssued ⟨.home, 0, 0, .pass⟩ false }
      else prepCheck (s.prepared q rest)) := by
  obtain ⟨hjobs, hactive, hrun, hidle, hcal, hhome, horder, hstop⟩ := h
  have hmay : s.mayStart = true := by simp [State.mayStart, hrun, hidle, hcal, hhome]
  have hprepared (t : State) (ht : t = { s with queue.jobs := { q with active := true, started := some s.tag } :: rest }) :
      prepare ⟨q.number, q.record, t.tag⟩ t = s.prepared q rest := by
    subst ht
    unfold prepare State.prepared State.preparingPass
    cases q.record.budgetS <;> rfl
  change execJobStart s = _
  unfold execJobStart
  rw [hjobs]
  dsimp only
  rw [if_pos ⟨hmay, hactive⟩, hprepared _ rfl]
  have hunsure : (s.prepared q rest).motion.unsure = s.motion.unsure := rfl
  rw [hunsure, wantOrder_free (by exact horder) (by exact hstop), issueOrder_home]
  split
  · rfl
  · rfl

theorem chooseBank_first {s : State} {j : JobRecord} {b : BankId} (hpref : b = .a ↔ j.bankPref = .aOnly ∨ j.bankPref = .aFirst)
    (hu : s.usable b = true) : s.chooseBank j = some b := by
  unfold State.chooseBank
  cases hp : j.bankPref with
  | aOnly | aFirst =>
    obtain rfl : b = .a := hpref.mpr (by simp [hp])
    simp [BankPref.tried, hu]
  | bOnly | bFirst =>
    obtain rfl : b = .b := by
      cases b with
      | a => simp [hp] at hpref
      | b => rfl
    simp [BankPref.tried, hu]

theorem chooseBank_none {s : State} {j : JobRecord}
    (h : ∀ b, (j.bankPref = .aOnly → b = .a) → (j.bankPref = .bOnly → b = .b) → s.usable b = false) : s.chooseBank j = none := by
  unfold State.chooseBank
  cases hp : j.bankPref with
  | aOnly => simp [BankPref.tried, h .a (fun _ => rfl) (by simp [hp])]
  | bOnly => simp [BankPref.tried, h .b (by simp [hp]) (fun _ => rfl)]
  | aFirst | bFirst => simp [BankPref.tried, h .a (by simp [hp]) (by simp [hp]), h .b (by simp [hp]) (by simp [hp])]

/-- A bank is taken, PLATE-START posted and the MOVE to the load point issued. -/
theorem bankChoice_taken {s : State} {j : JobInHand} {b : BankId} (hb : s.chooseBank j.record = some b) (ho : s.motion.order = none)
    (hs : s.motion.stop = none) : bankChoice j s =
    let t := takeBank j.record b s
    { t with
      pass.step := .moving, motion := s.motionIssued ⟨.move, 0, 0, .pass⟩ false
      link := s.link.posted (plateStart j (s.clamped j.record b) t) } := by
  unfold bankChoice
  rw [hb]
  dsimp only
  rw [takeBank_eq]
  dsimp only
  rw [postNotice_eq, wantOrder_free (by exact ho) (by exact hs), issueOrder_move]
  rfl

/-- Settles O24. -/
theorem jobStartHomesOrTakesABank : Obligations.JobStartHomesOrTakesABank := by
  refine ⟨?homes, ?takes⟩
  case homes =>
    intro s q rest h hunsure
    have hexec := exec_jobStart h
    rw [hunsure, if_pos rfl] at hexec
    exact ⟨_, hexec, rfl, rfl, rfl, rfl, rfl, rfl, rfl⟩
  case takes =>
    intro s q rest b f h hunsure habsent hpref hready hflat
    have hexec := exec_jobStart h
    rw [hunsure, if_neg nofun] at hexec
    obtain ⟨-, -, -, -, -, -, horder, hstop⟩ := h
    have hdata : ((s.prepared q rest).flat b).data = some f := by
      have : (s.prepared q rest).flat b = s.flat b := by cases b <;> rfl
      rw [this, hflat]
    have husable : (s.prepared q rest).usable b = true := by
      have hbank : (s.prepared q rest).bank b = s.bank b := by cases b <;> rfl
      have hvalid : (s.prepared q rest).flat b = s.flat b := by cases b <;> rfl
      exact (usable_iff _ b).mpr ⟨hbank ▸ hready, by rw [hvalid, hflat]⟩
    have hcheck : prepCheck (s.prepared q rest) = bankChoice ⟨q.number, q.record, s.time.count⟩ (s.prepared q rest) := by
      unfold prepCheck
      exact if_neg (by rw [show (s.prepared q rest).platePresent = false from habsent]; decide)
    have htop := topRungTo_largest f.record.eFlat 7
    have hstale := isStale_of_flat hdata
    rw [hcheck, bankChoice_taken (chooseBank_first hpref husable) (by exact horder) (by exact hstop), takeBank_eq] at hexec
    generalize (s.prepared q rest).isStale b = stale at hexec hstale
    refine ⟨_, topRung f.record.eFlat, stale, hexec, hstale, htop.1, htop.2.1, htop.2.2, rfl, ?_, ?_, ?_, ?_, rfl, rfl, rfl, rfl, rfl⟩
    · dsimp only
      rw [State.clamped, eFlat_of_flat hdata]
      cases b <;> cases stale <;> rfl
    · cases b <;> cases stale <;> rfl
    · cases b <;> cases stale <;> simp [State.prepared, noBanks, BankSet.has, State.jobCtx, State.tileCtx, State.preparingPass]
    · refine congrArg s.link.posted ?_
      unfold plateStart
      dsimp only
      rw [State.clamped, eFlat_of_flat hdata]
      cases b <;> cases stale <;> rfl

/-! ### A job that ends at its start (R23, R24, R44) -/

/-- A halt met with no tile in hand, and no job that it ends. -/
theorem halt_stays {s : State} (h : s.pass.state ≠ .halted) (ht : s.pass.tile = none)
    (hstays : s.pass.job = none ∨ s.pass.handedOver ≠ 0 ∨ s.pass.plate = .onTable ∨ s.pass.plate ≠ .returned ∧ s.pass.mark ≠ some .failed)
    (k : FaultKind) (injected : Bool) : ∃ (c : Option Calibration) (i : Intake) (l : Link),
      (s.link.posted (.halted k injected s.pass.state (s.pass.job.map (·.number)) none s.time.count)).PostsTo l
      ∧ (s.cal.cal = none → c = none)
      ∧ halt k injected s = { s with
          pass := s.pass.halting, ladder := s.ladder.map (Ladder.stopped .halted), lamps := s.lamps.dark, intake := i, cal.cal := c
          motion := { s.motion.stopping s.params.moveLimit s.now with homeRequest := false }, link := l } := by
  have hloose : haltTile (haltBegun k injected s) = haltBegun k injected s := by
    have htile : (haltBegun k injected s).pass.tile = none := by rw [haltBegun_pass]; exact ht
    refine (haltTile_loose htile).trans (jobEndCheck_stays ?_)
    rw [plateLetsEnd_halted (by rw [haltBegun_pass]; rfl), haltBegun_pass]
    rcases hstays with hj | hh | hp | ⟨hp, hm⟩
    · exact .inl hj
    · exact .inr (.inr (.inl hh))
    · exact .inr (.inr (.inr (.inr (by simp [Pass.halting, hp]))))
    · exact .inr (.inr (.inr (.inr (by simp [Pass.halting, hp, hm]))))
  obtain ⟨c, i, l, hl, hi, -, hend, -⟩ := halt_ends h k injected hloose
  rw [haltBegun_eq] at hl hi hend
  have htile : s.tileCtx = none := by rw [State.tileCtx, ht, Option.map_none]
  rw [htile] at hl
  exact ⟨c, i, l, hl, fun hc => (hi hc).1, hend⟩

/-- What an escalation taken before its action leaves, the HALTED notice posted second at the latest. -/
theorem haltedFirst_of {s t : State} {k : FaultKind} {entered : PassState} {job : Option Nat} {tile : Option (Nat × Nat)} {l : Link}
    (hstate : t.pass.state = .halted) (horder : t.motion.order = none) (hstop : t.motion.stop ≠ none)
    (hescalations : t.faults.escalations = []) (hahead : t.faults.ahead = s.faults.ahead.tail)
    (hl : l.notices.length ≤ s.link.notices.length + 1)
    (hposts : (l.posted (.halted k false entered job tile s.time.count)).PostsTo t.link) : HaltedFirst s t k entered job tile :=
  ⟨hstate, horder, hstop, hescalations, hahead, fun hroom => hposts.mem (by omega)⟩

/-- The fault just raised is recorded before its action: what stands then, and, where the recording is all, the state. -/
theorem takeAhead_recorded {s : State} (k : FaultKind) (ctx : Ctx) {a : Ahead} {more : List Ahead} (ha : s.faults.ahead = a :: more)
    (hne : a ≠ .no) (h : s.pass.state ≠ .halted) (ht : s.pass.tile = none)
    (hstays : s.pass.job = none ∨ s.pass.handedOver ≠ 0 ∨ s.pass.plate = .onTable ∨ s.pass.plate ≠ .returned ∧ s.pass.mark ≠ some .failed) :
    ∃ (f : Faults) (l : Link), f.raised = s.faults.raised ∧ f.jobMark = s.jobMarkAfter k ∧ f.ahead = more
      ∧ (takeAhead (raiseFault k ctx s) = { s with faults := f, link := l }
        ∨ a = .halted ∧ ∃ (p : Pass) (o : Option Ladder) (lamps : Lamps) (i : Intake) (c : Option Calibration) (m : Motion), p = s.pass.halting
          ∧ m.order = none ∧ takeAhead (raiseFault k ctx s) =
            { s with faults := f, link := l, pass := p, ladder := o, lamps := lamps, intake := i, cal.cal := c, motion := m }) := by
  obtain ⟨f, ns, -, hrec, hraised, hahead, hmark, -⟩ := recordFault_writes k ctx false
    { s with faults.ahead := more, faults.raised := s.faults.raised }
  have htaken := takeAhead_raised (raiseFault k ctx s) s.faults.raised ⟨k, ctx⟩ a more rfl ha hne
  have hlit : { raiseFault k ctx s with faults.ahead := more, faults.raised := s.faults.raised }
      = { s with faults.ahead := more, faults.raised := s.faults.raised } := rfl
  dsimp only at htaken
  rw [hlit, hrec] at htaken
  by_cases hhalted : a = .halted
  · rw [if_pos hhalted] at htaken
    cases he : f.escalations with
    | nil =>
      refine ⟨f, ns.foldl Link.posted s.link, hraised, hmark, hahead, .inl (htaken.trans ?_)⟩
      simp only [haltNext, he]
    | cons e es =>
      obtain ⟨c, i, l, -, -, hend⟩ := halt_stays
        (s := { s with faults := { f with escalations := es }, link := ns.foldl Link.posted s.link }) h ht hstays e.1 e.2
      refine ⟨{ f with escalations := es }, l, hraised, hmark, hahead, .inr ⟨hhalted, _, _, _, i, c, _, rfl, ?_, htaken.trans
        ((haltNext_of_cons _ e es he).trans hend)⟩⟩
      rfl
  · rw [if_neg hhalted] at htaken
    exact ⟨f, ns.foldl Link.posted s.link, hraised, hmark, hahead, .inl htaken⟩

/-- An escalation that comes before its action, with no tile in hand and no job that the halt ends. -/
theorem takeAhead_escalates_stays {s : State} {k : FaultKind} (h : EscalatesFirst s k) (ctx : Ctx) (hstate : s.pass.state ≠ .halted)
    (ht : s.pass.tile = none)
    (hstays : s.pass.job = none ∨ s.pass.handedOver ≠ 0 ∨ s.pass.plate = .onTable ∨ s.pass.plate ≠ .returned ∧ s.pass.mark ≠ some .failed) :
    ∃ (f : Faults) (i : Intake) (c : Option Calibration) (l : Link),
      takeAhead (raiseFault k ctx s) = { s with
          faults := f, pass := s.pass.halting, ladder := s.ladder.map (Ladder.stopped .halted), lamps := s.lamps.dark, intake := i, cal.cal := c
          motion := { s.motion.stopping s.params.moveLimit s.now with homeRequest := false }, link := l }
        ∧ f.raised = s.faults.raised ∧ f.jobMark = s.jobMarkAfter k ∧ (s.cal.cal = none → c = none) ∧ s.link.PostsTo l
        ∧ HaltedFirst s (takeAhead (raiseFault k ctx s)) k s.pass.state (s.pass.job.map (·.number)) none := by
  obtain ⟨f, l, htaken, hesc, hahead, hraised, hmark, hposts, hlen⟩ := takeAhead_escalates h ctx
  obtain ⟨c, i, l', hl', hc, hend⟩ := halt_stays (s := { s with faults := f, link := l }) hstate ht hstays k false
  rw [hend] at htaken
  rw [htaken]
  exact ⟨f, i, c, l', rfl, hraised, hmark, hc, hposts.trans ((Link.PostsTo.posted l _).trans hl'),
    haltedFirst_of (l := l) rfl rfl nofun hesc hahead hlen hl'⟩

/-- A job's end after the halt keeps what the halt left. -/
theorem HaltedFirst.endJob {s t : State} {k : FaultKind} {entered : PassState} {job : Option Nat} {tile : Option (Nat × Nat)} {j : JobInHand}
    (h : HaltedFirst s t k entered job tile) (hj : t.pass.job = some j) (hm : t.faults.jobMark ≠ none ∨ t.faults.raised = [])
    (occupied : Bool) : HaltedFirst s (Machine.endJob occupied t) k entered job tile := by
  obtain ⟨hstate, horder, hstop, hesc, hahead, hnotice⟩ := h
  obtain ⟨x, hx, hended, -⟩ := endJob_ends hj occupied
  have hkept := hx.kept hm
  rw [hended]
  refine ⟨if_pos hstate, horder, hstop, (congrArg Faults.escalations hkept).trans hesc, (congrArg Faults.ahead hkept).trans hahead,
    fun hroom => ?_⟩
  exact ((Link.PostsTo.posts t.link _).keeps.map _).subset (hnotice hroom)

theorem filter_number_head {q : QueueJob} {rest : List QueueJob} (h : ∀ p ∈ rest, p.number ≠ q.number) {p : QueueJob}
    (hp : p.number = q.number) : (p :: rest).filter (fun j => decide (j.number ≠ q.number)) = rest := by
  rw [List.filter_cons_of_neg (by simpa using hp)]
  exact List.filter_eq_self.mpr fun p hp => by simpa using h p hp

/-- The queue once the job just started has ended. -/
theorem ended_queue {s t : State} {q : QueueJob} {rest : List QueueJob} (hdistinct : ∀ p ∈ rest, p.number ≠ q.number)
    (hqueue : t.queue = { s.queue with jobs := { q with active := true, started := some s.time.count } :: rest })
    (hpass : t.pass.counts = noCounts ∧ t.pass.banksUsed = noBanks ∧ t.pass.stale = false) (htime : t.time = s.time) (occupied : Bool)
    (x : JobEnd) :
    (t.ended occupied ⟨q.number, q.record, s.time.count⟩ x).queue = { s.queue with
      jobs := rest, run := runAfterJob occupied s.queue.run
      history := (if s.queue.history.length < 8 then s.queue.history else s.queue.history.drop 1)
        ++ [⟨q.number, q.record.plateId, q.record.slot, t.outcome, ⟨0, 0, 0, 0, 0⟩, ⟨false, false⟩, false, some s.time.count,
          s.time.count, x.fault.first⟩] } := by
  obtain ⟨hcounts, hused, hstale⟩ := hpass
  unfold State.ended State.entryOf
  dsimp only
  rw [hqueue, hcounts, hused, hstale, State.tag, htime]
  dsimp only
  rw [filter_number_head hdistinct (p := { q with active := true, started := some s.time.count }) rfl]
  rfl

/-- Settles O23. -/
theorem jobStartEndsTheJobWithoutABank : Obligations.JobStartEndsTheJobWithoutABank := by
  intro s q rest h hunsure hdistinct
  have hexec := exec_jobStart h
  rw [hunsure, if_neg nofun] at hexec
  obtain ⟨hjobs, hactive, hrun, hidle, hcal, hhome, horder, hstop⟩ := h
  refine ⟨fun hpresent hahead => ?_, fun a more hpresent hahead hne => ?_, fun habsent hraised hbanks => ?_⟩
  · have hcheck : prepCheck (s.prepared q rest) = endJob true (setMark .failed
        (raiseFault .tableOccupied ⟨some (q.number, q.record.plateId), none, none, none⟩ (s.prepared q rest))) := by
      unfold prepCheck
      refine (if_pos (show (s.prepared q rest).platePresent = true from hpresent)).trans ?_
      rw [takeAhead_of_none _ (by exact hahead)]
      rfl
    obtain ⟨x, hx, hended, -⟩ := endJob_ends (s := setMark .failed (raiseFault .tableOccupied ⟨some (q.number, q.record.plateId), none, none,
      none⟩ (s.prepared q rest))) (j := ⟨q.number, q.record, s.time.count⟩) rfl true
    have hfirst := hx.first
    refine ⟨_, x.fault.first, hexec.trans (congrArg Host.Outcome.next (hcheck.trans hended)), ?_, rfl, rfl, rfl, rfl, hfirst, hx.jobMark,
      horder, hstop, rfl, rfl, rfl⟩
    exact ended_queue hdistinct rfl ⟨rfl, rfl, rfl⟩ rfl true x
  · have hcheck : prepCheck (s.prepared q rest) = endJob true (setMark .failed (takeAhead
        (raiseFault .tableOccupied ⟨some (q.number, q.record.plateId), none, none, none⟩ (s.prepared q rest)))) := if_pos hpresent
    rw [hcheck] at hexec
    have hidle : (s.prepared q rest).pass.state ≠ .halted := by simp [State.prepared, State.preparingPass]
    have hstays : (s.prepared q rest).pass.job = none ∨ (s.prepared q rest).pass.handedOver ≠ 0 ∨ (s.prepared q rest).pass.plate = .onTable
        ∨ (s.prepared q rest).pass.plate ≠ .returned ∧ (s.prepared q rest).pass.mark ≠ some .failed :=
      .inr (.inr (.inr ⟨nofun, nofun⟩))
    obtain ⟨f, l, hraised, hmark, hah, hu⟩ := takeAhead_recorded (s := s.prepared q rest) .tableOccupied
      ⟨some (q.number, q.record.plateId), none, none, none⟩ hahead hne hidle rfl hstays
    have hmark : f.jobMark = some .tableOccupied := hmark
    have hescalates (h : EscalatesFirst s .tableOccupied) := takeAhead_escalates_stays (s := s.prepared q rest) h
      ⟨some (q.number, q.record.plateId), none, none, none⟩ hidle rfl hstays
    refine ⟨_, hexec, ?_⟩
    generalize takeAhead (raiseFault .tableOccupied ⟨some (q.number, q.record.plateId), none, none, none⟩ (s.prepared q rest)) = u
      at hu hescalates ⊢
    have hleft : u.pass.job = some ⟨q.number, q.record, s.time.count⟩ ∧ u.faults = f ∧ u.queue = (s.prepared q rest).queue
        ∧ (u.pass.counts = noCounts ∧ u.pass.banksUsed = noBanks ∧ u.pass.stale = false) ∧ u.time = s.time ∧ u.motion.order = none
        ∧ u.out = s.out := by
      rcases hu with rfl | ⟨-, p, o, lamps, i, c, m, rfl, hm, rfl⟩
      · exact ⟨rfl, rfl, rfl, ⟨rfl, rfl, rfl⟩, rfl, horder, rfl⟩
      · exact ⟨rfl, rfl, rfl, ⟨rfl, rfl, rfl⟩, rfl, hm, rfl⟩
    obtain ⟨hjob, hf, hqueue, hpass, htime, hnone, hout⟩ := hleft
    obtain ⟨x, hx, hended, -⟩ := endJob_ends (s := setMark .failed u) hjob true
    have hkept : x.fault.faults = { f with jobMark := none } :=
      (hx.kept (.inl (by rw [show (setMark .failed u).faults = f from hf, hmark]; nofun))).trans
        (by rw [show (setMark .failed u).faults = f from hf])
    have hfirst : x.fault.first = some .tableOccupied := hx.marked _ (by rw [show (setMark .failed u).faults = f from hf, hmark])
    have hfiled := ended_queue (s := s) (t := setMark .failed u) hdistinct hqueue hpass htime true x
    rw [hfirst] at hfiled
    refine ⟨?_, ?_, ?_, ?_, ?_, ?_, ?_, ?_, fun ha => ?_, fun h => ?_⟩
    · exact (congrArg State.queue hended).trans hfiled
    · rw [hended]; rfl
    · rw [hended]; rfl
    · rw [hended]; rfl
    · rw [hended]
      exact (congrArg Faults.raised hkept).trans hraised
    · rw [hended]
      exact hx.jobMark
    · rw [hended]
      exact hnone
    · rw [hended]
      exact hout
    · rw [hended]
      rcases hu with rfl | ⟨hhalted, -⟩
      · exact ⟨rfl, hstop, rfl, rfl, (congrArg Faults.ahead hkept).trans hah⟩
      · exact nomatch ha.symm.trans hhalted
    · obtain ⟨-, -, -, -, -, -, -, -, -, hhalted⟩ := hescalates h
      exact HaltedFirst.endJob (t := setMark .failed u) hhalted hjob (.inl (by rw [show (setMark .failed u).faults = f from hf, hmark]; nofun)) true
  · have hnone : (s.prepared q rest).chooseBank q.record = none := by
      refine chooseBank_none fun b ha hb => ?_
      have hbank : (s.prepared q rest).bank b = s.bank b := by cases b <;> rfl
      have hflat : (s.prepared q rest).flat b = s.flat b := by cases b <;> rfl
      rw [State.usable, hbank, hflat]
      rcases hbanks b ha hb with h | h <;> simp [h]
    have hcheck : prepCheck (s.prepared q rest) = endJob false (setMark .noBank (s.prepared q rest)) := by
      unfold prepCheck
      refine (if_neg (show ¬ (s.prepared q rest).platePresent = true by rw [show (s.prepared q rest).platePresent = false from habsent]; decide)).trans ?_
      unfold bankChoice
      dsimp only
      rw [hnone]
    obtain ⟨x, hx, hended, -⟩ := endJob_ends (s := setMark .noBank (s.prepared q rest)) (j := ⟨q.number, q.record, s.time.count⟩) rfl false
    obtain ⟨hfirst, hleft⟩ : x.fault.first = none ∧ x.fault.faults.raised = [] := by
      have hfirst : EndsWithFirstFault none s.faults.raised x.fault.first x.fault.faults.raised := hx.first
      rw [hraised] at hfirst
      rcases hfirst with h | ⟨n, r, hr, -⟩
      · exact h
      · exact nomatch hr
    refine ⟨_, hexec.trans (congrArg Host.Outcome.next (hcheck.trans hended)), ?_, rfl, rfl, hleft, horder, hstop, rfl, rfl, rfl⟩
    have hqueue := ended_queue (s := s) (t := setMark .noBank (s.prepared q rest)) hdistinct rfl ⟨rfl, rfl, rfl⟩ rfl false x
    have hsame : runAfterJob false s.queue.run = s.queue.run := by rw [hrun]; rfl
    rw [hfirst, hsame] at hqueue
    exact hqueue

end Sys2Proof.Machine
end

section
/-! The boundary of a walk under way (R27 to R29), and an escalation that meets a tile in hand (R45, R46); O26. -/
namespace Sys2Proof.Machine
open Sys2Proof

/-! ### A halt met with a tile in hand -/

/-- A tile in hand that is not being settled is held: its plane is freed unless a frame is on its way into it. -/
theorem halt_held {s : State} {t : Tile} (h : s.pass.state ≠ .halted) (ht : s.pass.tile = some t) (hs : s.pass.settle = none)
    (k : FaultKind) (injected : Bool) :
    ∃ (c : Option Calibration) (i : Intake) (l : Link) (m : Merge) (p : Option PlaneId),
      (s.link.posted (.halted k injected s.pass.state (s.pass.job.map (·.number)) (some (t.row, t.col)) s.time.count)).PostsTo l
      ∧ m.freed p = s.merge.freed t.plane
      ∧ halt k injected s = { s with
          pass := { s.pass.halting with tile := some { t with plane := p }, settle := some .held }
          ladder := s.ladder.map (Ladder.stopped .halted), lamps := s.lamps.dark, intake := i, merge := m, cal.cal := c
          motion := { s.motion.stopping s.params.moveLimit s.now with homeRequest := false }, link := l }
      ∧ (halt k injected s).fillingSlot = s.fillingSlot
      ∧ ∀ lad, s.ladder = some lad → lad.stopping = .no → s.lamps.exposure = none → ∀ n d, s.slot n = some d → d.taker = .ladder →
          d.state ≠ .valid → (halt k injected s).slot n = some (if s.fillingSlot = some n then { d with discard := true } else d) := by
  have hb := haltBegun_pass k injected s
  obtain ⟨m, p, hm, hheld⟩ := haltTile_held (b := haltBegun k injected s) (t := t) (by rw [hb]; exact ht) (by rw [hb]; exact hs)
  obtain ⟨c, i, l, hl, -, -, hend, hfill, hslots⟩ := halt_ends h k injected hheld
  have hbfill := haltBegun_fillingSlot k injected s
  have hbslot := fun lad hl hn hx => slot_haltBegun (s := s) (l := lad) hl hn hx k injected
  have hslot (n : SlotId) : State.slot { haltBegun k injected s with
      merge := m, pass.tile := some { t with plane := p }, pass.settle := some .held } n = (haltBegun k injected s).slot n := by
    cases n <;> rfl
  have htile : s.tileCtx = some (t.row, t.col) := by rw [State.tileCtx, ht, Option.map_some]
  refine ⟨c, i, l, m, p, ?_, ?_, ?_, hfill.trans hbfill, fun lad hlad hno hx n d hd htaker hvalid => ?_⟩
  · rw [haltBegun_eq, htile] at hl
    exact hl
  · rw [hm, haltBegun_eq]
  · rw [hend, haltBegun_eq]
  · have hnot : s.validFor .ladder n = false := by
      rw [State.validFor, hd, Option.any_some, decide_eq_false_iff_not]
      exact fun h => hvalid h.1
    have hdirect : (haltBegun k injected s).slot n = some (if s.fillingSlot = some n then { d with discard := true } else d) := by
      rw [hbslot lad hlad hno hx, hnot, slot_markFilling, hd]
      by_cases hf : s.fillingSlot = some n
      · rw [if_neg Bool.false_ne_true, if_pos hf, if_pos hf, Option.map_some, Slot.markedFor, if_pos htaker]
      · rw [if_neg Bool.false_ne_true, if_neg hf, if_neg hf]
    refine hslots n _ ((hslot n).trans hdirect) ?_
    split <;> exact htaker

/-- An escalation that comes before its action, with a tile in hand that is not being settled. -/
theorem takeAhead_escalates_held {s : State} {k : FaultKind} {t : Tile} (h : EscalatesFirst s k) (ctx : Ctx) (hstate : s.pass.state ≠ .halted)
    (ht : s.pass.tile = some t) (hs : s.pass.settle = none) :
    ∃ (f : Faults) (c : Option Calibration) (i : Intake) (l : Link) (m : Merge) (p : Option PlaneId), m.freed p = s.merge.freed t.plane
      ∧ takeAhead (raiseFault k ctx s) = { s with
          faults := f, pass := { s.pass.halting with tile := some { t with plane := p }, settle := some .held }
          ladder := s.ladder.map (Ladder.stopped .halted), lamps := s.lamps.dark, intake := i, merge := m, cal.cal := c
          motion := { s.motion.stopping s.params.moveLimit s.now with homeRequest := false }, link := l }
      ∧ f.raised = s.faults.raised ∧ s.link.PostsTo l
      ∧ HaltedFirst s (takeAhead (raiseFault k ctx s)) k s.pass.state (s.pass.job.map (·.number)) (some (t.row, t.col))
      ∧ (takeAhead (raiseFault k ctx s)).fillingSlot = s.fillingSlot
      ∧ ∀ lad, s.ladder = some lad → lad.stopping = .no → s.lamps.exposure = none → ∀ n d, s.slot n = some d → d.taker = .ladder →
          d.state ≠ .valid → (takeAhead (raiseFault k ctx s)).slot n
            = some (if s.fillingSlot = some n then { d with discard := true } else d) := by
  obtain ⟨f, l, htaken, hesc, hahead, hraised, -, hposts, hlen⟩ := takeAhead_escalates h ctx
  obtain ⟨c, i, l', m, p, hl', hm, hend, hfill, hslots⟩ := halt_held (s := { s with faults := f, link := l }) (t := t) hstate ht hs k false
  have hfirst : HaltedFirst s (halt k false { s with faults := f, link := l }) k s.pass.state (s.pass.job.map (·.number))
      (some (t.row, t.col)) := by
    rw [hend]
    exact haltedFirst_of (l := l) rfl rfl nofun hesc hahead hlen hl'
  rw [htaken]
  refine ⟨f, c, i, l', m, p, hm, hend, hraised, hposts.trans ((Link.PostsTo.posted l _).trans hl'), hfirst, hfill, ?_⟩
  intro lad hlad hno hx n d hd
  have hslot : State.slot { s with faults := f, link := l } n = s.slot n := by cases n <;> rfl
  exact hslots lad hlad hno hx n d (hslot.trans hd)

/-! ### The boundary, tile by tile (R27 to R29) -/

/-- The pass with the tile at the walk position taken into hand, its place being `cell`. -/
def Pass.taking (p : Pass) (cell : Nat × Nat) (phase : TilePhase) (tag : Nat) : Pass :=
  { p with state := .walking, tile := some ⟨cell.1, cell.2, p.walkPos, phase, tag, false, none⟩, walkPos := p.walkPos + 1 }

theorem takeTile_eq (j : JobInHand) (s : State) :
    takeTile j s = { s with pass := s.pass.taking (j.record.cell s.pass.walkPos) .deciding s.time.count } := rfl

/-- The MOVE to a tile's target point. -/
def JobRecord.moveTo (r : JobRecord) (cell : Nat × Nat) : Wanted := ⟨.move, r.targetX cell.2, r.targetY cell.1, .pass⟩

theorem boundary_walks {s : State} {j : JobInHand} (hstate : s.pass.state ≠ .halted) (hj : s.pass.job = some j) :
    boundary s = boundaryLoop (j.record.tiles + 1) s := by
  unfold boundary
  split
  · next h => exact absurd h hstate
  · next h _ => exact nomatch hj.symm.trans h
  · next h _ => cases hj.symm.trans h; rfl

theorem boundary_halted {s : State} (h : s.pass.state = .halted) : boundary s = s := by
  unfold boundary
  rw [h]

/-- One turn of the boundary: the next tile, by the zone table's answer. -/
theorem boundaryLoop_next {s : State} {j : JobInHand} {cell : Nat × Nat} (n : Nat) (hj : s.pass.job = some j) (hm : s.pass.mark = none)
    (hp : s.pass.pausePending = false) (hw : s.pass.walkPos < j.record.tiles) (hc : cell = j.record.cell s.pass.walkPos) :
    (zoneAnswer s.zones j.record cell.1 cell.2 = .none → boundaryLoop (n + 1) s
        = wantOrder (j.record.moveTo cell) { s with pass := s.pass.taking cell .moving s.time.count })
    ∧ (∀ e, zoneAnswer s.zones j.record cell.1 cell.2 = .skip e → boundaryLoop (n + 1) s
        = boundaryLoop n (decideRecord j .skipped (hitZone e { s with pass := s.pass.taking cell .deciding s.time.count })))
    ∧ (∀ e, zoneAnswer s.zones j.record cell.1 cell.2 = .guard e →
        let u := raiseFault .guardTile ⟨some (j.number, j.record.plateId), some cell, none, none⟩
          (hitZone e { s with pass := s.pass.taking cell .deciding s.time.count })
        (s.faults.ahead = [] → boundaryLoop (n + 1) s = boundaryLoop n (decideRecord j .guarded u))
        ∧ (s.faults.ahead.head? = some .halted → boundaryLoop (n + 1) s = u)) := by
  subst hc
  have hclosed : ¬ (s.pass.mark.isSome = true ∧ s.pass.walkPos < j.record.tiles) := fun h => by simp [hm] at h
  have hmore : decide (s.pass.walkPos < j.record.tiles ∧ s.pass.mark = none) = true := decide_eq_true ⟨hw, hm⟩
  have hctx : State.passCtx { s with pass := s.pass.taking (j.record.cell s.pass.walkPos) .deciding s.time.count }
      = ⟨some (j.number, j.record.plateId), some (j.record.cell s.pass.walkPos), none, none⟩ := by
    simp only [State.passCtx, State.jobCtx, State.tileCtx, Pass.taking, hj, Option.map_some]
  have hpos : (s.pass.taking (j.record.cell s.pass.walkPos) .deciding s.time.count).walkPos - 1 = s.pass.walkPos := rfl
  refine ⟨fun hz => ?_, fun e hz => ?_, fun e hz => ⟨fun ha => ?_, fun ha => ?_⟩⟩
  all_goals
    conv_lhs => unfold boundaryLoop
    rw [hj]
    dsimp only
    rw [if_neg hclosed, hmore, hp, if_neg Bool.false_ne_true, if_pos rfl, takeTile_eq]
    dsimp only
    rw [hpos, hz]
  · rfl
  · dsimp only
    rw [hctx]
    split
    · rfl
    · next h => exact nomatch ha.symm.trans h
    · next h => exact nomatch ha.symm.trans h
    · next h => exact nomatch ha.symm.trans h
  · dsimp only
    rw [hctx]
    split
    · next h => rw [show s.faults.ahead = _ from h] at ha; exact nomatch ha
    · next h => rw [show s.faults.ahead = _ from h] at ha; exact nomatch ha
    · rfl
    · rfl

/-- After the last tile the pass returns. -/
theorem boundaryLoop_complete {s : State} {j : JobInHand} (n : Nat) (hj : s.pass.job = some j) (hp : s.pass.pausePending = false)
    (hw : s.pass.walkPos = j.record.tiles) : boundaryLoop (n + 1) s = enterReturning s := by
  have hmore : ¬ (s.pass.walkPos < j.record.tiles ∧ s.pass.mark = none) := fun h => by omega
  have hclosed : ¬ (s.pass.mark.isSome = true ∧ s.pass.walkPos < j.record.tiles) := fun h => by omega
  unfold boundaryLoop
  rw [hj]
  dsimp only
  rw [if_neg hclosed, decide_eq_false hmore, hp]
  rfl

/-- The record of a tile decided without a capture, its two time tags equal. -/
def JobInHand.decided (j : JobInHand) (t : Tile) (status : TileStatus) : TileRecord :=
  plainRecord j t.row t.col t.ordinal status none t.started t.started

theorem decideRecord_notes {s : State} {j : JobInHand} {t : Tile} (ht : s.pass.tile = some t) (status : TileStatus) :
    ∃ n : Notes, s.link.PostsTo n.link ∧ n.newest = (s.out.newest + 1) % 4294967296
      ∧ n.records.getLast? = some { j.decided t status with sequence := (s.out.newest + 1) % 4294967296 }
      ∧ decideRecord j status s
        = { s with pass := { s.pass with tile := none, counts := s.pass.counts.count (j.decided t status) } }.noted n := by
  obtain ⟨n, hn, hnew, hlast, hwrite⟩ := writeRecord_notes (j.decided t status) j.record.notifyQuiet { s with pass.tile := none }
  refine ⟨n, hn, hnew, hlast, ?_⟩
  unfold decideRecord
  rw [ht]
  exact hwrite

/-- What a halt left stands where what follows leaves the pass HALTED, the motion port and the faults, and keeps the notices queued. -/
theorem HaltedFirst.of_leaves {s t u : State} {k : FaultKind} {entered : PassState} {job : Option Nat} {tile : Option (Nat × Nat)}
    (h : HaltedFirst s t k entered job tile) (hstate : u.pass.state = .halted) (horder : u.motion.order = none)
    (hstop : u.motion.stop ≠ none) (hesc : u.faults.escalations = t.faults.escalations) (hahead : u.faults.ahead = t.faults.ahead)
    (hlink : t.link.notices <+: u.link.notices) : HaltedFirst s u k entered job tile := by
  obtain ⟨-, -, -, hesc', hahead', hnotice⟩ := h
  exact ⟨hstate, horder, hstop, hesc.trans hesc', hahead.trans hahead', fun hroom => (hlink.map _).subset (hnotice hroom)⟩

/-- A tile that waits in DECIDING for what comes before its record gets it, and the boundary is reached again. -/
theorem takeGuards_deciding {s : State} {j : JobInHand} {t : Tile} (hj : s.pass.job = some j) (hl : s.ladder = none)
    (ht : s.pass.tile = some t) (hp : t.phase = .deciding) (n : Nat) :
    takeGuards (n + 1) s = takeGuards n (boundary (decideRecord j .guarded { takeAhead s with pass.settle := none })) := by
  conv_lhs => unfold takeGuards
  rw [hj, hl]
  exact if_pos (by rw [ht, Option.any_some, decide_eq_true hp])

/-- A tile in hand that is past its decision waits for nothing. -/
theorem takeGuards_decided {s : State} (h : ∀ t, s.pass.tile = some t → t.phase ≠ .deciding) (n : Nat) : takeGuards n s = s := by
  cases n with
  | zero => rfl
  | succ n =>
    unfold takeGuards
    split
    · rfl
    · rfl
    · refine if_neg ?_
      cases ht : s.pass.tile with
      | none => simp
      | some t => simpa using h t ht

end Sys2Proof.Machine
end

section
/-! RESUME at resume point NEXT_TILE (R27 to R29, R40, R148); O26. -/
namespace Sys2Proof.Machine
open Sys2Proof

/-- The pass as a RESUME in PAUSED leaves it for the boundary. -/
def Pass.resumed (p : Pass) : Pass := { p with resumePoint := none, pausePending := false, budget := p.budget.resume }

theorem resumePaused_next {s : State} (h : s.pass.resumePoint = some .nextTile) :
    resumePaused s = takeGuard (boundary { s with pass := s.pass.resumed }) := by
  unfold resumePaused
  rw [h, runBudget_eq]
  rfl

theorem exec_resume_next {tag flags : Byte} {rest : List (List Byte)} {s u : State} (hat : AtHead 8 tag flags [] rest s)
    (hs : s.pass.state = .paused) (hj : s.pass.job ≠ none) (hp : s.pass.resumePoint = some .nextTile)
    (hu : takeGuard (boundary { s with link.intake := rest, pass := s.pass.resumed }) = u) :
    exec .resume s = .next (u.answer rest 8 tag (.ok (.passState u.pass.state)))
      ∧ u.link.replies = s.link.replies := by
  have heq : resumePaused { s with link.intake := rest } = u := (resumePaused_next (s := { s with link.intake := rest }) hp).trans hu
  have hframe := resumePaused_frame { s with link.intake := rest }
  rw [heq] at hframe
  obtain ⟨-, -, -, -, -, -, -, -, -, -, hintake, hreplies, -⟩ := hframe
  refine ⟨exec_answer_noBody rfl rfl hat ?_, hreplies⟩
  have hself : u = { u with link.intake := rest } := by
    rw [← show u.link.intake = rest from hintake]
  rw [resume_of_job (s := { s with link.intake := rest }) hj, hs, heq]
  exact congrArg _ hself

theorem zones_getD {zones : List (Option Zone)} {e : Nat} {z : Option Zone} (h : zones[e]? = some z) : zones.getD e none = z := by
  rw [List.getD_eq_getElem?_getD, h]
  rfl

theorem firstZone_set {p : Zone → Bool} {e : Nat} {z z' : Zone} (hp : p z' = p z) (n : Nat) {zones : List (Option Zone)}
    (h : zones[e]? = some (some z)) : firstZone p n (zones.set e (some z')) = firstZone p n zones := by
  induction zones generalizing n e with
  | nil => rfl
  | cons y ys ih =>
    cases e with
    | zero =>
      obtain rfl : y = some z := by simpa using h
      rw [List.set_cons_zero, firstZone, firstZone, Option.any_some, Option.any_some, hp]
    | succ e =>
      rw [List.set_cons_succ, firstZone, firstZone, ih (n + 1) (by simpa using h)]

/-- A zone's hits do not enter into the table's answers. -/
theorem zoneAnswer_hit {e : Nat} {z : Zone} {zones : List (Option Zone)} (h : zones[e]? = some (some z)) (hits : Nat) (r : JobRecord)
    (row col : Nat) : zoneAnswer (zones.set e (some { z with hits := hits })) r row col = zoneAnswer zones r row col := by
  unfold zoneAnswer
  rw [firstZone_set (z := z) (z' := { z with hits := hits }) rfl 0 h, firstZone_set (z := z) (z' := { z with hits := hits }) rfl 0 h]

theorem hitZone_eq {s : State} {e : Nat} {z : Zone} (h : s.zones[e]? = some (some z)) :
    hitZone e s = { s with zones := s.zones.set e (some { z with hits := min 65535 (z.hits + 1) }) } := by
  unfold hitZone
  rw [zones_getD h]
  rfl

/-- The state once the tile at the walk position, one that a zone answers for, is decided without a capture. -/
def State.passedOver (s : State) (counts : RecordCounts) (zones : List (Option Zone)) (raised : List Raised) : State :=
  { s with
    pass := { s.pass with state := .walking, tile := none, walkPos := s.pass.walkPos + 1, counts := counts }
    zones := zones, faults.raised := raised }

/-- Settles O26. -/
theorem resumeTakesTheNextTileIntoHand : Obligations.ResumeTakesTheNextTileIntoHand := by
  intro tag flags rest s j row col hat hs hj hp hmark htile hwalk horder hstop hcell
  have hjob : s.pass.job ≠ none := fun h => nomatch hj.symm.trans h
  have hwalks : boundary { s with link.intake := rest, pass := s.pass.resumed }
      = boundaryLoop (j.record.tiles + 1) { s with link.intake := rest, pass := s.pass.resumed } :=
    boundary_walks (show s.pass.state ≠ .halted by rw [hs]; nofun) hj
  have hstep (n : Nat) := boundaryLoop_next (s := { s with link.intake := rest, pass := s.pass.resumed }) n hj hmark rfl hwalk hcell
  refine ⟨fun hz => ?none, fun e z status next r hz hzone hnext hclear hr => ?passed, fun e z hz hzone hesc hladder hsettle => ?halted⟩
  case none =>
    have hu : takeGuard (boundary { s with link.intake := rest, pass := s.pass.resumed })
        = { s with
            link.intake := rest, pass := s.pass.resumed.taking (row, col) .moving s.time.count
            motion := s.motionIssued (j.record.moveTo (row, col)) false } := by
      rw [hwalks, (hstep _).1 hz, wantOrder_free (by exact horder) (by exact hstop)]
      exact takeGuards_decided (fun t ht => by cases ht; exact nofun) _
    obtain ⟨hexec, -⟩ := exec_resume_next hat hs hjob hp hu
    refine ⟨{ s with
      pass := s.pass.resumed.taking (row, col) .moving s.time.count, motion := s.motionIssued (j.record.moveTo (row, col)) false },
      hexec, rfl, rfl, rfl⟩
  case passed =>
    obtain ⟨n, hnew, hlast, hloop⟩ : ∃ n : Notes, n.newest = r.sequence ∧ n.records.getLast? = some r
        ∧ boundaryLoop (j.record.tiles + 1) { s with link.intake := rest, pass := s.pass.resumed }
          = boundaryLoop j.record.tiles (State.noted (State.passedOver { s with link.intake := rest, pass := s.pass.resumed }
              (if status = .skipped then { s.pass.counts with skipped := s.pass.counts.skipped + 1 }
                else { s.pass.counts with guarded := s.pass.counts.guarded + 1 })
              (s.zones.set e (some { z with hits := min 65535 (z.hits + 1) }))
              (s.faults.raised ++ (if status = .guarded then
                [⟨.guardTile, ⟨some (j.number, j.record.plateId), some (row, col), none, none⟩⟩] else []))) n) := by
      subst hr
      rcases hz with ⟨hz, rfl⟩ | ⟨hz, rfl, hahead⟩
      · obtain ⟨n, -, hnew, hlast, hdecided⟩ := decideRecord_notes (j := j) (t := ⟨row, col, s.pass.walkPos, .deciding, s.time.count, false, none⟩)
          (s := hitZone e { s with link.intake := rest, pass := s.pass.resumed.taking (row, col) .deciding s.time.count }) rfl .skipped
        rw [hitZone_eq (by exact hzone)] at hnew hlast hdecided
        have hturn := (hstep j.record.tiles).2.1 e hz
        dsimp only at hturn
        rw [hitZone_eq (by exact hzone)] at hturn
        exact ⟨n, hnew, hlast, hturn.trans (congrArg (boundaryLoop j.record.tiles) (hdecided.trans (by simp [State.passedOver]; rfl)))⟩
      · obtain ⟨n, -, hnew, hlast, hdecided⟩ := decideRecord_notes (j := j) (t := ⟨row, col, s.pass.walkPos, .deciding, s.time.count, false, none⟩)
          (s := raiseFault .guardTile ⟨some (j.number, j.record.plateId), some (row, col), none, none⟩
            (hitZone e { s with link.intake := rest, pass := s.pass.resumed.taking (row, col) .deciding s.time.count })) rfl .guarded
        rw [hitZone_eq (by exact hzone)] at hnew hlast hdecided
        have hturn := ((hstep j.record.tiles).2.2 e hz).1 hahead
        rw [hitZone_eq (by exact hzone)] at hturn
        exact ⟨n, hnew, hlast, hturn.trans (congrArg (boundaryLoop j.record.tiles) (hdecided.trans (by simp [State.passedOver]; rfl)))⟩
    obtain ⟨m, hm⟩ : ∃ m, j.record.tiles = m + 1 := Nat.exists_eq_succ_of_ne_zero (by rw [tiles_eq]; omega)
    generalize hcounts : (if status = .skipped then { s.pass.counts with skipped := s.pass.counts.skipped + 1 }
                else { s.pass.counts with guarded := s.pass.counts.guarded + 1 } : RecordCounts) = counts at hloop ⊢
    generalize s.faults.raised ++ (if status = .guarded then
                [⟨.guardTile, ⟨some (j.number, j.record.plateId), some (row, col), none, none⟩⟩] else []) = raised at hloop ⊢
    rw [hm] at hloop
    by_cases hlast' : s.pass.walkPos + 1 = j.record.rows * j.record.cols
    · rw [boundaryLoop_complete m (by exact hj) rfl (by exact hlast'), enterReturning_free (by exact horder) (by exact hstop)] at hloop
      have hu := (congrArg takeGuard (hwalks.trans ((congrArg (boundaryLoop · _) (congrArg (· + 1) hm)).trans hloop))).trans
        (takeGuards_decided (by intro t ht; exact nomatch ht) _)
      obtain ⟨hexec, hreplies⟩ := exec_resume_next hat hs hjob hp hu
      refine ⟨_, hexec, rfl, hnew, hlast, rfl, rfl, rfl, rfl, rfl, rfl, rfl, fun _ => ⟨?_, rfl, rfl, rfl, rfl⟩, fun h => absurd hlast' (by omega)⟩
      exact congrArg (· ++ _) hreplies
    · have hbelow : s.pass.walkPos + 1 < j.record.rows * j.record.cols := by omega
      have hclear' := (zoneAnswer_hit hzone (min 65535 (z.hits + 1)) j.record next.1 next.2).trans (hclear hbelow)
      replace hloop := hloop.trans (((boundaryLoop_next m (by exact hj) (by exact hmark) rfl (by exact hbelow) (by exact hnext)).1 (by exact hclear')).trans
        (wantOrder_free (by exact horder) (by exact hstop)))
      have hu := (congrArg takeGuard (hwalks.trans ((congrArg (boundaryLoop · _) (congrArg (· + 1) hm)).trans hloop))).trans
        (takeGuards_decided (by intro t ht; cases ht; exact nofun) _)
      obtain ⟨hexec, hreplies⟩ := exec_resume_next hat hs hjob hp hu
      refine ⟨_, hexec, rfl, hnew, hlast, rfl, rfl, rfl, rfl, rfl, rfl, rfl, fun h => absurd h hlast', fun _ => ⟨?_, rfl, rfl, rfl, rfl⟩⟩
      exact congrArg (· ++ _) hreplies
  case halted =>
    obtain ⟨more, hahead⟩ : ∃ more, s.faults.ahead = .halted :: more := by
      have hhead := hesc.1
      cases ha : s.faults.ahead with
      | nil => rw [ha] at hhead; exact nomatch hhead
      | cons a as => rw [ha] at hhead; cases hhead; exact ⟨as, rfl⟩
    obtain ⟨g, hg⟩ : ∃ g : State, g = { s with
        link.intake := rest, pass := s.pass.resumed.taking (row, col) .deciding s.time.count
        zones := s.zones.set e (some { z with hits := min 65535 (z.hits + 1) }) } := ⟨_, rfl⟩
    have hstops := ((hstep j.record.tiles).2.2 e hz).2 hesc.1
    rw [hitZone_eq (by exact hzone), ← hg] at hstops
    have hgtile : g.pass.tile = some ⟨row, col, s.pass.walkPos, .deciding, s.time.count, false, none⟩ := by rw [hg]; rfl
    obtain ⟨f, c, i, l, m, p, -, htaken, hraised, -, hfirst, -⟩ := takeAhead_escalates_held (s := g) (by rw [hg]; exact hesc)
      ⟨some (j.number, j.record.plateId), some (row, col), none, none⟩ (by rw [hg]; exact nofun) hgtile (by rw [hg]; exact hsettle)
    have hnumber : g.pass.job.map (·.number) = some j.number := by rw [hg]; exact congrArg _ hj
    rw [hnumber] at hfirst
    have hu := (congrArg takeGuard (hwalks.trans hstops)).trans ((congrArg (takeGuards · _)
      (show _ = more.length + 1 by rw [hg]; exact congrArg List.length hahead)).trans
      (takeGuards_deciding (j := j) (by rw [hg]; exact hj) (by rw [hg]; exact hladder) (by exact hgtile) rfl more.length))
    generalize takeAhead (raiseFault .guardTile ⟨some (j.number, j.record.plateId), some (row, col), none, none⟩ g) = a
      at htaken hfirst hu
    obtain ⟨n, hposts, hnew, hlast, hdecided⟩ := decideRecord_notes (j := j) (t := ⟨row, col, s.pass.walkPos, .deciding, s.time.count, false, p⟩)
      (s := { a with pass.settle := none }) (by rw [htaken]) .guarded
    replace hu := hu.trans ((congrArg (takeGuards more.length) ((congrArg boundary hdecided).trans
      (boundary_halted (by rw [htaken]; rfl)))).trans (takeGuards_decided (by intro t ht; exact nomatch ht) _))
    obtain ⟨hexec, hreplies⟩ := exec_resume_next hat hs hjob hp hu
    have hleft := hfirst.of_leaves (u := (State.noted { a with pass := { a.pass with
        settle := none, tile := none, counts := a.pass.counts.count (j.decided ⟨row, col, s.pass.walkPos, .deciding, s.time.count, false,
            p⟩ .guarded) } } n).answer rest 8 tag (.ok (.passState .halted)))
      (by rw [htaken]; rfl) (by rw [htaken]; rfl) (by rw [htaken]; exact nofun) rfl rfl hposts.keeps
    subst htaken hg
    refine ⟨_, hexec, hleft, rfl, congrArg (· ++ _) hreplies, hnew, hlast, rfl, rfl, hj, rfl, rfl, hmark, Budget.stop_state _, hraised, rfl⟩

end Sys2Proof.Machine
end

section
/-! CLEAR-HALT and the end of a discarded frame (R32, R42, R47, R90); O30. -/
namespace Sys2Proof.Machine
open Sys2Proof

/-! ### Returning, free or not (R33) -/

theorem wantOrder_home_motion (x y : Nat) (by' : Requester) (s : State) :
    ∃ m : Motion, wantOrder ⟨.home, x, y, by'⟩ s = { s with motion := m } := by
  unfold wantOrder
  split
  · exact ⟨_, issueOrder_home x y by' false s⟩
  · exact ⟨_, rfl⟩

theorem wantOrder_move_motion (x y : Nat) (by' : Requester) (s : State) :
    ∃ m : Motion, wantOrder ⟨.move, x, y, by'⟩ s = { s with motion := m } := by
  unfold wantOrder
  split
  · exact ⟨_, issueOrder_move x y by' false s⟩
  · exact ⟨_, rfl⟩

/-- RETURNING is entered: the pass's state and step, and the motion port. -/
theorem enterReturning_eq (s : State) : ∃ (step : PassStep) (m : Motion),
    enterReturning s = { s with pass := { s.pass with state := .returning, step := step }, motion := m } := by
  unfold enterReturning
  dsimp only
  split
  · unfold beginReturn
    split
    · obtain ⟨m, hm⟩ := wantOrder_home_motion 0 0 .pass { s with pass := { s.pass with state := .returning, step := .homing } }
      exact ⟨.homing, m, hm⟩
    · obtain ⟨m, hm⟩ := wantOrder_move_motion 0 0 .pass { s with pass := { s.pass with state := .returning, step := .moving } }
      exact ⟨.moving, m, hm⟩
  · exact ⟨.waiting, s.motion, rfl⟩

/-- A state that a job's end brings about. -/
theorem eq_ended_of {a u : State} {occupied : Bool} {j : JobInHand} (h : a = endJob occupied u) (hj : u.pass.job = some j) :
    ∃ x : JobEnd, x.fault.Of u ∧ a = u.ended occupied j x := by
  obtain ⟨x, hx, hended, -⟩ := endJob_ends hj occupied
  exact ⟨x, hx, h.trans hended⟩

/-! ### The end of a tile that is being settled (R37, R42, R47) -/

/-- The record of a tile frees its plane itself. -/
theorem recordTile_freeTilePlane {s : State} {j : JobInHand} (hj : s.pass.job = some j) : recordTile (freeTilePlane s) = recordTile s := by
  cases ht : s.pass.tile with
  | none =>
    have hstays : freeTilePlane s = s := by rw [freeTilePlane, ht]
    rw [hstays]
  | some t =>
    have htwice : freeTilePlane (freeTilePlane s) = freeTilePlane s := by
      rw [freeTilePlane_eq ht, freeTilePlane_eq (t := { t with plane := none }) (by rfl)]
      rfl
    have hleaves : (freeTilePlane s).pass.job = s.pass.job ∧ (freeTilePlane s).pass.tile = some { t with plane := none }
        ∧ (freeTilePlane s).ladder = s.ladder ∧ (freeTilePlane s).tag = s.tag := by
      rw [freeTilePlane_eq ht]
      exact ⟨rfl, rfl, rfl, rfl⟩
    obtain ⟨hjob, htile, hladder, htag⟩ := hleaves
    unfold recordTile
    rw [hjob, hj, htile, ht, htwice, hladder]

/-- A tile being settled is recorded when the last of its frames has gone. -/
theorem progress_settled {s : State} {j : JobInHand} {l : Ladder} {dest : SettleTo} (hj : s.pass.job = some j) (hl : s.ladder = some l) (hf : l.inFlight = [])
    (hs : s.pass.settle = some dest) (hd : dest ≠ .held) : progress s = afterSettle dest (recordTile s) := by
  have hidle : s.planeBusy = false := by rw [State.planeBusy, hl, Option.any_some, hf, List.any_nil]
  unfold progress
  rw [hl]
  dsimp only
  rw [hs]
  dsimp only
  rw [if_pos ⟨hf, hd⟩, hidle, if_neg Bool.false_ne_true, settleNow, recordTile_freeTilePlane hj]

theorem dropFrame_intake (i : SlotId) (d : Slot) (verdict : FrameVerdict) (s : State) :
    dropFrame i d verdict s = { s with intake := (dropFrame i d verdict s).intake } := by cases i <;> rfl

theorem slot_dropFrame (i : SlotId) (d : Slot) (verdict : FrameVerdict) (s : State) (k : SlotId) :
    (dropFrame i d verdict s).slot k = if k = i then none else s.slot k := by
  have hnote : (dropFrame i d verdict s).slot k = (s.releaseSlot i).slot k := by cases k <;> rfl
  rw [hnote]
  split
  · next h => rw [h, slot_releaseSlot]
  · next h => rw [slot_releaseSlot_ne s h]

/-! ### CLEAR-HALT -/

/-- The state once CLEAR-HALT has made the job FAILED and the run state STOPPED. -/
def State.failing (s : State) : State := { s with queue.run := .stopped, pass.mark := some .failed }

theorem clearHalt_of_job {s : State} {j : JobInHand} {code : Nat} {ret : Bool} (hcode : yesNoOfCode code = some ret)
    (hs : s.pass.state = .halted) (hj : s.pass.job = some j) :
    clearHalt code s =
      let t := clearHaltJob ret { s with queue.run := .stopped }
      (.ok (.cleared t.pass.state (if t.jobActive then none else some j.number)), t) := by
  unfold clearHalt
  rw [hcode]
  dsimp only
  rw [hs]
  dsimp only
  rw [hj]

/-- CLEAR-HALT of a plate ON_TABLE, by its choice. -/
theorem clearHaltJob_onTable {s u : State} (hu : closeWalk (clearTile (setMark .failed s)) = u) (hplate : u.pass.plate = .onTable)
    (ret : Bool) : clearHaltJob ret s = if ret = true ∧ u.platePresent = true then enterReturning u
      else jobEndCheck { u with pass.state := .finishing, pass.plate := .left, motion.expect := .none } := by
  unfold clearHaltJob
  dsimp only
  rw [hu]
  by_cases h : ret = true ∧ u.platePresent = true
  · rw [if_pos h, if_pos ⟨h.1, h.2, .inl hplate⟩]
  · rw [if_neg h, if_neg fun hc => h ⟨hc.1, hc.2.1⟩, hplate, leavePlate, hplate]

/-- A tile in hand of which something is in flight stays in hand, and the walk is closed. -/
theorem closeWalk_clearTile_flying {s : State} {j : JobInHand} {l : Ladder} (hj : s.pass.job = some j) (hp : s.pass.plate = .onTable)
    (hl : s.ladder = some l) (hf : l.inFlight ≠ []) : ∃ n : Notes, closeWalk (clearTile (setMark .failed s))
      = { s with pass := { s.pass with mark := some .failed, settle := some .inPlace }.closed j.record.tiles }.noted n := by
  have hclear : clearTile (setMark .failed s) = { s with pass := { s.pass with mark := some .failed, settle := some .inPlace } } := by
    unfold clearTile
    refine if_neg ?_
    rw [show (setMark .failed s).ladder = some l from hl, Option.all_some]
    simpa using hf
  obtain ⟨n, -, hn⟩ := closeWalk_notes (s := { s with pass := { s.pass with mark := some .failed, settle := some .inPlace } }) hj
    (by rw [show Pass.plate _ = .onTable from hp]; nofun)
  exact ⟨n, by rw [hclear, hn]⟩

/-- The planes once the tile in hand is recorded. -/
def Pass.freed (p : Pass) (m : Merge) : Merge := m.freed (p.tile.bind fun t => t.plane)

/-- The pass once the tile in hand, when there is one, is recorded. -/
def Pass.cleared (p : Pass) : Pass :=
  { p with
    tile := none, settle := if p.tile = none then p.settle else none
    counts := if p.tile = none then p.counts else p.counts.missed 1 }

theorem Pass.cleared_of_none {p : Pass} (h : p.tile = none) : p.cleared = p := by
  unfold Pass.cleared
  rw [if_pos h, if_pos h, ← h]

theorem Pass.cleared_of_tile {p : Pass} (h : p.tile ≠ none) : p.cleared = p.withoutTile := by
  unfold Pass.cleared
  rw [if_neg h, if_neg h]
  rfl

/-- A tile in hand of which nothing is in flight is recorded, and the walk is closed. -/
theorem closeWalk_clearTile_landed {s : State} {j : JobInHand} (hj : s.pass.job = some j) (hp : s.pass.plate = .onTable)
    (hnone : s.pass.tile = none → s.ladder = none) (hf : ∀ l, s.ladder = some l → l.inFlight = []) :
    ∃ n : Notes, s.link.PostsTo n.link ∧ closeWalk (clearTile (setMark .failed s)) = { s with
          merge := s.pass.freed s.merge, ladder := none, pass := ({ s.pass with mark := some .failed }.cleared).closed j.record.tiles }.noted n
      ∧ (s.pass.tile = none → s.pass.walkPos = j.record.tiles → n = s.notes) := by
  have hrecord : clearTile (setMark .failed s) = recordTile (setMark .failed s) := by
    unfold clearTile
    refine if_pos ?_
    cases hl : s.ladder with
    | none => rw [show (setMark .failed s).ladder = none from hl]; rfl
    | some l => rw [show (setMark .failed s).ladder = some l from hl, Option.all_some, hf l hl]; rfl
  rw [hrecord]
  cases ht : s.pass.tile with
  | none =>
    have hnothing : recordTile (setMark .failed s)
        = { s with ladder := none, pass := { s.pass with mark := some .failed } } := by
      have hstays : recordTile (setMark .failed s) = setMark .failed s := by
        unfold recordTile
        rw [show (setMark .failed s).pass.job = some j from hj, show (setMark .failed s).pass.tile = none from ht]
      rw [hstays, ← hnone ht]
      rfl
    have hpass : ({ s.pass with mark := some .failed } : Pass).cleared = { s.pass with mark := some .failed } :=
      Pass.cleared_of_none ht
    rw [hnothing, hpass, Pass.freed, ht, Option.bind_none]
    by_cases hw : s.pass.walkPos = j.record.tiles
    · refine ⟨s.notes, .refl _, ?_, fun _ _ => rfl⟩
      refine (closeWalk_complete (j := j) (by exact hj) (by exact hw)).trans ?_
      unfold Pass.closed RecordCounts.missed
      dsimp only
      rw [← hw, Nat.sub_self]
      rfl
    · obtain ⟨n, hposts, hn⟩ := closeWalk_notes (s := { s with ladder := none, pass := { s.pass with mark := some .failed } }) hj
        (by rw [show Pass.plate _ = .onTable from hp]; nofun)
      exact ⟨n, hposts, hn, fun _ h => absurd h hw⟩
  | some t =>
    obtain ⟨n, hposts, -, -, hrec⟩ := recordTile_notes (s := setMark .failed s) hj ht
    obtain ⟨n', hposts', hn'⟩ := closeWalk_notes (s := recordTile (setMark .failed s)) (j := j) (by rw [hrec]; exact hj)
      (by rw [hrec]; exact fun h => nomatch hp.symm.trans h)
    refine ⟨n', ?_, ?_, nofun⟩
    · rw [hrec] at hposts'
      exact hposts.trans hposts'
    · have hpass : ({ s.pass with mark := some .failed } : Pass).cleared = Pass.withoutTile { s.pass with mark := some .failed } :=
        Pass.cleared_of_tile fun h => nomatch ht.symm.trans h
      rw [hn', hrec, hpass, Pass.freed, ht]
      rfl

theorem yesNoOfCode_byte {choice : Byte} (h : choice.toNat ≤ 1) :
    yesNoOfCode choice.toNat = some (decide (choice = 1#8)) ∧ (choice = 0#8 ∨ choice = 1#8) := by
  obtain rfl | rfl : choice = 0#8 ∨ choice = 1#8 := by bv_omega
  · exact ⟨rfl, .inl rfl⟩
  · exact ⟨rfl, .inr rfl⟩

theorem exec_clearHalt_job {choice tag flags : Byte} {rest : List (List Byte)} {s r : State} {j : JobInHand}
    (hat : AtHead 9 tag flags [choice] rest s) (hc : choice.toNat ≤ 1) (hs : s.pass.state = .halted) (hj : s.pass.job = some j)
    (hr : clearHaltJob (decide (choice = 1#8)) { s with link.intake := rest, queue.run := .stopped } = r) {ended : Option Nat}
    (he : r.pass.job ≠ none ∧ ended = none ∨ r.pass.job = none ∧ ended = some j.number) :
    exec .clearHalt s = .next ({ r with link.intake := s.link.intake }.answer rest 9 tag (.ok (.cleared r.pass.state ended))) := by
  have hended : (if r.jobActive then none else some j.number) = ended := by
    rcases he with ⟨h, rfl⟩ | ⟨h, rfl⟩
    · exact if_pos (jobActive_eq h)
    · exact if_neg (by simp [State.jobActive, h])
  rw [← hended]
  refine exec_answer rfl rfl (numBody_byte choice) hat ?_
  have hframe := clearHaltJob_frame (decide (choice = 1#8)) { s with link.intake := rest, queue.run := .stopped }
  rw [hr] at hframe
  have hintake : r.link.intake = rest := by simp only [hframe]
  rw [clearHalt_of_job (s := { s with link.intake := rest }) (yesNoOfCode_byte hc).1 hs hj]
  dsimp only
  rw [hr]
  have hself : r = { r with link.intake := rest } := by rw [← hintake]
  exact congrArg _ hself

/-- Settles O30. -/
theorem clearHaltReleasesThePass : Obligations.ClearHaltReleasesThePass := by
  refine ⟨fun choice tag flags rest s hat => ⟨fun hc => ?refused, fun hc hs => ?notHalted, fun hc hs hj => ?noJob,
    fun j total counts hc hs hj hp htotal hwalk hcounts => ⟨fun tile l ht hl hf => ?flying, fun all hnone hland hall => ?landed⟩⟩, ?frameEnd⟩
  case refused =>
    refine exec_answer rfl rfl (numBody_byte choice) hat ?_
    have hcode : yesNoOfCode choice.toNat = none := by
      have := (yesNoOfCode_isSome choice.toNat).not.mpr (by omega)
      simpa using this
    rw [clearHalt, hcode]
    rfl
  case notHalted =>
    refine exec_answer rfl rfl (numBody_byte choice) hat ?_
    rw [clearHalt, (yesNoOfCode_byte hc).1]
    dsimp only
    split
    · next h => exact absurd h hs
    · rfl
  case noJob =>
    refine exec_answer (t := { s with pass.state := .idle, queue.run := .stopped }) rfl rfl (numBody_byte choice) hat ?_
    rw [clearHalt, (yesNoOfCode_byte hc).1]
    simp only [hs, hj]
  case flying =>
    obtain ⟨n, hn⟩ := closeWalk_clearTile_flying (s := { s with link.intake := rest, queue.run := .stopped }) hj hp hl hf
    have hclear := clearHaltJob_onTable hn hp (decide (choice = 1#8))
    have hwalked : j.record.tiles = total := htotal.symm
    have hsome : s.pass.job ≠ none := fun h => nomatch hj.symm.trans h
    by_cases hret : choice = 1#8 ∧ s.platePresent = true
    · rw [if_pos hret]
      obtain ⟨step, m, hreturn⟩ := enterReturning_eq (State.noted { s with
        link.intake := rest, queue.run := .stopped
        pass := { s.pass with mark := some .failed, settle := some .inPlace }.closed j.record.tiles } n)
      have hexec := exec_clearHalt_job hat hc hs hj ((hclear.trans (if_pos ⟨decide_eq_true hret.1, hret.2⟩)).trans hreturn)
        (.inl ⟨hsome, rfl⟩)
      exact ⟨_, _, hexec, rfl, rfl, rfl, hj, ht, rfl, hwalked, by rw [hcounts, ← hwalked]; rfl, rfl, hl, rfl, rfl, rfl, rfl, rfl⟩
    · rw [if_neg hret]
      have hstays := hclear.trans ((if_neg fun h => hret ⟨of_decide_eq_true h.1, h.2⟩).trans
        (jobEndCheck_stays (.inr (.inl (by exact fun h => nomatch ht.symm.trans h)))))
      have hexec := exec_clearHalt_job hat hc hs hj hstays (.inl ⟨hsome, rfl⟩)
      exact ⟨_, _, hexec, rfl, rfl, rfl, hj, ht, rfl, hwalked, by rw [hcounts, ← hwalked]; rfl, rfl, hl, rfl, rfl, rfl, rfl, rfl⟩
  case landed =>
    obtain ⟨n, hposts, hn, hidle⟩ := closeWalk_clearTile_landed (s := { s with link.intake := rest, queue.run := .stopped }) hj hp hnone hland
    have hclear := clearHaltJob_onTable hn hp (decide (choice = 1#8))
    have hsome : s.pass.job ≠ none := fun h => nomatch hj.symm.trans h
    have hwalked : j.record.tiles = total := htotal.symm
    have hall' : ({ s.pass with mark := some .failed }.cleared.closed j.record.tiles).counts = all := by
      rw [hall, hcounts, ← hwalked]
      by_cases ht : s.pass.tile = none
      · simp [Pass.closed, Pass.cleared, RecordCounts.missed, ht]
      · simp [Pass.closed, Pass.cleared, RecordCounts.missed, ht, Nat.add_right_comm]
    have hframe (t : State) (hleaves : t.lamps = s.lamps ∧ t.intake = s.intake ∧ t.conv = s.conv ∧ t.cal = s.cal ∧ t.faults = s.faults
        ∧ t.zones = s.zones ∧ t.params = s.params) (hmerge : t.merge = s.pass.freed s.merge)
        (hrest : n = State.notes { s with link.intake := rest } → s.pass.tile = none → s.ladder = none →
          { t with pass := s.pass, motion := s.motion, queue := s.queue } = s) : HaltReleaseFrame s t := by
      obtain ⟨h1, h2, h3, h4, h5, h6, h7⟩ := hleaves
      exact ⟨h1, h2, h3, h4, h5, h6, h7, plane_freed hmerge, fun ⟨ht, hl, hw⟩ => hrest (hidle ht (hw j hj)) ht hl⟩
    have hmerge (ht : s.pass.tile = none) : s.pass.freed s.merge = s.merge := by rw [Pass.freed, ht]; rfl
    have hleaves : ¬ (decide (choice = 1#8) = true ∧ s.platePresent = true) ∨ ¬ (choice = 0#8 ∨ s.platePresent = false) := by
      by_cases h : choice = 0#8 ∨ s.platePresent = false
      · refine .inl fun hc => ?_
        rcases h with rfl | h
        · exact absurd hc.1 (by decide)
        · exact absurd hc.2 (by rw [h]; decide)
      · exact .inr h
    refine ⟨fun hone hpresent horder hstop => ?_, fun hleave hover => ?_, fun hleave hover horder => ?_⟩
    · have hreturn := (hclear.trans (if_pos ⟨decide_eq_true hone, hpresent⟩)).trans (enterReturning_free (by exact horder) (by exact hstop))
      have hexec := exec_clearHalt_job hat hc hs hj hreturn (.inl ⟨hsome, rfl⟩)
      refine ⟨_, hexec, rfl, rfl, hj, hp, rfl, hwalked, hall', rfl, rfl, rfl, hframe _ ⟨rfl, rfl, rfl, rfl, rfl, rfl, rfl⟩ rfl ?_⟩
      intro hnotes ht hl
      subst hnotes
      simp only [State.noted, State.notes, hmerge ht, ← hl]
    · have hleft := (hclear.trans (if_neg (hleaves.resolve_right (not_not_intro hleave)))).trans
        (jobEndCheck_stays (.inr (.inr (.inl (by exact hover)))))
      have hexec := exec_clearHalt_job hat hc hs hj hleft (.inl ⟨hsome, rfl⟩)
      refine ⟨_, hexec, ?_, rfl, rfl, rfl, hframe _ ⟨rfl, rfl, rfl, rfl, rfl, rfl, rfl⟩ rfl ?_⟩
      · rw [← hall', ← hwalked]
        rfl
      · intro hnotes ht hl
        subst hnotes
        simp only [State.noted, State.notes, hmerge ht, ← hl]
    · have hends := (hclear.trans (if_neg (hleaves.resolve_right (not_not_intro hleave)))).trans
        (jobEndCheck_ends hsome (by rfl) hover (passOrder_of_none horder) (by rfl))
      obtain ⟨x, hx, hended⟩ := eq_ended_of (j := j) hends hj
      have hexec := exec_clearHalt_job hat hc hs hj hended (.inr ⟨rfl, rfl⟩)
      refine ⟨_, hexec, rfl, rfl, rfl, rfl, rfl, ?_⟩
      exact (congrArg (Option.map _) List.getLast?_concat).trans (by rw [← hall']; rfl)
  case frameEnd =>
    intro s i d tile l g j hrx hd htaker hmark hj ht hl hf hg hsettle hover
    have hexec := exec_frame_discarded (cmd := .frameEnd) hd hmark (.inl ⟨by simp, hrx⟩)
    obtain ⟨z, hz⟩ : ∃ z, z = clearCurrent (endFlight i (dropFrame i d .discarded { s with intake.rx := .idle })) := ⟨_, rfl⟩
    have hslot : z.slot i = none := by
      rw [hz]
      exact (show _ = (dropFrame i d .discarded { s with intake.rx := .idle }).slot i by cases i <;> rfl).trans
        ((slot_dropFrame i d .discarded _ i).trans (if_pos rfl))
    have hwhole : z = { s with
        intake := (dropFrame i d .discarded { s with intake.rx := .idle }).intake
        ladder := some { l with inFlight := [], current := none } } := by
      rw [hz, dropFrame_intake]
      simp only [clearCurrent, endFlight, mapLadder, hl, hf, Option.map_some, List.filter_cons, hg, ne_eq, not_true_eq_false, decide_false,
        Bool.false_eq_true, if_false, List.filter_nil]
    have htaken : frameDiscarded i d { s with intake.rx := .idle } = progressOn z := by
      unfold frameDiscarded
      dsimp only
      rw [htaker, hz]
    obtain ⟨n, hposts, hnew, hlast, hrec⟩ := recordTile_notes (s := z) (j := j) (t := tile) (by rw [hwhole]; exact hj) (by rw [hwhole]; exact ht)
    have hend : progressOn z = recordTile z := by
      have hprogress := progress_settled (s := z) (j := j) (l := { l with inFlight := [], current := none }) (dest := .inPlace)
        (by rw [hwhole]; exact hj) (by rw [hwhole]) rfl (by rw [hwhole]; exact hsettle) nofun
      have hstays : jobEndCheck (recordTile z) = recordTile z :=
        jobEndCheck_stays (.inr (.inr (.inl (by rw [hrec, hwhole]; exact hover))))
      unfold progressOn
      rw [hprogress, afterSettle, hstays]
      exact takeGuards_decided (by rw [hrec]; intro t h; exact nomatch h) _
    have hslot' : (recordTile z).slot i = none := by rw [hrec]; cases i <;> exact hslot
    have hplane : (recordTile z).merge = z.merge.freed tile.plane := by rw [hrec]; rfl
    refine ⟨recordTile z, ?_, hslot', ?_⟩
    · rw [hexec]
      exact congrArg Host.Outcome.next (htaken.trans hend)
    · rw [hrec]
      refine ⟨rfl, fun k hk => ?_, ?_⟩
      · rw [← hrec, plane_freed hplane, if_pos hk]
      · rw [hwhole] at hlast ⊢
        exact ⟨rfl, hlast, rfl, rfl, rfl, rfl⟩

end Sys2Proof.Machine
end

section
/-! CANCEL-PLATE of the ACTIVE job (R42); O28. -/
namespace Sys2Proof.Machine
open Sys2Proof

/-! ### What is settled -/

/-- Where the tile in hand is being settled, an event of the ladder tidies it up, and may lead on. -/
theorem progress_tidies {s : State} {dest : SettleTo} (hs : s.pass.settle = some dest) :
    ∃ t, s.Tidies t ∧ (progress s = t ∨ progress s = afterSettle dest t) := by
  unfold progress
  cases s.ladder with
  | none => exact ⟨s, .refl s, .inl rfl⟩
  | some l =>
    dsimp only
    rw [hs]
    dsimp only
    generalize hf : (if s.planeBusy = true then s else freeTilePlane s) = f
    have hfree : s.Tidies f := by
      subst hf
      split
      · exact .refl s
      · exact tidies_freeTilePlane s
    split
    · exact ⟨recordTile f, hfree.trans (tidies_recordTile f), .inr rfl⟩
    · exact ⟨f, hfree, .inl rfl⟩

theorem settle_tidies (dest : SettleTo) (s : State) : ∃ t, s.Tidies t ∧ (settle dest s = t ∨ settle dest s = afterSettle dest t) := by
  unfold settle
  split
  · exact ⟨s, .refl s, .inr rfl⟩
  · split
    · obtain ⟨t, ht, hend⟩ := progress_tidies (s := { s with pass.settle := some dest }) rfl
      exact ⟨t, (tidies_settling s _).trans ht, hend⟩
    · split
      · exact ⟨_, tidies_settling s _, .inl rfl⟩
      · exact ⟨recordTile s, tidies_recordTile s, .inr rfl⟩
    · exact ⟨recordTile s, tidies_recordTile s, .inr rfl⟩
    · exact ⟨recordTile s, tidies_recordTile s, .inr rfl⟩

theorem afterSettle_returning {s : State} (h : s.pass.state ≠ .halted) : afterSettle .returning s = enterReturning s := by
  unfold afterSettle
  dsimp only
  split
  · next h' => exact absurd h' h
  · rfl

/-- Whatever is settled on the way to RETURNING, these stand. -/
theorem settle_returning_leaves {s : State} (h : s.pass.state ≠ .halted) :
    (settle .returning s).pass.mark = s.pass.mark ∧ (settle .returning s).pass.pausePending = s.pass.pausePending
      ∧ (settle .returning s).pass.walkPos = s.pass.walkPos ∧ (settle .returning s).pass.budget = s.pass.budget
      ∧ (settle .returning s).queue = s.queue ∧ (settle .returning s).faults = s.faults ∧ (settle .returning s).lamps = s.lamps := by
  obtain ⟨t, ht, hend⟩ := settle_tidies .returning s
  have hstate := ht.state
  obtain ⟨m, l, tile, dest, counts, n, -, rfl⟩ := ht
  rcases hend with hend | hend
  · rw [hend]
    exact ⟨rfl, rfl, rfl, rfl, rfl, rfl, rfl⟩
  · obtain ⟨step, mo, hreturn⟩ := enterReturning_eq (State.noted { s with
      merge := m, ladder := l, pass.tile := tile, pass.settle := dest, pass.counts := counts } n)
    rw [hend, afterSettle_returning (by rw [hstate]; exact h), hreturn]
    exact ⟨rfl, rfl, rfl, rfl, rfl, rfl, rfl⟩

/-- A tile in WAIT_PLANE is recorded at once. -/
theorem settle_waitPlane {s : State} {t : Tile} (ht : s.pass.tile = some t) (hp : t.phase = .waitPlane) (dest : SettleTo) :
    settle dest s = afterSettle dest (recordTile s) := by
  unfold settle
  rw [ht]
  dsimp only
  rw [hp]
  rfl

/-- A tile in MOVING keeps its MOVE, where the walk ends with it. -/
theorem settle_moving {s : State} {t : Tile} (ht : s.pass.tile = some t) (hp : t.phase = .moving) (hm : t.moveDone = false)
    {dest : SettleTo} (hd : dest = .boundary ∨ dest = .returning) : settle dest s = { s with pass.settle := some dest } := by
  unfold settle
  rw [ht]
  dsimp only
  rw [hp]
  exact if_pos ⟨hm, hd⟩

theorem settle_ladder {s : State} {t : Tile} (ht : s.pass.tile = some t) (hp : t.phase = .ladder) (dest : SettleTo) :
    settle dest s = progress { s with pass.settle := some dest } := by
  unfold settle
  rw [ht]
  dsimp only
  rw [hp]

/-- A tile of which only marked frames are awaited gives up its plane and stays in hand until they have come. -/
theorem progress_awaiting {s : State} {l : Ladder} {t : Tile} {dest : SettleTo} (hl : s.ladder = some l) (ht : s.pass.tile = some t)
    (hs : s.pass.settle = some dest) (hf : l.inFlight ≠ [])
    (hmarked : ∀ f ∈ l.inFlight, f.state = .awaited ∧ ∀ d, s.slot f.slot = some d → d.discard = true) :
    progress s = { s with merge := s.merge.freed t.plane, pass.tile := some { t with plane := none } } := by
  have hidle : s.planeBusy = false := by
    rw [State.planeBusy, hl, Option.any_some, List.any_eq_false]
    intro f hf
    obtain ⟨hstate, hdiscard⟩ := hmarked f hf
    rw [hstate]
    cases hd : s.slot f.slot with
    | none => simp
    | some d => simp [hdiscard d hd]
  unfold progress
  rw [hl]
  dsimp only
  rw [hs]
  dsimp only
  rw [hidle, if_neg Bool.false_ne_true, if_neg fun h => hf h.1]
  exact (freeTilePlane_eq ht).trans (by rw [← hs, ← hl])

theorem fillingSlot_filling {s : State} {i : SlotId} {d : Slot} (hi : s.fillingSlot = some i) (hd : s.slot i = some d) : d.state = .filling := by
  have h := List.find?_some hi
  rw [hd, Option.any_some, decide_eq_true_eq] at h
  exact h

theorem Stopping.discards_cancelled : Stopping.discards .cancelled := .inl rfl

/-! ### The taking of a cancel -/

/-- The pass once a cancel of its job is taken. -/
def Pass.cancelled (p : Pass) : Pass :=
  { p with pausePending := false, mark := some (p.mark.getD .cancelled), budget := p.budget.stop }

theorem takeCancel_eq (s : State) : takeCancel s = { s with pass := s.pass.cancelled } := by
  unfold takeCancel markUnlessSet Pass.cancelled
  split
  · next m h =>
    rw [show s.pass.mark = some m from h]
    simp only [stopBudget, Option.getD_some]
    rw [← show s.pass.mark = some m from h]
  · next h =>
    rw [show s.pass.mark = none from h]
    rfl

theorem Budget.stop_eq (b : Budget) : b.stop = if b.state ∈ [BudgetState.running, .suspended] then { b with state := .stopped } else b := by
  unfold Budget.stop
  simp

theorem exec_cancel_active {n : Nat} {tag flags : Byte} {rest : List (List Byte)} {s u : State} {q : QueueJob} {more : List QueueJob}
    {body : ReplyBody} (hn : n < 65536) (hat : AtHead 2 tag flags (leBytes 2 n) rest s) (hq : s.queue.jobs = q :: more) (hnum : q.number = n)
    (hactive : q.active = true) (hu : cancelActive { s with link.intake := rest } = (body, u)) (hlink : u.link.intake = rest) :
    exec .cancelPlate s = .next (u.answer rest 2 tag body) := by
  refine exec_answer rfl rfl (numBody_leBytes (n := 2) hn) hat ?_
  have hfind : s.queue.jobs.find? (fun j => decide (j.number = n)) = some q := by
    rw [hq, List.find?_cons_of_pos (by exact decide_eq_true hnum)]
  unfold cancel
  dsimp only
  rw [hfind]
  dsimp only
  rw [if_pos hactive, hu, ← hlink]

/-- Settles O28. -/
theorem cancelOfTheActiveJobByThePassState : Obligations.CancelOfTheActiveJobByThePassState := by
  intro n tag flags rest s q more j hn hat hq hnum hactive hj
  have hexec {u : State} {body : ReplyBody} (hu : cancelActive { s with link.intake := rest } = (body, u)) (hlink : u.link.intake = rest) :=
    exec_cancel_active hn hat hq hnum hactive hu hlink
  have htake : takeCancel { s with link.intake := rest } = { s with link.intake := rest, pass := s.pass.cancelled } := takeCancel_eq _
  have hsome : s.pass.job ≠ none := fun h => nomatch hj.symm.trans h
  refine ⟨fun hs => ?late, fun hs => ?halted, fun hs => ?pending, fun hs ho ht hover hp hm => ?ends, fun hs ht hp hw ho hst => ?paused,
    fun tile hs ht hset hp hw => ?walking⟩
  case late =>
    refine hexec (u := { s with link.intake := rest }) ?_ rfl
    rcases List.mem_pair.mp hs with h | h <;> simp only [cancelActive, h, refuse]
  case halted =>
    refine hexec (u := { s with link.intake := rest }) ?_ rfl
    simp only [cancelActive, hs, refuse]
  case pending =>
    have hstates : cancelActive { s with link.intake := rest }
        = (.ok (.passState s.pass.state), { s with link.intake := rest, pass := { s.pass.cancelled with cancelPending := true } }) := by
      unfold cancelActive
      dsimp only
      rw [htake]
      rcases hs with hs | ⟨hs, o, ho, hpass⟩
      · rw [hs]
      · rw [hs]
        have hbusy : s.passOrder = true := by
          rw [State.passOrder, ho]
          exact decide_eq_true hpass
        dsimp only
        rw [jobEndCheck_stays (.inr (.inr (.inr (.inl (by exact hbusy)))))]
    rw [hexec hstates rfl, Pass.cancelled, Budget.stop_eq]
    rfl
  case ends =>
    have hfree : s.passOrder = false := by
      unfold State.passOrder
      cases hcase : s.motion.order with
      | none => rfl
      | some o => simpa using ho o hcase
    have hends : jobEndCheck { s with link.intake := rest, pass := { s.pass.cancelled with cancelPending := true } }
        = endJob false { s with link.intake := rest, pass := { s.pass.cancelled with cancelPending := true } } :=
      jobEndCheck_ends hsome ht hover hfree (by
        unfold State.plateLetsEnd
        simp [Pass.cancelled, hs, hp])
    obtain ⟨x, hx, hended⟩ := eq_ended_of (j := j) hends hj
    have hstates : cancelActive { s with link.intake := rest } = (.ok (.passState .preparing),
        jobEndCheck { s with link.intake := rest, pass := { s.pass.cancelled with cancelPending := true } }) := by
      unfold cancelActive
      dsimp only
      rw [htake, hs]
    have hframe := jobEndCheck_frame { s with link.intake := rest, pass := { s.pass.cancelled with cancelPending := true } }
    refine ⟨_, hexec hstates (by simp only [hframe]), ?_⟩
    rw [hended]
    refine ⟨if_neg (by exact fun h => nomatch hs.symm.trans h), rfl, rfl, rfl, by rw [← hq]; rfl, ?_⟩
    refine (congrArg (Option.map _) List.getLast?_concat).trans ?_
    simp [State.entryOf, State.outcome, Pass.cancelled, hm]
  case paused =>
    obtain ⟨n', hposts, hn'⟩ := closeWalk_notes (s := { s with link.intake := rest, pass := s.pass.cancelled }) hj
      fun h => nomatch hp.symm.trans h
    obtain ⟨-, hlink, -⟩ := hposts.rest
    have hstates : cancelActive { s with link.intake := rest } = (.ok (.passState .paused),
        enterReturning (closeWalk { s with link.intake := rest, pass := s.pass.cancelled })) := by
      unfold cancelActive
      dsimp only
      rw [htake, hs]
    rw [hn', enterReturning_free (by exact ho) (by exact hst)] at hstates
    exact ⟨_, hexec hstates hlink, rfl, rfl, rfl, rfl, rfl, Budget.stop_of, rfl, rfl, rfl, rfl⟩
  case walking =>
    obtain ⟨n', hposts, hn'⟩ := closeWalk_notes (s := { s with link.intake := rest, pass := s.pass.cancelled }) hj
      fun h => nomatch hp.symm.trans h
    obtain ⟨-, hlink, -⟩ := hposts.rest
    have hstates : cancelActive { s with link.intake := rest } = (.ok (.passState .walking),
        settle .returning (stopLadder .cancelled (closeWalk { s with link.intake := rest, pass := s.pass.cancelled }))) := by
      unfold cancelActive
      dsimp only
      rw [htake, hs]
    rw [hn'] at hstates
    obtain ⟨w, hw⟩ : ∃ w, w = stopLadder .cancelled (State.noted { s with
      link.intake := rest, pass := s.pass.cancelled.closed j.record.tiles } n') := ⟨_, rfl⟩
    have hstates : cancelActive { s with link.intake := rest } = (.ok (.passState .walking), settle .returning w) :=
      hstates.trans (by rw [hw])
    have hwhole := hw.trans (stopLadder_eq Stopping.discards_cancelled _)
    have hwtile : w.pass.tile = some tile := by rw [hwhole]; exact ht
    have hwstate : w.pass.state = .walking := by rw [hwhole]; exact hs
    have hnothalted : w.pass.state ≠ .halted := by rw [hwstate]; nofun
    have hframe := settle_frame .returning w
    obtain ⟨-, -, -, -, -, -, -, -, -, -, -, hintake, -⟩ := hframe
    obtain ⟨hmark, hpause, hpos, hbudget, hqueue, hfaults, hlamps⟩ := settle_returning_leaves hnothalted
    refine ⟨settle .returning w, hexec hstates ?_, ?_, ?_, ?_, ?_, ?_, ?_, fun hb => ?_, fun hphase hl hplane ho hst => ?_,
      fun hphase hmoving hl => ?_, fun l i d g p hphase hplane hl hno hi hd htaker hg hgi hgs hflights => ?_⟩
    · rw [hintake, hwhole]
      exact hlink
    · rw [hmark, hwhole]; rfl
    · rw [hpause, hwhole]; rfl
    · rw [hpos, hwhole]; rfl
    · rw [hqueue, hwhole]; rfl
    · rw [hfaults, hwhole]; rfl
    · rw [hlamps, hwhole]; rfl
    · rw [hbudget, hwhole]
      exact Budget.stop_of hb
    · obtain ⟨n, -, -, -, hrec⟩ := recordTile_notes (s := w) (j := j) (by rw [hwhole]; exact hj) hwtile
      have hsettled := (settle_waitPlane hwtile hphase .returning).trans (afterSettle_returning (by rw [hrec]; exact hnothalted))
      rw [hrec, enterReturning_free (by rw [hwhole]; exact ho) (by rw [hwhole]; exact hst)] at hsettled
      rw [hsettled, hwhole]
      refine ⟨rfl, rfl, ?_, rfl, rfl⟩
      change s.merge.freed tile.plane = s.merge
      rw [hplane]
      rfl
    · rw [settle_moving hwtile hphase hmoving (.inr rfl), hwhole]
      exact ⟨hs, ht, rfl, rfl, rfl⟩
    · have hfill : d.state = .filling := fillingSlot_filling hi hd
      have hslots (k : SlotId) : w.slot k = if s.validFor .ladder k then none else (markFilling .ladder s).slot k := by
        rw [hw]
        refine (slot_stopLadder (l := l) (by exact hl) hno Stopping.discards_cancelled k).trans ?_
        rw [slot_markFilling, slot_markFilling]
        cases k <;> rfl
      have hmarkedSlot : w.slot i = some { d with discard := true } := by
        rw [hslots, slot_markFilling, if_neg (by simp [State.validFor, hd, hfill]), if_pos hi, hd, Option.map_some, Slot.markedFor,
          if_pos htaker]
      have hladder : w.ladder = some (l.stopped .cancelled) := by
        rw [hwhole]
        exact congrArg (Option.map _) hl
      have hstopped := Ladder.stopped_of_no .cancelled hno
      have hmarked : ∀ f ∈ (l.stopped .cancelled).inFlight, f.state = .awaited ∧ ∀ x, w.slot f.slot = some x → x.discard = true := by
        rw [hstopped]
        intro f hf
        obtain ⟨hf, hvalid⟩ := List.mem_filter.mp hf
        obtain ⟨hslot, hstate⟩ := (hflights f hf).resolve_left (of_decide_eq_true hvalid)
        refine ⟨hstate, fun x hx => ?_⟩
        rw [hslot, hmarkedSlot] at hx
        cases hx
        rfl
      have hsome : (l.stopped .cancelled).inFlight ≠ [] := by
        rw [hstopped]
        exact List.ne_nil_of_mem (List.mem_filter.mpr ⟨hg, by simp [hgs]⟩)
      have hsettled := (settle_ladder hwtile hphase .returning).trans
        (progress_awaiting (s := { w with pass.settle := some .returning }) hladder hwtile rfl hsome (by
          intro f hf
          obtain ⟨hstate, hslot⟩ := hmarked f hf
          exact ⟨hstate, fun x hx => hslot x (by rw [← hx]; cases f.slot <;> rfl)⟩))
      rw [hsettled]
      have hslot (k : SlotId) : State.slot { w with
          pass := { w.pass with tile := some { tile with plane := none }, settle := some .returning }
          merge := w.merge.freed tile.plane } k = w.slot k := by cases k <;> rfl
      refine ⟨hwstate, rfl, ?_, by rw [hwhole]; rfl, (hslot i).trans hmarkedSlot, fun k x hk hx ht => (hslot k).trans ?_,
        l.stopped .cancelled, hladder, by rw [hstopped], by rw [hstopped], by rw [hstopped]⟩
      · exact (plane_freed (s := w) (o := tile.plane) rfl p).trans (if_pos hplane)
      · rw [hslots, if_pos (by simp [State.validFor, hk, hx, ht])]

end Sys2Proof.Machine
end

section
/-! BUDGET_EXPIRY and the winding up of a plate (R36, R37, R45, R68); O31. -/
namespace Sys2Proof.Machine
open Sys2Proof

theorem markUnlessSet_eq (m : Mark) (s : State) : markUnlessSet m s = { s with pass.mark := some (s.pass.mark.getD m) } := by
  unfold markUnlessSet
  split
  · next x h =>
    rw [h, Option.getD_some, ← h]
  · next h =>
    rw [h]
    rfl

/-! ### Where the boundary after a wind-up leads (R28, R37) -/

/-- What the boundary of a complete walk leaves of a job whose budget has expired. -/
theorem boundary_windsUp {s : State} {j : JobInHand} (hstate : s.pass.state ≠ .halted) (hj : s.pass.job = some j)
    (hw : s.pass.walkPos = j.record.tiles) : ∃ (p : Pass) (m : Motion), boundary s = { s with pass := p, motion := m }
      ∧ p.mark = s.pass.mark ∧ p.walkPos = s.pass.walkPos ∧ p.tile = s.pass.tile ∧ p.counts = s.pass.counts
      ∧ p.handedOver = s.pass.handedOver ∧ (s.pass.budget.state ≠ .running → p.budget = s.pass.budget)
      ∧ WindsUpTo s.pass.pausePending { s with pass := p, motion := m } := by
  rw [boundary_complete hstate hj hw]
  cases hp : s.pass.pausePending with
  | true =>
    rw [if_pos rfl]
    exact ⟨s.pass.pausedAt .return, s.motion, rfl, rfl, rfl, rfl, rfl, rfl, fun h => if_neg h, rfl, rfl, rfl⟩
  | false =>
    obtain ⟨step, m, hreturn⟩ := enterReturning_eq s
    rw [if_neg Bool.false_ne_true, hreturn]
    exact ⟨_, m, rfl, rfl, rfl, rfl, rfl, rfl, fun _ => rfl, rfl⟩

/-- What the winding up of a tile in hand does not touch. -/
structure State.Winds (s t : State) : Prop where
  state : t.pass.state = s.pass.state
  job : t.pass.job = s.pass.job
  budget : t.pass.budget = s.pass.budget
  mark : t.pass.mark = s.pass.mark
  walkPos : t.pass.walkPos = s.pass.walkPos
  queue : t.queue = s.queue
  lamps : t.lamps = s.lamps
  intake : t.intake = s.intake
  conv : t.conv = s.conv
  faults : t.faults = s.faults

theorem State.Winds.refl (s : State) : s.Winds s := ⟨rfl, rfl, rfl, rfl, rfl, rfl, rfl, rfl, rfl, rfl⟩

theorem State.Tidies.winds {s t : State} (h : s.Tidies t) : s.Winds t := by
  obtain ⟨m, l, tile, dest, counts, n, -, rfl⟩ := h
  exact ⟨rfl, rfl, rfl, rfl, rfl, rfl, rfl, rfl, rfl, rfl⟩

/-! ### A ladder that has stopped (R31, R67) -/

/-- The plane of a FULL tile, handed over. -/
def Merge.filled (m : Merge) (i : PlaneId) (p : Plane) (l : Ladder) : Merge :=
  let full : Option Plane := some { p with state := .full, stamp := some ((m.lastStamp + 1) % 4294967296), ladder := some l.fields }
  match i with
  | .p1 => { m with p1 := full, lastStamp := (m.lastStamp + 1) % 4294967296 }
  | .p2 => { m with p2 := full, lastStamp := (m.lastStamp + 1) % 4294967296 }

theorem fillPlane_eq {s : State} {i : PlaneId} {p : Plane} (hp : s.plane i = some p) (l : Ladder) :
    fillPlane i l.fields s = { s with merge := s.merge.filled i p l } := by
  cases i with
  | p1 =>
    have hp : s.merge.p1 = some p := hp
    simp only [fillPlane, State.plane, State.setPlane, hp, Option.map_some]
    rfl
  | p2 =>
    have hp : s.merge.p2 = some p := hp
    simp only [fillPlane, State.plane, State.setPlane, hp, Option.map_some]
    rfl

theorem plane_filled {s t : State} {i : PlaneId} {p : Plane} {l : Ladder} (h : t.merge = s.merge.filled i p l) (k : PlaneId) :
    t.plane k = if k = i then
        some { p with state := .full, stamp := some ((s.merge.lastStamp + 1) % 4294967296), ladder := some l.fields }
      else s.plane k := by
  cases i <;> cases k <;> simp [State.plane, h, Merge.filled]

theorem filled_lastStamp (m : Merge) (i : PlaneId) (p : Plane) (l : Ladder) :
    (m.filled i p l).lastStamp = (m.lastStamp + 1) % 4294967296 := by cases i <;> rfl

/-- A tile that is FULL is in hand no more, and the boundary is reached. -/
theorem handOver_eq {s : State} {t : Tile} {i : PlaneId} {p : Plane} {l : Ladder} (ht : s.pass.tile = some t) (hi : t.plane = some i)
    (hp : s.plane i = some p) : handOver l s = boundary { s with
      merge := s.merge.filled i p l, ladder := none, pass := { s.pass with tile := none, handedOver := s.pass.handedOver + 1 } } := by
  unfold handOver
  rw [ht, Option.bind_some, hi]
  dsimp only
  rw [fillPlane_eq hp]

theorem shouldExtend_stopped {l : Ladder} (h : l.stopping ≠ .no) (r : JobRecord) (p : Plane) : shouldExtend l r p = false := by
  simp [shouldExtend, h]

/-- A stopped ladder with nothing in flight ends. -/
theorem progress_stopped {s : State} {j : JobInHand} {l : Ladder} {t : Tile} {i : PlaneId} (hj : s.pass.job = some j) (hl : s.ladder = some l)
    (hset : s.pass.settle = none) (ht : s.pass.tile = some t) (hi : t.plane = some i) (hstop : l.stopping ≠ .no) (hdue : l.due = none)
    (hf : l.inFlight = []) : progress s = if l.hasMerged then handOver l s else settleNow .boundary s := by
  have hextend : (!l.cut && (s.plane i).any (shouldExtend l j.record)) = false := by
    cases s.plane i with
    | none => simp
    | some p => simp [shouldExtend_stopped hstop]
  unfold progress
  rw [hl]
  dsimp only
  rw [hset]
  dsimp only
  rw [if_pos ⟨hf, hdue⟩]
  unfold ladderDone
  rw [hj, ht, Option.bind_some, hi]
  dsimp only
  rw [hextend]
  rfl

theorem progress_flying {s : State} {l : Ladder} (hl : s.ladder = some l) (hset : s.pass.settle = none) (hf : l.inFlight ≠ []) :
    progress s = s := by
  unfold progress
  rw [hl]
  dsimp only
  rw [hset]
  exact if_neg fun h => hf h.1

/-- Whatever a stopped ladder makes of the tile in hand, it stays, or the boundary is reached. -/
theorem progress_stopped_winds {s : State} (hset : s.pass.settle = none) (hstop : ∀ l, s.ladder = some l → l.stopping ≠ .no) :
    ∃ t, s.Winds t ∧ (progress s = t ∨ progress s = boundary t) := by
  unfold progress
  cases hl : s.ladder with
  | none => exact ⟨s, .refl s, .inl rfl⟩
  | some l =>
    dsimp only
    rw [hset]
    dsimp only
    split
    · unfold ladderDone
      split
      · next j i hj hi =>
        have hextend : (!l.cut && (s.plane i).any (shouldExtend l j.record)) = false := by
          cases s.plane i with
          | none => simp
          | some p => simp [shouldExtend_stopped (hstop l hl)]
        rw [hextend, if_neg Bool.false_ne_true]
        split
        · refine ⟨_, ?_, .inr rfl⟩
          rw [hi]
          cases i <;> exact ⟨rfl, rfl, rfl, rfl, rfl, rfl, rfl, rfl, rfl, rfl⟩
        · exact ⟨_, (tidies_recordTile s).winds, .inr rfl⟩
      · exact ⟨s, .refl s, .inl rfl⟩
    · exact ⟨s, .refl s, .inl rfl⟩

end Sys2Proof.Machine
end

section
/-! BUDGET_EXPIRY and the winding up of a plate (R36, R37, R45, R68); O31. -/
namespace Sys2Proof.Machine
open Sys2Proof

/-- The state whose budget has just expired. -/
def State.outOfTime (s : State) : State := { s with pass.budget := { s.pass.budget with state := .expired } }

theorem exec_budgetExpiry {s : State} (hb : s.pass.budget.state = .running) (hr : s.pass.budget.remaining = 0) :
    exec .budgetExpiry s = .next (windUp (takeAhead (raiseFault .budgetExpired
      ⟨s.jobCtx, s.tileCtx, none, s.pass.bank.map (·.bank)⟩ s.outOfTime))) := by
  change execBudgetExpiry s = _
  exact if_pos ⟨hb, hr⟩

theorem windUp_walking {s : State} {j : JobInHand} {t : Tile} (hs : s.pass.state = .walking) (hj : s.pass.job = some j)
    (hp : s.pass.plate ≠ .notLoaded) (ht : s.pass.tile = some t) :
    windUp s =
      let w := closeWalk { s with pass.mark := some (s.pass.mark.getD .overtime) }
      if t.phase = .ladder then progress (stopLadder .expired w) else settle .boundary w := by
  unfold windUp
  dsimp only
  rw [← markUnlessSet_eq]
  generalize hm : markUnlessSet .overtime s = m
  rw [markUnlessSet_eq] at hm
  have hstate : m.pass.state = .walking := by rw [← hm]; exact hs
  obtain ⟨n, -, hn⟩ := closeWalk_notes (s := m) (j := j) (by rw [← hm]; exact hj) (by rw [← hm]; exact hp)
  have htile : (closeWalk m).pass.tile = some t := by
    rw [hn, ← hm]
    exact ht
  rw [hstate]
  dsimp only
  rw [htile]
  obtain ⟨row, col, ordinal, phase, started, moveDone, plane⟩ := t
  cases phase <;> rfl

theorem windUp_halted {s : State} (hs : s.pass.state = .halted) (hp : s.pass.plate = .onTable) :
    windUp s = settle .inPlace (closeWalk { s with pass.mark := some (s.pass.mark.getD .overtime) }) := by
  unfold windUp
  dsimp only
  rw [← markUnlessSet_eq]
  generalize hm : markUnlessSet .overtime s = m
  rw [markUnlessSet_eq] at hm
  have hstate : m.pass.state = .halted := by rw [← hm]; exact hs
  have hplate : m.pass.plate = .onTable := by rw [← hm]; exact hp
  rw [hstate]
  dsimp only
  rw [hplate]

theorem windUp_other {s : State} (hs : s.pass.state ∈ [PassState.loading, .returning]) :
    windUp s = { s with pass.mark := some (s.pass.mark.getD .overtime) } := by
  unfold windUp
  dsimp only
  rw [← markUnlessSet_eq]
  generalize hm : markUnlessSet .overtime s = m
  rw [markUnlessSet_eq] at hm
  have hstate : m.pass.state = s.pass.state := by rw [← hm]
  rw [hstate]
  rcases List.mem_pair.mp hs with h | h <;> rw [h]

/-- Under HALTED a tile of a plate ON_TABLE is settled where it is. -/
theorem settle_inPlace_onTable {s : State} (hs : s.pass.state = .halted) (hp : s.pass.plate = .onTable) :
    ∃ t, s.Tidies t ∧ settle .inPlace s = t := by
  obtain ⟨t, ht, hend⟩ := settle_tidies .inPlace s
  refine ⟨t, ht, ?_⟩
  rcases hend with hend | hend
  · exact hend
  · obtain ⟨m, l, tile, dest, counts, n, -, rfl⟩ := ht
    rw [hend, afterSettle]
    refine jobEndCheck_stays (.inr (.inr (.inr (.inr ?_))))
    rw [plateLetsEnd_halted (by exact hs)]
    exact decide_eq_false fun h => by
      rcases h with h | ⟨-, h⟩
      · exact nomatch hp.symm.trans h
      · exact h hp

theorem plateLetsEnd_onTable {s : State} (hs : s.pass.state = .halted) (hp : s.pass.plate = .onTable) : s.plateLetsEnd = false := by
  rw [plateLetsEnd_halted hs]
  simp [hp]

/-- A tile that is not in LADDER, and whose MOVE need not run to its end, is settled at once. -/
theorem settle_recorded {s : State} {t : Tile} {dest : SettleTo} (ht : s.pass.tile = some t) (hp : t.phase ≠ .ladder)
    (hm : t.phase = .moving → t.moveDone = true ∨ dest = .inPlace) : settle dest s = afterSettle dest (recordTile s) := by
  unfold settle
  rw [ht]
  dsimp only
  cases hphase : t.phase with
  | ladder => exact absurd hphase hp
  | deciding | waitPlane => rfl
  | moving =>
    refine if_neg fun h => ?_
    rcases hm hphase with hd | rfl
    · exact nomatch h.1.symm.trans hd
    · rcases h.2 with h | h <;> exact nomatch h

/-- A tile being settled, of which something is in flight, stays in hand. -/
theorem progress_held {s : State} {l : Ladder} {t : Tile} {dest : SettleTo} (hl : s.ladder = some l) (ht : s.pass.tile = some t)
    (hs : s.pass.settle = some dest) (hf : l.inFlight ≠ []) : ∃ (m : Merge) (p : Option PlaneId),
      progress s = { s with merge := m, pass.tile := some { t with plane := p } } := by
  unfold progress
  rw [hl]
  dsimp only
  rw [hs]
  dsimp only
  rw [if_neg fun h => hf h.1]
  split
  · exact ⟨s.merge, t.plane, by rw [← hl, ← hs, ← ht]⟩
  · exact ⟨s.merge.freed t.plane, none, (freeTilePlane_eq ht).trans (by rw [← hl, ← hs])⟩

/-- Whatever the wind-up of the tile in hand leads to, these stand. -/
theorem State.Winds.boundary_leaves {s u t : State} {j : JobInHand} (h : s.Winds u) (ht : t = u ∨ t = boundary u) (hstate : s.pass.state ≠ .halted)
    (hj : s.pass.job = some j) (hw : s.pass.walkPos = j.record.tiles) (hb : s.pass.budget.state ≠ .running) :
    t.pass.budget = s.pass.budget ∧ t.pass.mark = s.pass.mark ∧ t.pass.walkPos = s.pass.walkPos ∧ t.queue = s.queue ∧ t.lamps = s.lamps
      ∧ t.intake = s.intake ∧ t.conv = s.conv ∧ t.faults = s.faults := by
  rcases ht with rfl | rfl
  · exact ⟨h.budget, h.mark, h.walkPos, h.queue, h.lamps, h.intake, h.conv, h.faults⟩
  · obtain ⟨p, m, hend, hmark, hpos, -, -, -, hbudget, -⟩ :=
      boundary_windsUp (s := u) (by rw [h.state]; exact hstate) (h.job.trans hj) (h.walkPos.trans hw)
    rw [hend]
    exact ⟨(hbudget (by rw [h.budget]; exact hb)).trans h.budget, hmark.trans h.mark, hpos.trans h.walkPos, h.queue, h.lamps, h.intake, h.conv,
      h.faults⟩

theorem afterSettle_boundary (s : State) : afterSettle .boundary s = boundary s := rfl

theorem Ladder.expired_stopping (l : Ladder) : l.expired.stopping ≠ .no := by
  unfold Ladder.expired
  split
  · next h => exact h
  · nofun

theorem Ladder.expired_of_no {l : Ladder} (h : l.stopping = .no) :
    l.expired = { l with stopping := .expired, due := none, restartPending := none, conds := Conds.put l.conds condTruncated true } :=
  if_neg (not_not_intro h)

/-- Settles O31: whatever the phase of the tile in hand, the wind-up tidies it up and reaches the boundary of a complete walk at the most. -/
theorem budgetExpiryWindsThePlateUp : Obligations.BudgetExpiryWindsThePlateUp := by
  intro s j hj hb hr
  have hexec := exec_budgetExpiry hb hr
  have hjob : s.jobCtx = some (j.number, j.record.plateId) := by rw [State.jobCtx, hj, Option.map_some]
  refine ⟨fun hs ha => ?only, fun tile total undecided counts hesc hs ht hset hp htotal hw hund hcounts => ?halted,
    fun tile total undecided counts held ha hs ht hset hp htotal hw hund hcounts hheld => ?walking⟩
  case only =>
    rw [hexec, takeAhead_of_none _ (by exact ha), windUp_other (by exact hs), hjob]
    rfl
  case halted =>
    obtain ⟨f, c, i, l, m, p, hm, htaken, hraised, -, hfirst, -⟩ := takeAhead_escalates_held (s := s.outOfTime) hesc
      ⟨s.jobCtx, s.tileCtx, none, s.pass.bank.map (·.bank)⟩ (by exact fun h => nomatch hs.symm.trans h) ht hset
    have hnumber : s.outOfTime.pass.job.map (·.number) = some j.number := congrArg _ hj
    have hentered : s.outOfTime.pass.state = .walking := hs
    rw [hnumber, hentered] at hfirst
    generalize takeAhead (raiseFault .budgetExpired ⟨s.jobCtx, s.tileCtx, none, s.pass.bank.map (·.bank)⟩ s.outOfTime) = a
      at hexec htaken hfirst
    have hwind := windUp_halted (s := a) (by rw [htaken]; rfl) (by rw [htaken]; exact hp)
    obtain ⟨n, hposts, hn⟩ := closeWalk_notes (s := { a with pass.mark := some (a.pass.mark.getD .overtime) }) (j := j)
      (by rw [htaken]; exact hj) (by rw [htaken]; exact fun h => nomatch hp.symm.trans h)
    rw [hn] at hwind
    obtain ⟨w, hw⟩ : ∃ w, w = State.noted { a with
      pass := { a.pass with mark := some (a.pass.mark.getD .overtime) }.closed j.record.tiles } n := ⟨_, rfl⟩
    have hwind : windUp a = settle .inPlace w := hwind.trans (by rw [hw])
    rw [hwind] at hexec
    have hwtile : w.pass.tile = some { tile with plane := p } := by rw [hw, htaken]; rfl
    have hwlink : w.link = n.link := by rw [hw]; rfl
    have hwladder : w.ladder = s.ladder.map (Ladder.stopped .halted) := by rw [hw, htaken]; rfl
    have hwlets : ∀ {x : State}, x.pass.state = w.pass.state → x.pass.plate = w.pass.plate → jobEndCheck x = x := fun hx hx' =>
      jobEndCheck_stays (.inr (.inr (.inr (.inr (plateLetsEnd_onTable (hx.trans (by rw [hw, htaken]; rfl))
        (hx'.trans (by rw [hw, htaken]; exact hp)))))))
    refine ⟨settle .inPlace w, hexec, ?_⟩
    have hwinds : w.Winds (settle .inPlace w) ∧ w.link.PostsTo (settle .inPlace w).link ∧ (settle .inPlace w).motion = w.motion
        ∧ (settle .inPlace w).pass.handedOver = w.pass.handedOver := by
      obtain ⟨t, htidy, hend⟩ := settle_inPlace_onTable (s := w) (by rw [hw, htaken]; rfl) (by rw [hw, htaken]; exact hp)
      rw [hend]
      refine ⟨htidy.winds, ?_⟩
      obtain ⟨_, _, _, _, _, n', hposts', rfl⟩ := htidy
      exact ⟨hposts', rfl, rfl⟩
    obtain ⟨hwinds, hposts', hmotion, hover⟩ := hwinds
    refine ⟨?_, hwinds.budget.trans (by rw [hw, htaken]; rfl), hwinds.mark.trans (by rw [hw, htaken]; rfl),
      hwinds.walkPos.trans (by rw [hw, htaken, htotal]; rfl), hwinds.job.trans (by rw [hw, htaken]; exact hj),
      hover.trans (by rw [hw, htaken]; rfl), hwinds.queue.trans (by rw [hw, htaken]; rfl),
      (congrArg Faults.raised hwinds.faults).trans (by rw [hw, htaken]; exact hraised), fun hphase => ?_, fun l hphase hl hno hvalid => ?_,
      fun hphase hflying => ?_⟩
    · exact hfirst.of_leaves (hwinds.state.trans (by rw [hw, htaken]; rfl)) ((congrArg Motion.order hmotion).trans (by rw [hw, htaken]; rfl))
        (by rw [hmotion, hw, htaken]; exact nofun) ((congrArg Faults.escalations hwinds.faults).trans (by rw [hw]; rfl))
        ((congrArg Faults.ahead hwinds.faults).trans (by rw [hw]; rfl)) (hposts.keeps.trans (by rw [← hwlink]; exact hposts'.keeps))
    · obtain ⟨n', -, -, -, hrec⟩ := recordTile_notes (s := w) (j := j) (by rw [hw, htaken]; exact hj) hwtile
      rw [settle_recorded hwtile hphase fun _ => .inr rfl, afterSettle, hwlets (by rw [hrec]; rfl) (by rw [hrec]; rfl), hrec, hw, htaken]
      exact ⟨rfl, by rw [hund, hcounts, htotal]; rfl⟩
    · rw [hl, Option.map_some, Ladder.stopped_of_no _ hno, List.filter_eq_nil_iff.mpr fun f hf => by simp [hvalid f hf]] at hwladder
      obtain ⟨n', -, -, -, hrec⟩ := recordTile_notes (s := { w with pass.settle := some .inPlace }) (j := j)
        (by rw [hw, htaken]; exact hj) hwtile
      have hsettled := (settle_ladder hwtile (by exact hphase) .inPlace).trans (progress_settled (s := { w with pass.settle := some .inPlace })
        (j := j) (by rw [hw, htaken]; exact hj) hwladder rfl rfl nofun)
      rw [afterSettle, hwlets (by rw [hrec]; rfl) (by rw [hrec]; rfl)] at hsettled
      refine ⟨by rw [hsettled, hrec]; rfl, by rw [hsettled, hrec]; rfl, fun k hk => ?_, ?_⟩
      · refine (plane_freed (s := s) (o := tile.plane) ?_ k).trans (if_pos hk)
        rw [hsettled, hrec, hw, htaken]
        exact hm
      · rw [hsettled, hrec, hw, htaken, hund, hcounts, htotal]
        rfl
    · have hsettled := settle_ladder hwtile (by exact hphase) .inPlace
      cases hl : s.ladder with
      | none =>
        rw [hl, Option.map_none] at hwladder
        have hstays : progress { w with pass.settle := some .inPlace } = { w with pass.settle := some .inPlace } := by
          unfold progress
          rw [show State.ladder { w with pass.settle := some .inPlace } = none from hwladder]
        rw [hsettled, hstays]
        refine ⟨?_, ?_, rfl, fun l h => nomatch h⟩
        · rw [hw, htaken, hund, hcounts, htotal]
          rfl
        · refine (congrArg (Option.map _) hwtile).trans ?_
          rw [Option.map_some, hphase]
      | some l =>
        rw [hl, Option.map_some] at hwladder
        obtain ⟨f, hf, hfly⟩ := hflying l hl
        have hsome : (l.stopped .halted).inFlight ≠ [] := by
          unfold Ladder.stopped
          split
          · exact List.ne_nil_of_mem hf
          · exact List.ne_nil_of_mem (List.mem_filter.mpr ⟨hf, by simp [hfly]⟩)
        obtain ⟨m', p', hheld⟩ := progress_held (s := { w with pass.settle := some .inPlace }) hwladder hwtile rfl hsome
        rw [hsettled, hheld]
        refine ⟨?_, ?_, rfl, fun x hx hno => ⟨l.stopped .halted, hwladder, ?_⟩⟩
        · rw [hw, htaken, hund, hcounts, htotal]
          rfl
        · simp only [Option.map_some, hphase]
        · cases hx
          rw [Ladder.stopped_of_no _ hno]
          exact ⟨rfl, rfl, rfl⟩
  case walking =>
    rw [takeAhead_of_none _ (by exact ha)] at hexec
    generalize hr : raiseFault .budgetExpired ⟨s.jobCtx, s.tileCtx, none, s.pass.bank.map (·.bank)⟩ s.outOfTime = r at hexec
    have hr : r = { s with
      pass.budget := { s.pass.budget with state := .expired }
      faults.raised := s.faults.raised ++
        [⟨.budgetExpired, ⟨some (j.number, j.record.plateId), some (tile.row, tile.col), none, s.pass.bank.map (·.bank)⟩⟩] } := by
      rw [← hr, hjob, State.tileCtx, ht, Option.map_some]
      rfl
    have hwind := windUp_walking (s := r) (j := j) (t := tile) (by rw [hr]; exact hs) (by rw [hr]; exact hj)
      (by rw [hr]; exact fun h => nomatch hp.symm.trans h) (by rw [hr]; exact ht)
    obtain ⟨n, -, hn⟩ := closeWalk_notes (s := { r with pass.mark := some (r.pass.mark.getD .overtime) }) (j := j)
      (by rw [hr]; exact hj) (by rw [hr]; exact fun h => nomatch hp.symm.trans h)
    obtain ⟨w, hw⟩ : ∃ w, w = closeWalk { r with pass.mark := some (r.pass.mark.getD .overtime) } := ⟨_, rfl⟩
    rw [← hw] at hwind hn
    have hwpass : w.pass = held := by
      rw [hn, hr, hheld, hcounts, hund, htotal]
      rfl
    have hwpause : w.pass.pausePending = s.pass.pausePending := by rw [hwpass, hheld]
    have hwstate : w.pass.state ≠ .halted := by rw [hwpass, hheld]; exact fun h => nomatch hs.symm.trans h
    have hwjob : w.pass.job = some j := by rw [hwpass, hheld]; exact hj
    have hwpos : w.pass.walkPos = j.record.tiles := by rw [hwpass, hheld, htotal]; rfl
    have hwtile : w.pass.tile = some tile := by rw [hwpass, hheld]; exact ht
    have hwset : w.pass.settle = none := by rw [hwpass, hheld]; exact hset
    have hwbudget : w.pass.budget.state ≠ .running := by rw [hwpass, hheld]; nofun
    have hwladder : w.ladder = s.ladder := by rw [hn, hr]; rfl
    have hwmerge : w.merge = s.merge := by rw [hn, hr]; rfl
    have hwmotion : w.motion = s.motion := by rw [hn, hr]; rfl
    have hstopped : stopLadder .expired w = { w with ladder := w.ladder.map Ladder.expired } := stopLadder_expired w
    have hwinds : ∃ u, w.Winds u ∧ (windUp r = u ∨ windUp r = boundary u) := by
      by_cases hphase : tile.phase = .ladder
      · obtain ⟨u, hu, hend⟩ := progress_stopped_winds (s := { w with ladder := w.ladder.map Ladder.expired }) hwset fun l hl => by
          obtain ⟨x, -, rfl⟩ := Option.map_eq_some_iff.mp hl
          exact x.expired_stopping
        obtain ⟨h1, h2, h3, h4, h5, h6, h7, h8, h9, h10⟩ := hu
        refine ⟨u, ⟨h1, h2, h3, h4, h5, h6, h7, h8, h9, h10⟩, ?_⟩
        rw [hwind, if_pos hphase, hstopped]
        exact hend
      · obtain ⟨u, hu, hend⟩ := settle_tidies .boundary w
        refine ⟨u, hu.winds, ?_⟩
        rw [hwind, if_neg hphase]
        rw [afterSettle_boundary] at hend
        exact hend
    obtain ⟨u, hu, hend⟩ := hwinds
    obtain ⟨hbudget, hmark, hpos, hqueue, hlamps, hintake, hconv, hfaults⟩ := hu.boundary_leaves hend hwstate hwjob hwpos hwbudget
    refine ⟨windUp r, hexec, hbudget.trans (by rw [hwpass]), hmark.trans (by rw [hwpass]), hpos.trans (by rw [hwpass, hheld]),
        hqueue.trans (by rw [hn, hr]; rfl),
      hlamps.trans (by rw [hn, hr]; rfl), hintake.trans (by rw [hn, hr]; rfl), hconv.trans (by rw [hn, hr]; rfl),
      hfaults.trans (by rw [hn, hr]; rfl), fun hphase hplane => ?_, fun hphase hmoving => ?_, fun l i p hphase hi hplane hl hno => ?_⟩
    · have hnot : tile.phase ≠ .ladder := by
        rcases hphase with h | ⟨h, -⟩ <;> rw [h] <;> nofun
      obtain ⟨n', -, -, -, hrec⟩ := recordTile_notes hwjob hwtile
      have hsettled := settle_recorded (dest := .boundary) hwtile hnot fun h => .inl <| by
        rcases hphase with h' | ⟨-, h'⟩
        · exact nomatch h.symm.trans h'
        · exact h'
      rw [afterSettle_boundary] at hsettled
      obtain ⟨pass, motion, hbound, -, -, htile, hcount, -, -, hup⟩ := boundary_windsUp (s := recordTile w) (by rw [hrec]; exact hwstate)
        (by rw [hrec]; exact hwjob) (by rw [hrec]; exact hwpos)
      rw [hwind, if_neg hnot, hsettled, hbound]
      refine ⟨htile.trans (by rw [hrec]; rfl), hcount.trans ?_, ?_, ?_⟩
      · rw [hrec]
        change w.pass.counts.missed 1 = _
        rw [hwpass, hheld]
        rfl
      · rw [hrec]
        change w.merge.freed tile.plane = _
        rw [hplane]
        exact hwmerge
      · have hpause : (recordTile w).pass.pausePending = s.pass.pausePending := by rw [hrec]; exact hwpause
        rw [← hpause]
        exact hup
    · have hnot : tile.phase ≠ .ladder := by rw [hphase]; nofun
      rw [hwind, if_neg hnot, settle_moving hwtile hphase hmoving (.inl rfl)]
      exact ⟨by rw [hwpass], hwmotion, hwladder, hwmerge⟩
    · rw [hl] at hwladder
      rw [hwladder, Option.map_some, Ladder.expired_of_no hno] at hstopped
      rw [hwind, if_pos hphase, hstopped]
      have hwplane : w.plane i = some p := (plane_congr hwmerge i).trans hplane
      generalize hx : { l with stopping := Stopping.expired, due := none, restartPending := none, conds := Conds.put l.conds condTruncated true } = x
      have hprogress (hf : l.inFlight = []) := progress_stopped (s := { w with ladder := some x }) (j := j) (l := x) (t := tile)
        (i := i) hwjob rfl hwset hwtile hi (by rw [← hx]; nofun) (by rw [← hx]) (by rw [← hx]; exact hf)
      refine ⟨fun hf => ?_, fun hf hm => ?_, fun hf hm => ?_⟩
      · rw [progress_flying (s := { w with ladder := some x }) rfl hwset (by rw [← hx]; exact hf)]
        exact ⟨hwpass, hwmotion, hwmerge, by rw [← hx]; rfl⟩
      · have hmerged : x.hasMerged = true := by
          rw [← hx]
          obtain ⟨e, he, hout⟩ := hm
          exact List.any_eq_true.mpr ⟨e, he, decide_eq_true hout⟩
        have hhand := handOver_eq (s := { w with ladder := some x }) (l := x) hwtile hi hwplane
        rw [hprogress hf, hmerged, if_pos rfl, hhand]
        generalize hfull : State.mk .. = full
        obtain ⟨pass, motion, hbound, -, -, htile, hcount, hover, -, hup⟩ := boundary_windsUp (s := full) (j := j)
          (by rw [← hfull]; exact hwstate) (by rw [← hfull]; exact hwjob) (by rw [← hfull]; exact hwpos)
        rw [hbound]
        refine ⟨htile.trans (by rw [← hfull]), by rw [← hfull], hover.trans (by rw [← hfull, hwpass, hheld]), hcount.trans (by rw [← hfull, hwpass]), ?_, ?_⟩
        · refine (plane_filled (s := s) (i := i) (p := p) (l := x) ?_ i).trans ?_
          · rw [← hfull, ← hwmerge]
          · rw [if_pos rfl, ← hx]
            rfl
        · have hpause : full.pass.pausePending = s.pass.pausePending := by rw [← hfull]; exact hwpause
          rw [← hpause]
          exact hup
      · have hmerged : x.hasMerged = false := by
          rw [← hx]
          exact List.any_eq_false.mpr fun e he => by rw [hm e he]; exact of_decide_eq_false rfl
        rw [hprogress hf, hmerged, if_neg Bool.false_ne_true, settleNow]
        obtain ⟨n', -, -, -, hrec⟩ := recordTile_notes (s := { w with ladder := some x }) hwjob hwtile
        rw [afterSettle_boundary]
        generalize recordTile { w with ladder := some x } = rec at hrec
        obtain ⟨pass, motion, hbound, -, -, htile, hcount, hover, -, hup⟩ := boundary_windsUp (s := rec) (j := j)
          (by rw [hrec]; exact hwstate) (by rw [hrec]; exact hwjob) (by rw [hrec]; exact hwpos)
        rw [hbound]
        refine ⟨htile.trans (by rw [hrec]; rfl), by rw [hrec]; rfl,
            hover.trans (by rw [hrec]; exact (congrArg Pass.handedOver hwpass).trans (by rw [hheld])), ?_, hcount.trans ?_, ?_⟩
        · refine (plane_freed (s := w) (o := tile.plane) ?_ i).trans (if_pos hi)
          rw [hrec]
          rfl
        · rw [hrec]
          change w.pass.counts.missed 1 = _
          rw [hwpass, hheld]
          rfl
        · have hpause : rec.pass.pausePending = s.pass.pausePending := by rw [hrec]; exact hwpause
          rw [← hpause]
          exact hup

end Sys2Proof.Machine
end

section
/-! ATTEMPT_START (R44, R54, R55, R59, R62, R64, R70, R72, R74, R86); O33. -/
namespace Sys2Proof.Machine
open Sys2Proof

/-! ### An attempt starts (R54, R72) -/

/-- What a started attempt leaves, its retry's count apart. -/
def State.exposed (s : State) (l : Ladder) (w : Window) (r a : Nat) (i : SlotId) (reading : Sample) : State :=
  expose l.bank .rung (rungExposure (s.eFlat l.bank) r) reading { s.setSlot i (some (freshSlot .ladder r a w l.c (rungExposure (s.eFlat l.bank) r) s)) with
    ladder := some { l with
      due := none, current := some (r, a), begun := true, inFlight := l.inFlight ++ [⟨i, r, a, .awaited, s.time.count⟩] } }

theorem startAttempt_eq {s : State} {l : Ladder} (hl : s.ladder = some l) (w : Window) (r a : Nat) (i : SlotId) (reading : Sample) :
    startAttempt l w r a i reading s
      = if 1 < a then addCounter .rungRetries 1 (s.exposed l w r a i reading) else s.exposed l w r a i reading := by
  have hmap : mapLadder (fun l => { l with
        due := none, current := some (r, a), begun := true
        inFlight := l.inFlight ++ [⟨i, r, a, .awaited, s.time.count⟩] })
      (s.setSlot i (some (freshSlot .ladder r a w l.c (rungExposure (s.eFlat l.bank) r) s)))
      = { s.setSlot i (some (freshSlot .ladder r a w l.c (rungExposure (s.eFlat l.bank) r) s)) with
        ladder := some { l with
          due := none, current := some (r, a), begun := true, inFlight := l.inFlight ++ [⟨i, r, a, .awaited, s.time.count⟩] } } := by
    unfold mapLadder
    have hkeeps : (s.setSlot i (some (freshSlot .ladder r a w l.c (rungExposure (s.eFlat l.bank) r) s))).ladder = s.ladder := by
      cases i <;> rfl
    rw [hkeeps, hl, Option.map_some]
  unfold startAttempt
  dsimp only
  rw [show (s.setSlot i (some (freshSlot .ladder r a w l.c (rungExposure (s.eFlat l.bank) r) s))).tag = s.time.count by cases i <;> rfl, hmap]
  rfl

theorem exec_attemptStart {s : State} {l : Ladder} {j : JobInHand} {r a : Nat} {i : SlotId} {reading : Sample} (hl : s.ladder = some l)
    (hj : s.pass.job = some j) (hdue : l.due = some (r, a)) (hno : l.stopping = .no) (hready : (s.bank l.bank).health = .ready)
    (hawaits : ∀ x ∈ l.inFlight, x.state ≠ .awaited) (hdark : s.anyLit = false) (hi : s.freeSlot = some i) :
    exec (.attemptStart reading) s = .next (startAttempt l j.record.window r a i reading s) := by
  have hlit : (l.awaits || s.anyLit) = false := by
    rw [hdark, Bool.or_false]
    exact List.any_eq_false.mpr fun x hx => by simp [hawaits x hx]
  change execAttemptStart reading s = _
  unfold execAttemptStart
  rw [hl, hj]
  dsimp only
  rw [hdue]
  dsimp only
  rw [if_neg (not_not_intro hno), hready, if_neg nofun, hlit, if_neg Bool.false_ne_true, hi]

theorem exposed_spec (s : State) (l : Ladder) (w : Window) (r a : Nat) (i : SlotId) (reading : Sample) :
    let v := s.exposed l w r a i reading
    let e := rungExposure (s.eFlat l.bank) r
    v.slot i = some (freshSlot .ladder r a w l.c e s) ∧ (∀ k, k ≠ i → v.slot k = s.slot k)
      ∧ v.ladder = some { l with
          due := none, current := some (r, a), begun := true, inFlight := l.inFlight ++ [⟨i, r, a, .awaited, s.time.count⟩] }
      ∧ v.lamps.exposure = some ⟨l.bank, .rung, e, s.time.count, s.now, s.params.driftTol, reading.toNat, 1⟩
      ∧ v.lamps.line = some (s.now + e) ∧ v.bank l.bank = { s.bank l.bank with lit := true }
      ∧ v.bank (BankId.other l.bank) = s.bank (BankId.other l.bank) ∧ v.stats = s.stats ∧ v.link = s.link
      ∧ { v with intake.s1 := s.intake.s1, intake.s2 := s.intake.s2, ladder := s.ladder, lamps := s.lamps, stats := s.stats
                 link := s.link } = s := by
  dsimp only
  unfold State.exposed
  generalize rungExposure (s.eFlat l.bank) r = e
  generalize l.bank = bank
  refine ⟨?_, fun k hk => ?_, ?_⟩
  · cases i <;> cases bank <;> rfl
  · cases i <;> cases k <;> cases bank <;> simp_all [expose, State.slot, State.setSlot, State.setBank]
  · cases i <;> cases bank <;> exact ⟨rfl, rfl, rfl, rfl, rfl, rfl, rfl, rfl⟩

/-! ### No bank gives light (R44, R59, R62, R64) -/

theorem switchTest_false {s : State} {l : Ladder} {j : JobInHand} (hj : s.pass.job = some j)
    (h : j.record.bankPref = .aOnly ∨ j.record.bankPref = .bOnly ∨ 2 ≤ l.restarts
      ∨ (s.bank (BankId.other l.bank)).health = .failed ∨ (s.flat (BankId.other l.bank)).validity = .invalid) (policy : Bool) :
    switchTest policy l s = false := by
  unfold switchTest
  rw [hj]
  rcases h with h | h | h | h | h
  · simp [h, BankPref.permitsOther]
  · simp [h, BankPref.permitsOther]
  · simp [Nat.not_lt.mpr h]
  · simp [State.usable, h]
  · simp [State.usable, h]

theorem exec_attemptStart_noLight {s : State} {l : Ladder} {j : JobInHand} {r a : Nat} (hl : s.ladder = some l)
    (hj : s.pass.job = some j) (hdue : l.due = some (r, a)) (hno : l.stopping = .no) (hfailed : (s.bank l.bank).health = .failed)
    (hswitch : switchTest false l s = false) (reading : Sample) :
    exec (.attemptStart reading) s = .next (noLight (takeAhead (raiseFault .noLight (s.rungCtx r a l.bank) s))) := by
  change execAttemptStart reading s = _
  unfold execAttemptStart
  rw [hl, hj]
  dsimp only
  rw [hdue]
  dsimp only
  rw [if_neg (not_not_intro hno), if_pos hfailed, failedBankDue, hswitch, if_neg Bool.false_ne_true]

/-- The closing of a walk, whatever the plate's place. -/
theorem closeWalk_leaves (s : State) : ∃ (counts : RecordCounts) (pos : Nat) (n : Notes), s.link.PostsTo n.link
    ∧ closeWalk s = { s with pass.counts := counts, pass.walkPos := pos }.noted n := by
  cases hj : s.pass.job with
  | none =>
    have hstays : closeWalk s = s := by rw [closeWalk, hj]
    exact ⟨s.pass.counts, s.pass.walkPos, s.notes, .refl _, hstays⟩
  | some j =>
    by_cases hp : s.pass.plate = .notLoaded
    · refine ⟨s.pass.counts, j.record.tiles, s.notes, .refl _, ?_⟩
      unfold closeWalk
      rw [hj]
      dsimp only
      split
      · rfl
      · next h => exact absurd hp h
    · obtain ⟨n, hn, hend⟩ := closeWalk_notes hj hp
      exact ⟨_, _, n, hn, hend⟩

theorem recordTile_ladder (s : State) : (recordTile s).ladder = s.ladder ∨ (recordTile s).ladder = none := by
  cases hj : s.pass.job with
  | none => exact .inl (by rw [recordTile, hj])
  | some j =>
    cases ht : s.pass.tile with
    | none => exact .inl (by rw [recordTile, hj, ht])
    | some t =>
      obtain ⟨n, -, -, -, hrec⟩ := recordTile_notes hj ht
      exact .inr (by rw [hrec]; rfl)

theorem afterSettle_returning_ladder {s : State} (h : s.pass.state ≠ .halted) : (afterSettle .returning s).ladder = s.ladder := by
  obtain ⟨step, m, hend⟩ := enterReturning_eq s
  rw [afterSettle_returning h, hend]

/-- On the way to RETURNING a ladder stays until its tile is recorded. -/
theorem settle_returning_ladder {s : State} (h : s.pass.state ≠ .halted) :
    (settle .returning s).ladder = s.ladder ∨ (settle .returning s).ladder = none := by
  have hnow (u : State) (hu : u.pass.state ≠ .halted) : (settleNow .returning u).ladder = u.ladder ∨ (settleNow .returning u).ladder = none := by
    rw [settleNow, afterSettle_returning_ladder (by rw [(tidies_recordTile u).state]; exact hu)]
    exact recordTile_ladder u
  unfold settle
  split
  · exact .inl (afterSettle_returning_ladder h)
  · split
    · unfold progress
      dsimp only
      split
      · exact .inl rfl
      · generalize hf : (if State.planeBusy { s with pass.settle := some .returning } = true then { s with pass.settle := some .returning }
          else freeTilePlane { s with pass.settle := some .returning }) = f
        have hfree : f.ladder = s.ladder ∧ f.pass.state = s.pass.state := by
          subst hf
          split
          · exact ⟨rfl, rfl⟩
          · simp
        rw [← hfree.1]
        split
        · exact hnow f (by rw [hfree.2]; exact h)
        · exact .inl rfl
    · split
      · exact .inl rfl
      · exact hnow s h
    · exact hnow s h
    · exact hnow s h

/-- The tile in hand of a plate that gets no light is settled by the state of the pass. -/
theorem noLight_eq (s : State) : noLight s = settle (if s.pass.state = .halted then .inPlace else .returning)
    (closeWalk (stopLadder .fatal { s with pass.mark := some .failed, pass.budget := s.pass.budget.stop })) := by
  obtain ⟨w, hw⟩ : ∃ w, w = closeWalk (stopLadder .fatal { s with pass.mark := some .failed, pass.budget := s.pass.budget.stop }) := ⟨_, rfl⟩
  have hstate : w.pass.state = s.pass.state := by
    rw [hw, (closeWalk_frame _).2.1, stopLadder_eq (.inr (.inr rfl))]
  have hcases : noLight s = match w.pass.state with
      | .halted => settle .inPlace w
      | _ => settle .returning w := by rw [hw]; rfl
  rw [hcases, ← hw, ← hstate]
  split
  · next h => rw [h, if_pos rfl]
  · next h => rw [if_neg (by exact h)]

/-- Under HALTED, a tile in LADDER of which nothing is in flight is recorded where it is. -/
theorem settle_inPlace_ladder {s : State} {j : JobInHand} {t : Tile} {l : Ladder} (hs : s.pass.state = .halted) (hp : s.pass.plate = .onTable)
    (hj : s.pass.job = some j) (ht : s.pass.tile = some t) (hphase : t.phase = .ladder) (hl : s.ladder = some l) (hf : l.inFlight = []) :
    ∃ n : Notes, s.link.PostsTo n.link
      ∧ settle .inPlace s = { s with merge := s.merge.freed t.plane, ladder := none, pass := s.pass.withoutTile }.noted n := by
  obtain ⟨n, hn, -, -, hrec⟩ := recordTile_notes (s := { s with pass.settle := some .inPlace }) hj ht
  refine ⟨n, hn, (settle_ladder ht hphase .inPlace).trans ?_⟩
  rw [progress_settled (s := { s with pass.settle := some .inPlace }) hj hl hf rfl nofun, afterSettle, hrec]
  exact jobEndCheck_stays (.inr (.inr (.inr (.inr (plateLetsEnd_onTable hs hp)))))

/-- Settles O33: the switch test fails wherever no other bank may serve, so NO_LIGHT is what is left. -/
theorem attemptStartLightsTheBankOrRaisesNoLight : Obligations.AttemptStartLightsTheBankOrRaisesNoLight := by
  intro s l j r a reading hl hj hdue hno
  have hjob : s.jobCtx = some (j.number, j.record.plateId) := by rw [State.jobCtx, hj, Option.map_some]
  refine ⟨fun i other f hready hawaits ha hb hf hi => ?starts, fun hfailed hs hahead hpref => ?dark,
    fun tile total hfailed hs hesc hpref ht hphase hset hflight hplate htotal hpos => ?halted⟩
  case starts =>
    obtain ⟨hfree, hne, -⟩ := freeSlot_eq_some hi
    have hexec := exec_attemptStart (reading := reading) hl hj hdue hno hready hawaits (by rw [State.anyLit, ha, hb]; rfl) hfree
    rw [startAttempt_eq hl] at hexec
    have hstarted := exposed_spec s l j.record.window r a i reading
    have heFlat : s.eFlat l.bank = f.record.eFlat := eFlat_of_flat hf
    rw [rungExposure, heFlat] at hstarted
    generalize s.exposed l j.record.window r a i reading = v at hexec hstarted
    obtain ⟨hslot, hother, hladder, hexposure, hline, hlit, hdark, hstats, hlink, hrest⟩ := hstarted
    obtain ⟨t, ht⟩ : ∃ t, t = if 1 < a then addCounter .rungRetries 1 v else v := ⟨_, rfl⟩
    rw [← ht] at hexec
    obtain ⟨st, lk, hcount⟩ : ∃ st lk, t = { v with stats := st, link := lk } := by
      rw [ht]
      split
      · rw [addCounter_eq]
        exact ⟨_, _, rfl⟩
      · exact ⟨v.stats, v.link, rfl⟩
    have hslots (k : SlotId) : t.slot k = v.slot k := slot_congr (by rw [hcount]) k
    have hbanks (b : BankId) : t.bank b = v.bank b := bank_congr (by rw [hcount]) b
    refine ⟨t, hexec, (hslots i).trans hslot, (hslots other).trans (hother other hne.symm), by rw [hcount]; exact hladder,
      by rw [hcount]; exact hexposure, by rw [hcount]; exact hline, (hbanks _).trans hlit, (hbanks _).trans hdark, fun hfirst => ?_,
      fun hretry hlen => ?_, ?_⟩
    · rw [ht, if_neg (by omega)]
      exact ⟨hstats, hlink⟩
    · have hvalues (c : CounterId) : v.counter c = s.counter c := counter_congr hstats c
      rw [ht, if_pos hretry]
      refine ⟨?_, fun c hc => (addCounter_counter_ne hc 1 v).trans (hvalues c)⟩
      rw [addCounter_counter_same (by rw [hstats]; exact hlen), Counter.plus_value, hvalues]
    · rw [hcount]
      exact hrest
  case dark =>
    have hexec := exec_attemptStart_noLight hl hj hdue hno hfailed (switchTest_false hj hpref false) reading
    rw [takeAhead_of_none _ (by exact hahead)] at hexec
    obtain ⟨u, hu⟩ : ∃ u, u = raiseFault .noLight (s.rungCtx r a l.bank) s := ⟨_, rfl⟩
    rw [← hu] at hexec
    have hstate : u.pass.state ≠ .halted := by rw [hu]; exact fun h => nomatch hs.symm.trans h
    have hstop := stopLadder_eq (why := .fatal) (.inr (.inr rfl)) { u with pass.mark := some .failed, pass.budget := u.pass.budget.stop }
    obtain ⟨counts, pos, n, -, hclosed⟩ := closeWalk_leaves (stopLadder .fatal { u with
      pass.mark := some .failed, pass.budget := u.pass.budget.stop })
    generalize (stopLadder .fatal { u with pass.mark := some .failed, pass.budget := u.pass.budget.stop }).intake = intake at hstop
    rw [noLight_eq, if_neg hstate, hclosed, hstop] at hexec
    generalize hw : State.noted _ n = w at hexec
    have hwstate : w.pass.state ≠ .halted := by rw [← hw]; exact hstate
    obtain ⟨hmark, -, -, hbudget, -, hfaults, hlamps⟩ := settle_returning_leaves hwstate
    refine ⟨settle .returning w, hexec, ?_, hmark.trans (by rw [← hw]; rfl), hlamps.trans (by rw [← hw, hu]; rfl), fun m hm => ?_, fun hb => ?_⟩
    · rw [hfaults, ← hw, hu]
      change s.faults.raised ++ [⟨.noLight, s.rungCtx r a l.bank⟩] = _
      rw [State.rungCtx, hjob]
      rfl
    · have hladder : w.ladder = some (l.stopped .fatal) := by
        rw [← hw, hu]
        exact congrArg (Option.map _) hl
      rcases settle_returning_ladder hwstate with h | h
      · rw [hm, hladder, Ladder.stopped_of_no _ hno] at h
        cases h
        exact ⟨rfl, rfl⟩
      · exact nomatch hm.symm.trans h
    · rw [hbudget, ← hw, hu]
      exact Budget.stop_of hb
  case halted =>
    have hexec := exec_attemptStart_noLight hl hj hdue hno hfailed (switchTest_false hj hpref false) reading
    obtain ⟨f, c, i, lk, m, p, hm, htaken, hraised, -, hfirst, -⟩ := takeAhead_escalates_held (s := s) hesc
      (s.rungCtx r a l.bank) (by rw [hs]; nofun) ht hset
    rw [hs, hj, Option.map_some] at hfirst
    generalize takeAhead (raiseFault .noLight (s.rungCtx r a l.bank) s) = u at hexec htaken hfirst
    rw [hl, Option.map_some, Ladder.stopped_of_no _ hno, hflight] at htaken
    rw [noLight_eq, if_pos (by rw [htaken]; rfl), stopLadder_of_stopped (by rw [htaken]) (by exact nofun)] at hexec
    obtain ⟨n, hposts, hclosed⟩ := closeWalk_notes (s := { u with pass.mark := some .failed, pass.budget := u.pass.budget.stop }) (j := j)
      (by rw [htaken]; exact hj) (by rw [htaken]; exact fun h => nomatch hplate.symm.trans h)
    rw [hclosed] at hexec
    obtain ⟨w, hw⟩ : ∃ w, w = State.noted { u with
      pass := { u.pass with mark := some .failed, budget := u.pass.budget.stop }.closed j.record.tiles } n := ⟨_, rfl⟩
    obtain ⟨n', hposts', hsettled⟩ := settle_inPlace_ladder (s := w) (j := j) (t := { tile with plane := p }) (by rw [hw, htaken]; rfl)
      (by rw [hw, htaken]; exact hplate) (by rw [hw, htaken]; exact hj) (by rw [hw, htaken]; rfl) hphase
      (by rw [hw, htaken]; rfl) rfl
    have hexec : exec (.attemptStart reading) s = .next (settle .inPlace w) := hexec.trans (by rw [hw])
    have hwlink : w.link = n.link := by rw [hw]; rfl
    rw [hwlink] at hposts'
    refine ⟨_, hexec.trans (congrArg _ hsettled), ?_, ?_, ?_, ?_, rfl, rfl, fun k hk => ?_, ?_, ?_, ?_, ?_⟩
    · exact hfirst.of_leaves (by rw [hw, htaken]; rfl) (by rw [hw, htaken]; rfl) (by rw [hw, htaken]; exact nofun) (by rw [hw]; rfl)
        (by rw [hw]; rfl) (hposts.keeps.trans hposts'.keeps)
    · rw [hw]; rfl
    · rw [hw, htaken]; exact hplate
    · rw [hw, htaken]; exact hj
    · refine (plane_freed (s := s) (o := tile.plane) ?_ k).trans (if_pos hk)
      rw [hw, htaken]
      exact hm
    · rw [hw, htaken, htotal]; rfl
    · rw [hw, htaken, htotal]; rfl
    · rw [hw]
      exact Budget.stop_state _
    · rw [hw, htaken]
      exact hraised

end Sys2Proof.Machine
end

section
/-! An exposure, its samples and its end (R58, R63, R73 to R75, R90); O34. -/
namespace Sys2Proof.Machine
open Sys2Proof

/-! ### A failed exposure (R58, R63, R90) -/

theorem decideFailure_stopped {s : State} {l : Ladder} (hl : s.ladder = some l) (h : l.stopping ≠ .no) (bankFault : Bool)
    (r a started : Nat) : decideFailure bankFault r a started s = s := by
  unfold decideFailure
  split
  · next l' j hl' hj =>
    rw [hl] at hl'
    cases hl'
    rw [decide_eq_false h, Bool.and_false, Bool.false_and, if_neg Bool.false_ne_true, if_pos h]
  · rfl

/-- R63's row for an attempt left under retry_bank SAME: the next one becomes due. -/
theorem decideFailure_retried {s : State} {l : Ladder} {j : JobInHand} {r a : Nat} (hl : s.ladder = some l) (hj : s.pass.job = some j)
    (hno : l.stopping = .no) (hsame : j.record.retryBank a = .same) (hleft : a < l.allowed) (started : Nat) :
    decideFailure false r a started s = mapLadder (fun l => { l with due := some (r, a + 1) }) s := by
  unfold decideFailure
  rw [hl, hj]
  dsimp only
  rw [Bool.false_and, Bool.false_and, if_neg Bool.false_ne_true, if_neg (not_not_intro hno), if_neg, if_pos hleft]
  exact fun h => nomatch hsame.symm.trans h.2.1

/-- Once the ladder has stopped, a failed exposure marks its slot at most. -/
theorem failExposure_stopped {s a : State} {l : Ladder} (ha : takeAhead s = a) (hl : a.ladder = some l) (h : l.stopping ≠ .no)
    (bankFault : Bool) : failExposure bankFault s = a ∨ failExposure bankFault s = markFilling .ladder a := by
  unfold failExposure
  dsimp only
  rw [ha]
  split
  · exact .inl rfl
  · right
    exact decideFailure_stopped (by rw [markFilling_intake]; exact hl) h bankFault _ _ _

/-- A failed exposure whose fault halts the pass first: its slot is marked, and the stopped ladder stays as the halt left it. -/
theorem failExposure_escalates {s : State} {k : FaultKind} {l : Ladder} {i : SlotId} {d : Slot} {t : Tile} (h : EscalatesFirst s k)
    (ctx : Ctx) (hstate : s.pass.state ≠ .halted) (ht : s.pass.tile = some t) (hs : s.pass.settle = none) (hl : s.ladder = some l)
    (hno : l.stopping = .no) (hx : s.lamps.exposure = none) (hi : s.fillingSlot = some i) (hd : s.slot i = some d)
    (htaker : d.taker = .ladder) (bankFault : Bool) :
    ∃ u, failExposure bankFault (raiseFault k ctx s) = u ∧ u.slot i = some { d with discard := true }
      ∧ u.faults.raised = s.faults.raised ∧ u.lamps = s.lamps.dark ∧ u.stats = s.stats
      ∧ u.ladder = some (l.stopped .halted) ∧ u.pass.bank = s.pass.bank ∧ u.pass.banksUsed = s.pass.banksUsed
      ∧ HaltedFirst s u k s.pass.state (s.pass.job.map (·.number)) (some (t.row, t.col)) := by
  obtain ⟨f, c, x, lk, m, p, -, htaken, hraised, -, hfirst, hfill, hslots⟩ := takeAhead_escalates_held h ctx hstate ht hs
  have hslot := hslots l hl hno hx i d hd htaker (by rw [fillingSlot_filling hi hd]; nofun)
  rw [hi, if_pos rfl] at hslot
  generalize ha : takeAhead (raiseFault k ctx s) = a at htaken hfirst hfill hslot
  have hladder : a.ladder = some (l.stopped .halted) := by
    rw [htaken]
    exact congrArg (Option.map _) hl
  have hmarked : (markFilling .ladder a).slot i = some { d with discard := true } := by
    rw [slot_markFilling, hfill, hi, if_pos rfl, hslot, Option.map_some, Slot.markedFor, if_pos (by exact htaker)]
  have hend : ∃ z, failExposure bankFault (raiseFault k ctx s) = { a with intake := z }
      ∧ State.slot { a with intake := z } i = some { d with discard := true } := by
    rcases failExposure_stopped ha hladder (by rw [Ladder.stopped_of_no _ hno]; nofun) bankFault with h | h
    · exact ⟨a.intake, h, hslot⟩
    · exact ⟨_, h.trans (markFilling_intake .ladder a), by rw [← markFilling_intake]; exact hmarked⟩
  obtain ⟨z, hend, hz⟩ := hend
  rw [hend]
  refine ⟨_, rfl, hz, ?_, ?_, ?_, hladder, ?_, ?_, hfirst⟩
  · rw [htaken]; exact hraised
  · rw [htaken]
  · rw [htaken]
  · rw [htaken]; rfl
  · rw [htaken]; rfl

/-! ### The end of an exposure -/

theorem exec_exposureTimerEnd {s : State} {x : Exposure} {fall : Nat} (hx : s.lamps.exposure = some x) (hline : s.lamps.line = some fall)
    (hfall : fall ≤ s.now) (hcount : x.count = 1 + (x.exposure - 1) / 100) :
    exec .exposureTimerEnd s = .next (exposureRanOut x (s.verdict x) (darkenAtEnd x s)) := by
  change execExposureTimerEnd s = _
  unfold execExposureTimerEnd
  rw [hline]
  dsimp only
  rw [if_pos hfall, hx]
  exact if_pos hcount

/-- The lamps once an exposure has run out. -/
theorem darkenAtEnd_lamps (x : Exposure) (s : State) : ∃ lamps : Lamps, darkenAtEnd x s = { s with lamps := lamps }
    ∧ lamps.exposure = none ∧ lamps.line = none
    ∧ State.bank { s with lamps := lamps } x.bank = { s.bank x.bank with
        lit := false, lastReading := some ⟨x.exposure, x.purpose, x.count, x.mean, s.judgedMref x, s.verdict x⟩ }
    ∧ State.bank { s with lamps := lamps } (BankId.other x.bank) = s.bank (BankId.other x.bank) := by
  refine ⟨(darkenAtEnd x s).lamps, ?_⟩
  unfold darkenAtEnd
  generalize s.judgedMref x = m
  generalize s.verdict x = v
  generalize x.bank = b
  cases b <;> exact ⟨rfl, rfl, rfl, rfl, rfl⟩

theorem bank_dark {s t : State} (h : t.lamps = s.lamps.dark) (b : BankId) : t.bank b = { s.bank b with lit := false } := by
  cases b <;> simp [State.bank, h, Lamps.dark]

theorem mref_of_flat {s : State} {b : BankId} {f : FlatData} (h : (s.flat b).data = some f) : s.mref b = some f.record.mref := by
  rw [State.mref, State.flatRecord, h]
  rfl

/-- R75's verdict of a rung's exposure, over the integers. -/
theorem driftVerdict_eq (m mref tol : Nat) :
    driftVerdict m mref tol = if tol * mref < ((m : Int) - mref).natAbs * 1000 then .drift else .held := by
  have habs : m - mref + (mref - m) = ((m : Int) - mref).natAbs := by omega
  rw [driftVerdict, habs]

theorem verdict_rung {s : State} {x : Exposure} {f : FlatData} (hp : x.purpose = .rung) (hf : (s.flat x.bank).data = some f) :
    s.verdict x = if x.driftTol * f.record.mref < ((x.mean : Int) - f.record.mref).natAbs * 1000 then .drift else .held := by
  rw [State.verdict, hp]
  dsimp only
  rw [mref_of_flat hf, Option.getD_some, driftVerdict_eq]

theorem judgedMref_rung {s : State} {x : Exposure} {f : FlatData} (hp : x.purpose = .rung) (hf : (s.flat x.bank).data = some f) :
    s.judgedMref x = some f.record.mref := by
  rw [State.judgedMref, hp]
  exact mref_of_flat hf

/-- Settles O34: the lamp unit darkens the bank and gives the verdict, and a DRIFT fails the attempt by R63's table. -/
theorem exposureIsSampledAndJudged : Obligations.ExposureIsSampledAndJudged := by
  intro s x hx
  have hsample (reading : Sample) : exec (.monitorSample reading) s = if 100 * x.count < x.exposure ∧ x.startAt + 100 * x.count ≤ s.now then
      .next { s with lamps.exposure := some { x with sum := x.sum + reading.toNat, count := x.count + 1 } } else .next s := by
    change execMonitorSample reading s = _
    unfold execMonitorSample
    rw [hx]
  refine ⟨fun reading hdue htime => (hsample reading).trans (if_pos ⟨hdue, htime⟩),
    fun reading hnot => (hsample reading).trans (if_neg (by omega)), fun fall m hline hfall hcount hm => ?_⟩
  have hexec := exec_exposureTimerEnd hx hline hfall hcount
  have hm : x.mean = m := hm.symm
  obtain ⟨lamps, hdark, hnone, hlow, hbank, hother⟩ := darkenAtEnd_lamps x s
  rw [hm] at hbank
  rw [hdark] at hexec
  refine ⟨fun hp c hc => ?calibration, fun f mref hf hmref hp hheld => ?held,
    fun f mref l j i d g hf hmref hp hdrift hl hj hno hi hd htaker hg hrung => ?drift⟩
  case calibration =>
    have hverdict : s.verdict x = .notJudged := by rw [State.verdict, hp]
    have hjudged : s.judgedMref x = none := by rw [State.judgedMref, hp]
    have hout : exposureRanOut x .notJudged { s with lamps := lamps }
        = { s with lamps := lamps, cal.cal := some { c with pendingM := some m } } := by
      unfold exposureRanOut
      rw [hp]
      dsimp only
      rw [calExposureEnd, mapCal, hm]
      dsimp only
      rw [hc, Option.map_some]
    rw [hverdict, hout] at hexec
    rw [hverdict, hjudged, hp] at hbank
    exact ⟨_, hexec, hbank, hother, hnone, hlow, rfl, rfl⟩
  case held =>
    have hverdict : s.verdict x = .held := by
      rw [verdict_rung hp hf, hm, ← hmref, if_neg (Nat.not_lt.mpr hheld)]
    have hout : exposureRanOut x .held { s with lamps := lamps } = { s with lamps := lamps } := by
      unfold exposureRanOut
      rw [hp]
    rw [hverdict, hout] at hexec
    rw [hverdict, judgedMref_rung hp hf, hp, ← hmref] at hbank
    exact ⟨_, hexec, hbank, hother, hnone, hlow, rfl⟩
  case drift =>
    have hverdict : s.verdict x = .drift := by
      rw [verdict_rung hp hf, hm, ← hmref, if_pos hdrift]
    have hctx : State.awaitedCtx { s with lamps := lamps } x.bank
        = ⟨some (j.number, j.record.plateId), s.pass.tile.map fun t => (t.row, t.col), some (d.rung, d.attempt), some x.bank⟩ := by
      have hslot : (State.fillingSlot { s with lamps := lamps }).bind (State.slot { s with lamps := lamps }) = some d :=
        (congrArg (Option.bind · _) hi).trans hd
      rw [State.awaitedCtx, hslot]
      dsimp only
      rw [State.rungCtx, State.jobCtx, hj, Option.map_some, State.tileCtx]
    have hout : exposureRanOut x .drift { s with lamps := lamps } = failExposure false (raiseFault .lampDrift
        ⟨some (j.number, j.record.plateId), s.pass.tile.map fun t => (t.row, t.col), some (d.rung, d.attempt), some x.bank⟩
        { s with lamps := lamps }) := by
      unfold exposureRanOut
      rw [hp]
      dsimp only
      rw [hctx]
    rw [hverdict, hout] at hexec
    rw [hverdict, judgedMref_rung hp hf, hp, ← hmref] at hbank
    refine ⟨fun hahead hleft hsame => ?retried, fun tile hesc hstate htile hset => ?halted⟩
    case retried =>
      generalize hu : raiseFault .lampDrift ⟨some (j.number, j.record.plateId), s.pass.tile.map fun t => (t.row, t.col),
        some (d.rung, d.attempt), some x.bank⟩ { s with lamps := lamps } = u at hexec
      have hflight : u.fillingSlot.bind u.flightAt = some g := by
        rw [← hu]
        exact (congrArg (Option.bind · _) hi).trans hg
      have hfail : failExposure false u = mapLadder (fun l => { l with due := some (g.rung, g.attempt + 1) }) (markFilling .ladder u) := by
        unfold failExposure
        rw [takeAhead_of_none u (by rw [← hu]; exact hahead)]
        dsimp only
        rw [hflight]
        dsimp only
        rw [markFilling_intake]
        exact decideFailure_retried (l := l) (j := j) (by rw [← hu]; exact hl) (by rw [← hu]; exact hj) hno hsame hleft g.started
      have hslot : (markFilling .ladder u).slot i = some { d with discard := true } := by
        have hufill : u.fillingSlot = some i := by rw [← hu]; exact hi
        have huslot : u.slot i = some d := by rw [← hu]; exact hd
        rw [slot_markFilling, hufill, if_pos rfl, huslot, Option.map_some, Slot.markedFor, if_pos (by exact htaker)]
      obtain ⟨z, hz⟩ : ∃ z, markFilling .ladder u = { u with intake := z } := ⟨_, markFilling_intake .ladder u⟩
      rw [hz] at hfail hslot
      rw [hfail] at hexec
      have hlamps : (mapLadder (fun l => { l with due := some (g.rung, g.attempt + 1) }) { u with intake := z }).lamps = lamps := by
        rw [← hu]
        rfl
      refine ⟨_, hexec, ?_, ?_, ?_, hslot, ?_, ?_, ?_⟩
      · exact (bank_congr (t := { s with lamps := lamps }) hlamps _).trans hbank
      · rw [hlamps, hnone]
      · rw [hlamps, hlow]
      · rw [← hu]
        exact congrArg (Option.map _) hl
      · rw [← hu]
        rfl
      · rw [← hu]
        exact ⟨rfl, rfl, rfl, rfl⟩
    case halted =>
      obtain ⟨u, hu, hslot, hraised, hlamps, hstats, hladder, -, -, hfirst⟩ := failExposure_escalates (s := { s with lamps := lamps })
        (by exact hesc) ⟨some (j.number, j.record.plateId), s.pass.tile.map fun t => (t.row, t.col), some (d.rung, d.attempt), some x.bank⟩
        hstate htile hset hl hno hnone hi hd htaker false
      rw [hu] at hexec
      have hentry : Option.map (·.number) s.pass.job = some j.number := by rw [hj, Option.map_some]
      refine ⟨u, l.stopped .halted, hexec, ?_, ?_, hslot, hraised, hladder, ?_⟩
      · rw [← hentry]
        exact hfirst
      · refine (bank_dark (s := { s with lamps := lamps }) hlamps x.bank).trans ?_
        rw [hbank]
      · rw [Ladder.stopped_of_no _ hno]
        exact ⟨rfl, rfl, rfl, rfl, rfl, rfl, hstats⟩

end Sys2Proof.Machine
end

section
/-! Driver faults and LAMP-RESET (R63, R71, R76 to R78, R80, R90, R91, R126); O35. -/
namespace Sys2Proof.Machine
open Sys2Proof

/-! ### Faults that a decision raises besides -/

/-- `t` has raised the faults of `s`, and maybe more. -/
def State.RaisesMore (s t : State) : Prop := s.faults.raised <+: t.faults.raised

theorem State.RaisesMore.of_eq {s t : State} (h : t.faults = s.faults) : s.RaisesMore t := by
  unfold State.RaisesMore
  rw [h]

theorem State.RaisesMore.trans {s t u : State} (h : s.RaisesMore t) (h' : t.RaisesMore u) : s.RaisesMore u := List.IsPrefix.trans h h'

theorem raisesMore_raiseFault (k : FaultKind) (ctx : Ctx) (s : State) : s.RaisesMore (raiseFault k ctx s) :=
  ⟨[⟨k, ctx⟩], rfl⟩

theorem raisesMore_staleCheck (bank : BankId) (s : State) : s.RaisesMore (staleCheck bank s) := by
  unfold staleCheck
  dsimp only
  split
  · split
    · exact .of_eq rfl
    · exact raisesMore_raiseFault _ _ _
  · exact .of_eq rfl

theorem raisesMore_moveBank (s : State) : s.RaisesMore (moveBank s) := by
  unfold moveBank
  split
  · next l j _ _ =>
    have htake : s.RaisesMore (takeBank j.record (BankId.other l.bank) s) := by
      unfold takeBank
      refine State.RaisesMore.trans ?_ (raisesMore_staleCheck _ _)
      exact .of_eq rfl
    dsimp only
    split
    · exact htake
    · exact htake
  · exact .of_eq rfl

theorem raisesMore_finishRestart (policy : Bool) (s : State) : s.RaisesMore (finishRestart policy s) := by
  unfold finishRestart
  refine State.RaisesMore.trans (.of_eq ?_) (raisesMore_moveBank _)
  simp

theorem raisesMore_restart (policy : Bool) (s : State) : s.RaisesMore (restart policy s) := by
  have hdiscard : (discardWaiting s).faults = s.faults := by simp
  unfold restart
  dsimp only
  split
  · exact .of_eq hdiscard
  · exact State.RaisesMore.trans (.of_eq hdiscard) (raisesMore_finishRestart _ _)

theorem loseRung_leaves {s : State} (h : s.faults.ahead = []) (rung started : Nat) :
    s.RaisesMore (loseRung rung started s) ∧ (loseRung rung started s).lamps = s.lamps := by
  unfold loseRung
  split
  · exact ⟨.of_eq rfl, rfl⟩
  · next l _ =>
    dsimp only
    generalize hu : addCounter .rungsLost 1 (enterRung ⟨rung, .lost, l.allowed, started⟩ s) = u
    have hkept : u.faults = s.faults ∧ u.lamps = s.lamps := by
      subst hu
      simp [enterRung]
    obtain ⟨hfaults, hlamps⟩ := hkept
    rw [takeAhead_of_none _ (by exact (congrArg Faults.ahead hfaults).trans h)]
    exact ⟨State.RaisesMore.trans (.of_eq hfaults) (raisesMore_raiseFault .rungLost _ u), hlamps⟩

theorem decideFailure_leaves {s : State} (h : s.faults.ahead = []) (bankFault : Bool) (r a started : Nat) :
    s.RaisesMore (decideFailure bankFault r a started s) ∧ (decideFailure bankFault r a started s).lamps = s.lamps := by
  have hrestart (policy : Bool) : s.RaisesMore (restart policy s) ∧ (restart policy s).lamps = s.lamps :=
    ⟨raisesMore_restart policy s, by simp⟩
  have hself : s.RaisesMore s ∧ s.lamps = s.lamps := ⟨.of_eq rfl, rfl⟩
  unfold decideFailure
  split
  · split
    · exact hrestart false
    · split
      · exact hself
      · split
        · exact hrestart true
        · split
          · exact hself
          · exact loseRung_leaves h r started
  · exact hself

theorem failExposure_leaves {s : State} (h : s.faults.ahead = []) (bankFault : Bool) :
    s.RaisesMore (failExposure bankFault s) ∧ (failExposure bankFault s).lamps = s.lamps := by
  unfold failExposure
  rw [takeAhead_of_none s h]
  dsimp only
  split
  · exact ⟨.of_eq rfl, rfl⟩
  · next f _ =>
    obtain ⟨x, hx⟩ : ∃ x, markFilling .ladder s = { s with intake := x } := ⟨_, markFilling_intake .ladder s⟩
    rw [hx]
    exact decideFailure_leaves (s := { s with intake := x }) h bankFault f.rung f.attempt f.started

/-! ### The lamp unit's side of a driver fault -/

/-- The lamps once the lit bank has failed. -/
theorem failLit_lamps (b : BankId) (s : State) : ∃ lamps : Lamps, failBank b true (darkenNow (setFaultInput b true s)) = { s with lamps := lamps }
    ∧ lamps.exposure = none ∧ lamps.line = s.lamps.line
    ∧ State.bank { s with lamps := lamps } b = { s.bank b with
        health := .failed, lit := false, faultInput := true, failures := min 255 ((s.bank b).failures + 1)
        lastFailure := some ⟨s.time.count, true⟩ }
    ∧ State.bank { s with lamps := lamps } (BankId.other b) = { s.bank (BankId.other b) with lit := false } := by
  refine ⟨(failBank b true (darkenNow (setFaultInput b true s))).lamps, ?_⟩
  cases b <;> exact ⟨rfl, rfl, rfl, rfl, rfl⟩

theorem exec_faultInputAssert_lit {s : State} {b : BankId} {x : Exposure} (h : (s.bank b).faultInput = false) (hx : s.lamps.exposure = some x)
    (hb : x.bank = b) : exec (.faultInputAssert b) s = .next (litFault b x (setFaultInput b true s)) := by
  have hexposure : (setFaultInput b true s).lamps.exposure = some x := by cases b <;> exact hx
  change execFaultInputAssert b s = _
  unfold execFaultInputAssert
  rw [h, if_neg Bool.false_ne_true]
  dsimp only
  rw [hexposure]
  exact if_pos hb

theorem exec_faultInputAssert_dark {s : State} {b : BankId} (h : (s.bank b).faultInput = false)
    (hx : ∀ x, s.lamps.exposure = some x → x.bank ≠ b) :
    exec (.faultInputAssert b) s = .next (darkFault b (setFaultInput b true s)) := by
  have hexposure : (setFaultInput b true s).lamps.exposure = s.lamps.exposure := by cases b <;> rfl
  change execFaultInputAssert b s = _
  unfold execFaultInputAssert
  rw [h, if_neg Bool.false_ne_true]
  dsimp only
  rw [hexposure]
  cases hcase : s.lamps.exposure with
  | none => rfl
  | some x => exact if_neg (hx x hcase)

/-- A rung's exposure cut by the driver fault of its bank. -/
theorem litFault_rung {s : State} {b : BankId} {x : Exposure} {d : Slot} {i : SlotId} {lamps : Lamps} (hp : x.purpose = .rung)
    (hdark : failBank b true (darkenNow (setFaultInput b true s)) = { s with lamps := lamps }) (hi : s.fillingSlot = some i)
    (hd : s.slot i = some d) : litFault b x (setFaultInput b true s)
      = failExposure true (raiseFault .bankFault ⟨s.jobCtx, s.tileCtx, some (d.rung, d.attempt), some b⟩ { s with lamps := lamps }) := by
  have hslot : (State.fillingSlot { s with lamps := lamps }).bind (State.slot { s with lamps := lamps }) = some d :=
    (congrArg (Option.bind · _) hi).trans hd
  have hctx : State.awaitedCtx { s with lamps := lamps } b = ⟨s.jobCtx, s.tileCtx, some (d.rung, d.attempt), some b⟩ := by
    rw [State.awaitedCtx, hslot]
    rfl
  unfold litFault
  dsimp only
  rw [hdark, hp]
  dsimp only
  rw [hctx]
  rfl

/-- A calibration told of a failure while a frame of it is awaited winds down in CLOSING. -/
theorem failCal_closing {s : State} {c : Calibration} {i : SlotId} {d : Slot} (hc : s.cal.cal = some c) (hf : c.failure = none)
    (hi : s.fillingSlot = some i) (hd : s.slot i = some d) (ht : d.taker = .calibration) (why : CalFailure) :
    ∃ x : Intake, failCal why s = { s with cal.cal := some { c with failure := some why, phase := .closing, due := false }, intake := x }
      ∧ ∀ t : State, t.intake = x → t.slot i = some { d with discard := true }
        ∧ ∀ k e, k ≠ i → s.slot k = some e → e.taker = .calibration → t.slot k = if e.state = .valid then none else some e := by
  have hfilling := fillingSlot_filling hi hd
  unfold failCal
  rw [hc]
  dsimp only
  rw [hf]
  generalize hm : mapCal (fun c => { c with failure := some why, phase := .closing, due := false }) s = m
  have hm : m = { s with cal.cal := some { c with failure := some why, phase := .closing, due := false } } := by
    rw [← hm, mapCal, hc, Option.map_some]
  have hmarked (k : SlotId) : (markFilling .calibration m).slot k = if k = i then some { d with discard := true } else s.slot k := by
    have hmfill : m.fillingSlot = some i := by rw [hm]; exact hi
    have hmslot (k : SlotId) : m.slot k = s.slot k := by rw [hm]; cases k <;> rfl
    rw [slot_markFilling, hmfill]
    by_cases hk : k = i
    · rw [hk, if_pos rfl, if_pos rfl, hmslot, hd, Option.map_some, Slot.markedFor, if_pos ht]
    · rw [if_neg (by simpa using Ne.symm hk), if_neg hk, hmslot]
  obtain ⟨y, hfreed⟩ : ∃ y, freeValid .calibration (markFilling .calibration m) = { m with intake := y } :=
    ⟨_, (freeValid_intake _ _).trans (by rw [markFilling_intake])⟩
  have hslots (k : SlotId) : State.slot { m with intake := y } k = if (markFilling .calibration m).validFor .calibration k then none
      else if k = i then some { d with discard := true } else s.slot k := by
    rw [← hfreed, slot_freeValid, hmarked]
  have hi' : State.slot { m with intake := y } i = some { d with discard := true } := by
    rw [hslots, State.validFor, hmarked, if_pos rfl, if_neg (by simp [hfilling])]
  rw [hfreed]
  have hclose : closeCal { m with intake := y } = { m with intake := y } := by
    have hholds : State.holdsSlot { m with intake := y } .calibration = true :=
      List.any_eq_true.mpr ⟨i, by cases i <;> decide, by rw [hi', Option.any_some]; exact decide_eq_true ht⟩
    unfold closeCal
    rw [hm]
    dsimp only
    rw [hm] at hholds
    rw [hholds, Bool.not_true, Bool.and_false, if_neg Bool.false_ne_true]
  refine ⟨y, ?_, fun t hty => ⟨(slot_congr (t := { m with intake := y }) hty i).trans hi', fun k e hk he hte => ?_⟩⟩
  · rw [Option.isSome_none, if_neg Bool.false_ne_true, hclose, hm]
  · rw [slot_congr (t := { m with intake := y }) hty k, hslots, State.validFor, hmarked, if_neg hk, he, Option.any_some, hte]
    simp

/-- Settles O35. -/
theorem driverFaultsFailABankAndLampResetRevivesIt : Obligations.DriverFaultsFailABankAndLampResetRevivesIt := by
  intro s b
  refine ⟨fun h => ?_, ?_, fun h hx => ?_, fun x i d h hx hb hp hi hd hahead => ?rung,
    fun x i d g l j tile h hx hb hp hi hd htaker hg hl hno hj ht hset hstate hesc => ?halted,
    fun x c i d h hx hb hp hc hf hi hd htaker => ?calibration, fun code tag flags rest hat hcode => ⟨fun h => ?_, fun h => ?_⟩⟩
  · change execFaultInputAssert b s = _
    unfold execFaultInputAssert
    rw [h, if_pos rfl]
  · exact congrArg Host.Outcome.next rfl
  · rw [exec_faultInputAssert_dark h hx]
    cases b <;> rfl
  case rung =>
    obtain ⟨lamps, hdark, hnone, hline, hbank, hother⟩ := failLit_lamps b s
    have hexec := exec_faultInputAssert_lit h hx hb
    rw [litFault_rung hp hdark hi hd] at hexec
    obtain ⟨⟨more, hmore⟩, hlamps⟩ := failExposure_leaves (s := raiseFault .bankFault
      ⟨s.jobCtx, s.tileCtx, some (d.rung, d.attempt), some b⟩ { s with lamps := lamps }) hahead true
    have hkept (k : BankId) := bank_congr (t := { s with lamps := lamps }) hlamps k
    refine ⟨_, more, hexec, (hkept b).trans hbank, (hkept _).trans hother, by rw [hlamps]; exact hnone, by rw [hlamps]; exact hline, ?_⟩
    rw [← hmore]
    change (s.faults.raised ++ [_]) ++ more = _
    rw [List.append_assoc]
    rfl
  case halted =>
    obtain ⟨lamps, hdark, hnone, hline, hbank, hother⟩ := failLit_lamps b s
    have hexec := exec_faultInputAssert_lit h hx hb
    rw [litFault_rung hp hdark hi hd] at hexec
    obtain ⟨u, hu, hslot, hraised, hlamps, hstats, hladder, hpbank, hused, hfirst⟩ := failExposure_escalates (s := { s with lamps := lamps })
        (by exact hesc) ⟨s.jobCtx, s.tileCtx, some (d.rung, d.attempt), some b⟩ hstate ht hset hl hno hnone hi hd htaker true
    have hentry : Option.map (·.number) s.pass.job = some j.number := by rw [hj, Option.map_some]
    rw [hu] at hexec
    refine ⟨u, l.stopped .halted, hexec, ?_, ?_, ?_, ?_, ?_, hslot, hladder, ?_⟩
    · rw [← hentry]
      exact hfirst
    · refine (bank_dark (s := { s with lamps := lamps }) hlamps b).trans ?_
      rw [hbank]
    · refine (bank_dark (s := { s with lamps := lamps }) hlamps (BankId.other b)).trans ?_
      rw [hother]
    · rw [hlamps]
      rfl
    · rw [hlamps]
      exact hline
    · rw [Ladder.stopped_of_no _ hno]
      exact ⟨rfl, rfl, rfl, rfl, rfl, hpbank, hused, hraised, hstats⟩
  case calibration =>
    obtain ⟨lamps, hdark, hnone, hline, hbank, hother⟩ := failLit_lamps b s
    have hexec := exec_faultInputAssert_lit h hx hb
    have hlit : litFault b x (setFaultInput b true s) = failCal .bankFault (raiseFault .bankFault ⟨none, none, none, some b⟩ { s with lamps := lamps }) := by
      unfold litFault
      dsimp only
      rw [hdark, hp]
      rfl
    obtain ⟨y, hfail, hslots⟩ := failCal_closing (s := raiseFault .bankFault ⟨none, none, none, some b⟩ { s with lamps := lamps })
      hc hf hi hd htaker .bankFault
    rw [hlit, hfail] at hexec
    obtain ⟨hslot, hothers⟩ := hslots { s with intake := y } rfl
    exact ⟨_, hexec, hbank, hother, hnone, hline, rfl, hslot, fun k e hk he hte => hothers k e hk he hte, rfl, rfl, rfl, rfl, rfl⟩
  · rcases hcode with ⟨rfl, rfl⟩ | ⟨rfl, rfl⟩
    all_goals
      refine exec_answer rfl rfl (numBody_byte _) hat ?_
      exact if_neg (by exact fun h' => nomatch h.symm.trans h')
  · rcases hcode with ⟨rfl, rfl⟩ | ⟨rfl, rfl⟩
    all_goals
      refine exec_answer rfl rfl (numBody_byte _) hat ?_
      exact if_pos h

end Sys2Proof.Machine
end

section
/-! The switch to the other bank and the restart of a ladder (R51, R59, R60, R63, R64, R130); O42. -/
namespace Sys2Proof.Machine
open Sys2Proof

/-! ### The move to the other bank (R60 step 4, R64) -/

/-- A ladder moved to a bank in use, its first attempt there due. -/
def Ladder.moved (l : Ladder) (b : BankInUse) (stale : Bool) : Ladder :=
  { l with bank := b.bank, effFirst := b.first, effLast := b.last, top := b.top, currentLast := b.last
           conds := Conds.put l.conds condStaleFlat stale, due := some (b.first, 1), begun := false }

theorem checked_staleSet (c : CalStore) (bank k : BankId) (stale : Bool) :
    (c.checked bank stale).staleSet.has k = if k = bank then stale else c.staleSet.has k := by
  by_cases hk : k = bank <;> cases stale <;> simp [CalStore.checked, BankSet.has_add, BankSet.has_remove, hk]

theorem checked_raisedSet (c : CalStore) (bank k : BankId) (stale : Bool) :
    (c.checked bank stale).raisedSet.has k = (c.raisedSet.has k || decide (k = bank) && stale) := by
  cases stale <;> simp [CalStore.checked, BankSet.has_add]

theorem moveBank_eq {s : State} {l : Ladder} {j : JobInHand} {tile : Tile} {f : FlatData} {stale : Bool} {b : BankInUse}
    (hb : b = clampLadder j.record (BankId.other l.bank) f.record.eFlat) (hl : s.ladder = some l)
    (hj : s.pass.job = some j) (ht : s.pass.tile = some tile) (hf : (s.flat (BankId.other l.bank)).data = some f)
    (hstale : stale = true ↔ s.params.flatAgeLimit ≠ 0 ∧ s.params.flatAgeLimit ≤ f.record.age) :
    moveBank s = { s with
      ladder := some (l.moved b stale), cal := s.cal.checked (BankId.other l.bank) stale
      pass := { s.pass with
        bank := some b, banksUsed := s.pass.banksUsed.add (BankId.other l.bank), stale := s.pass.stale || stale }
      faults.raised := s.faults.raised ++ staleRaised s j (some (tile.row, tile.col)) (BankId.other l.bank) stale } := by
  have his : s.isStale (BankId.other l.bank) = stale := Bool.eq_iff_iff.mpr ((isStale_of_flat hf).trans hstale.symm)
  have hhas := (checked_staleSet s.cal (BankId.other l.bank) (BankId.other l.bank) stale).trans (if_pos rfl)
  have hjob : s.jobCtx = some (j.number, j.record.plateId) := by rw [State.jobCtx, hj, Option.map_some]
  have htile : s.tileCtx = some (tile.row, tile.col) := by rw [State.tileCtx, ht, Option.map_some]
  unfold moveBank
  rw [hl, hj]
  dsimp only
  rw [takeBank_eq, his, hjob, htile, State.clamped, eFlat_of_flat hf, ← hb]
  dsimp only
  rw [hhas, mapLadder]
  dsimp only
  rw [hl, Option.map_some]
  rfl

/-! ### The restart (R60) -/

/-- A ladder restarted, before it moves to the other bank. -/
def Ladder.restarted (l : Ladder) (policy : Bool) : Ladder :=
  { l with rungList := [], restarts := l.restarts + 1, extensions := 0, restartPending := none
           conds := Conds.put (Conds.put l.conds condRungLost false) condBankSwitch true, policyUsed := l.policyUsed || policy }

theorem clearTilePlane_eq {s : State} {tile : Tile} {pi : PlaneId} {p : Plane} (ht : s.pass.tile = some tile) (hi : tile.plane = some pi)
    (hp : s.plane pi = some p) : clearTilePlane s = s.setPlane pi (some (clearPlane p)) := by
  unfold clearTilePlane
  rw [ht, Option.bind_some, hi]
  dsimp only
  rw [hp, Option.map_some]

theorem conds_restarted (c : Conds) (stale : Bool) :
    Conds.put (Conds.put (Conds.put c condRungLost false) condBankSwitch true) condStaleFlat stale
      = (c &&& 43#6) ||| 8#6 ||| (if stale = true then 16#6 else 0#6) := by
  revert c
  cases stale <;> decide

theorem conds_moved (c : Conds) (stale : Bool) :
    Conds.put c condStaleFlat stale = (c &&& 47#6) ||| (if stale = true then 16#6 else 0#6) := by
  revert c
  cases stale <;> decide

/-- What is restarted is the ladder, its plane and its bank; the flat's stale check comes with the bank. -/
theorem finishRestart_restarted {s : State} {l : Ladder} {j : JobInHand} {tile : Tile} {pi : PlaneId} {p : Plane} {f : FlatData} {stale : Bool}
    (hl : s.ladder = some l) (hj : s.pass.job = some j) (ht : s.pass.tile = some tile) (hi : tile.plane = some pi) (hp : s.plane pi = some p)
    (hf : (s.flat (BankId.other l.bank)).data = some f)
    (hstale : stale = true ↔ s.params.flatAgeLimit ≠ 0 ∧ s.params.flatAgeLimit ≤ f.record.age) (hlen : s.stats.counters.length = 16)
    (policy : Bool) : ∃ t, finishRestart policy s = t ∧ Restarted policy stale s l j.record pi p f.record t
      ∧ t.faults = { s.faults with
          raised := s.faults.raised ++ staleRaised s j (some (tile.row, tile.col)) (BankId.other l.bank) stale }
      ∧ t.lamps = s.lamps ∧ t.pass.settle = s.pass.settle ∧ t.intake = s.intake := by
  obtain ⟨merge, hmerge⟩ : ∃ m, s.setPlane pi (some (clearPlane p)) = { s with merge := m } :=
    ⟨(s.setPlane pi (some (clearPlane p))).merge, by cases pi <;> rfl⟩
  have hplane : State.plane { s with merge := merge } pi = some (clearPlane p) := by
    rw [← hmerge]
    cases pi <;> rfl
  have hcleared : mapLadder (fun l => l.restarted policy) (clearTilePlane s) = { s with merge := merge, ladder := some (l.restarted policy) } := by
    rw [clearTilePlane_eq ht hi hp, hmerge, mapLadder]
    dsimp only
    rw [hl, Option.map_some]
  have hfinish : finishRestart policy s
      = moveBank (addCounter .ladderRestarts 1 { s with merge := merge, ladder := some (l.restarted policy) }) := by
    rw [← hcleared]
    rfl
  obtain ⟨b, hb⟩ : ∃ b, b = clampLadder j.record (BankId.other l.bank) f.record.eFlat := ⟨_, rfl⟩
  have hcounter := addCounter_counter_same (s := { s with merge := merge, ladder := some (l.restarted policy) }) hlen .ladderRestarts 1
  have hold : State.counter { s with merge := merge, ladder := some (l.restarted policy) } .ladderRestarts = s.counter .ladderRestarts := rfl
  rw [hold] at hcounter
  rw [addCounter_eq] at hfinish hcounter
  refine ⟨_, hfinish.trans (moveBank_eq (l := l.restarted policy) hb rfl (by exact hj) (by exact ht) (by exact hf) hstale), ?_,
    rfl, rfl, rfl, rfl⟩
  subst hb
  refine ⟨_, topRung f.record.eFlat, min j.record.lastRung (topRung f.record.eFlat), _, rfl, rfl, rfl, rfl, rfl, rfl, rfl, rfl, rfl, rfl, rfl, rfl, rfl, rfl,
    rfl, ?_, ⟨?_, ?_, rfl, rfl⟩, rfl, rfl, rfl, hplane, rfl, rfl, rfl, rfl, ?_⟩
  · change Conds.put (Conds.put (Conds.put l.conds condRungLost false) condBankSwitch true) condStaleFlat stale = _
    exact conds_restarted l.conds stale
  · exact fun k => checked_staleSet s.cal (BankId.other l.bank) k stale
  · exact fun k => checked_raisedSet s.cal (BankId.other l.bank) k stale
  · exact (congrArg Counter.value hcounter).trans (Counter.plus_value _ 1)

/-- A restart is the same seen from before the frames and the lamps were settled. -/
theorem Restarted.of_same {policy stale : Bool} {s s' : State} {l l' : Ladder} {r : JobRecord} {pi : PlaneId} {p p' : Plane} {f : FlatRecord} {t : State}
    (h : Restarted policy stale s' l' r pi p' f t) (hbank : l'.bank = l.bank) (hrestarts : l'.restarts = l.restarts)
    (hused : l'.policyUsed = l.policyUsed) (hconds : l'.conds = l.conds) (hc : l'.c = l.c) (hl : l'.l = l.l) (hstop : l'.stopping = l.stopping)
    (hp : clearPlane p' = clearPlane p) (hpass : s'.pass = s.pass) (hcal : s'.cal = s.cal)
    (hcounter : s'.counter .ladderRestarts = s.counter .ladderRestarts) : Restarted policy stale s l r pi p f t := by
  obtain ⟨m, top, last, first, htop, hlast, hfirst, hladder, hmbank, hmtop, hmlast, hmcur, hmfirst, hdue, hrungs, hmres, hext, hpend, hmused,
    hmconds, hchecked, hmc, hml, hmstop, hplane, hpbank, hpused, htile, hstate, hvalue⟩ := h
  rw [hbank] at hmbank hchecked hpbank hpused
  rw [hrestarts] at hmres
  rw [hused] at hmused
  rw [hconds] at hmconds
  rw [hpass] at hpused htile hstate
  unfold StaleChecked at hchecked
  rw [hcal, hpass] at hchecked
  rw [hcounter] at hvalue
  exact ⟨m, top, last, first, htop, hlast, hfirst, hladder, hmbank, hmtop, hmlast, hmcur, hmfirst, hdue, hrungs, hmres, hext, hpend, hmused,
    hmconds, hchecked, hmc.trans hc, hml.trans hl, hmstop.trans hstop, hplane.trans (congrArg some hp), hpbank, hpused, htile, hstate, hvalue⟩

/-! ### The waiting frames (R60, R91) -/

/-- A ladder whose waiting frames are discarded. -/
def Ladder.unwaiting (l : Ladder) : Ladder := { l with inFlight := l.inFlight.filter fun f => decide (f.state ≠ .valid) }

theorem discardWaiting_eq {s : State} {l : Ladder} (hl : s.ladder = some l) : ∃ x : Intake,
    discardWaiting s = { s with ladder := some l.unwaiting, intake := x }
      ∧ ∀ t : State, t.intake = x → t.mergingSlot .ladder = s.mergingSlot .ladder
        ∧ ∀ k, t.slot k = if s.validFor .ladder k then none else s.slot k := by
  obtain ⟨m, hm⟩ : ∃ m, m = mapLadder Ladder.unwaiting s := ⟨_, rfl⟩
  have hdiscard : discardWaiting s = freeValid .ladder m := by rw [hm]; rfl
  have hm : m = { s with ladder := some l.unwaiting } := by rw [hm, mapLadder, hl, Option.map_some]
  have hslots (t : State) (ht : t.intake = (freeValid .ladder m).intake) (k : SlotId) :
      t.slot k = if s.validFor .ladder k then none else s.slot k := by
    have hkept : m.slot k = s.slot k := slot_congr (by rw [hm]) k
    rw [slot_congr ht k, slot_freeValid, State.validFor, State.validFor, hkept]
  refine ⟨(freeValid .ladder m).intake, by rw [hdiscard]; exact (freeValid_intake _ m).trans (by rw [hm]), fun t ht => ⟨?_, hslots t ht⟩⟩
  unfold State.mergingSlot
  refine List.find?_congr fun k _ => ?_
  rw [hslots t ht, State.validFor]
  cases hk : s.slot k with
  | none => simp
  | some d =>
    by_cases hd : d.state = .valid ∧ d.taker = .ladder
    · simp [hd]
    · simp [hd]

/-- With no merge in progress a restart is made at once. -/
theorem restart_restarted {s : State} {l : Ladder} {j : JobInHand} {tile : Tile} {pi : PlaneId} {p : Plane} {f : FlatData} {stale : Bool}
    (hl : s.ladder = some l) (hj : s.pass.job = some j) (ht : s.pass.tile = some tile) (hi : tile.plane = some pi) (hp : s.plane pi = some p)
    (hf : (s.flat (BankId.other l.bank)).data = some f)
    (hstale : stale = true ↔ s.params.flatAgeLimit ≠ 0 ∧ s.params.flatAgeLimit ≤ f.record.age) (hlen : s.stats.counters.length = 16)
    (hmerging : s.mergingSlot .ladder = none) (policy : Bool) : ∃ t, restart policy s = t ∧ Restarted policy stale s l j.record pi p f.record t
      ∧ t.faults = { s.faults with
          raised := s.faults.raised ++ staleRaised s j (some (tile.row, tile.col)) (BankId.other l.bank) stale }
      ∧ t.lamps = s.lamps ∧ t.pass.settle = s.pass.settle
      ∧ ∀ k, t.slot k = if s.validFor .ladder k then none else s.slot k := by
  obtain ⟨x, hdiscard, hx⟩ := discardWaiting_eq hl
  have hfree : (discardWaiting s).mergingSlot .ladder = none := (hx _ (by rw [hdiscard])).1.trans hmerging
  have hrestart : restart policy s = finishRestart policy (discardWaiting s) := by
    unfold restart
    dsimp only
    rw [hfree]
  obtain ⟨t, hend, hrestarted, hfaults, hlamps, hsettle, hintake⟩ := finishRestart_restarted (s := { s with ladder := some l.unwaiting, intake := x })
    (l := l.unwaiting) rfl hj ht hi hp hf hstale hlen policy
  refine ⟨t, hrestart.trans ((congrArg _ hdiscard).trans hend), ?_, hfaults, hlamps, hsettle, (hx t hintake).2⟩
  exact hrestarted.of_same rfl rfl rfl rfl rfl rfl rfl rfl rfl rfl rfl

/-- A merge in progress ends first: until then nothing is due. -/
theorem restart_waits {s : State} {l : Ladder} {k : SlotId} (hl : s.ladder = some l) (hmerging : s.mergingSlot .ladder = some k) (policy : Bool) :
    ∃ x : Intake, restart policy s = { s with
        ladder := some { l.unwaiting with due := none, restartPending := some policy }, intake := x }
      ∧ ∀ t : State, t.intake = x → ∀ k, t.slot k = if s.validFor .ladder k then none else s.slot k := by
  obtain ⟨x, hdiscard, hx⟩ := discardWaiting_eq hl
  have hbusy : (discardWaiting s).mergingSlot .ladder = some k := (hx _ (by rw [hdiscard])).1.trans hmerging
  refine ⟨x, ?_, fun t ht => (hx t ht).2⟩
  unfold restart
  dsimp only
  rw [hbusy, hdiscard]
  rfl

theorem switchTest_true {s : State} {l : Ladder} {j : JobInHand} (hj : s.pass.job = some j)
    (hpref : j.record.bankPref = .aFirst ∨ j.record.bankPref = .bFirst) (hready : (s.bank (BankId.other l.bank)).health = .ready)
    (hvalid : (s.flat (BankId.other l.bank)).validity = .valid) (hrestarts : l.restarts < 2) {policy : Bool}
    (hpolicy : policy = true → l.policyUsed = false) : switchTest policy l s = true := by
  have hpermits : j.record.bankPref.permitsOther = true := by
    rcases hpref with h | h <;> rw [h] <;> rfl
  have husable : s.usable (BankId.other l.bank) = true := (usable_iff s _).mpr ⟨hready, hvalid⟩
  unfold switchTest
  rw [hj, Option.any_some, hpermits, husable, decide_eq_true hrestarts]
  cases policy with
  | false => rfl
  | true => rw [hpolicy rfl]; rfl

/-! ### Who asks for a restart (R63, R64) -/

theorem decideFailure_forced {s : State} {l : Ladder} {j : JobInHand} (hl : s.ladder = some l) (hj : s.pass.job = some j) (hno : l.stopping = .no)
    (hswitch : switchTest false l s = true) (r a started : Nat) : decideFailure true r a started s = restart false s := by
  unfold decideFailure
  rw [hl, hj]
  dsimp only
  exact if_pos (by rw [hswitch, decide_eq_true hno]; rfl)

theorem decideFailure_policy {s : State} {l : Ladder} {j : JobInHand} {a : Nat} (hl : s.ladder = some l) (hj : s.pass.job = some j)
    (hno : l.stopping = .no) (hleft : a < l.allowed) (halternate : j.record.retryBank a = .alternate)
    (hswitch : switchTest true l s = true) (r started : Nat) : decideFailure false r a started s = restart true s := by
  unfold decideFailure
  rw [hl, hj]
  dsimp only
  rw [Bool.false_and, Bool.false_and, if_neg Bool.false_ne_true, if_neg (not_not_intro hno)]
  exact if_pos ⟨hleft, halternate, hswitch⟩

theorem exec_attemptStart_failed {s : State} {l : Ladder} {j : JobInHand} {r a : Nat} (hl : s.ladder = some l) (hj : s.pass.job = some j)
    (hdue : l.due = some (r, a)) (hno : l.stopping = .no) (hfailed : (s.bank l.bank).health = .failed) (hswitch : switchTest false l s = true)
    (reading : Sample) : exec (.attemptStart reading) s
      = .next (if l.begun = false ∧ l.rungList = [] ∧ l.inFlight = [] then moveBank s else restart false s) := by
  change execAttemptStart reading s = _
  unfold execAttemptStart
  rw [hl, hj]
  dsimp only
  rw [hdue]
  dsimp only
  rw [if_neg (not_not_intro hno), if_pos hfailed, failedBankDue, hswitch, if_pos rfl]

/-- A ladder's frame that fails, nothing coming before the sequencer's decision: the slot is free, the fault raised, the frame in flight no
more, and R63 decides. -/
theorem frameFailed_ladder {s : State} {l : Ladder} {i : SlotId} {d : Slot} (hl : s.ladder = some l) (ht : d.taker = .ladder)
    (ha : s.faults.ahead = []) (kind : FaultKind) (verdict : FrameVerdict) :
    frameFailed i d kind verdict s = progressOn (decideFailure false d.rung d.attempt (((s.flightAt i).map (·.started)).getD s.tag)
      { s with
        intake := (dropFrame i d verdict s).intake
        faults.raised := s.faults.raised ++ [⟨kind, ⟨s.jobCtx, s.tileCtx, some (d.rung, d.attempt), some l.bank⟩⟩]
        ladder := some { l with current := none, inFlight := l.inFlight.filter fun f => decide (f.slot ≠ i) } }) := by
  have hctx : s.frameCtx d = ⟨s.jobCtx, s.tileCtx, some (d.rung, d.attempt), some l.bank⟩ := by rw [State.frameCtx, ht, hl]; rfl
  generalize hx : (dropFrame i d verdict s).intake = x
  have hdrop : dropFrame i d verdict s = { s with intake := x } := by rw [dropFrame_intake, hx]
  generalize hu : raiseFault kind (s.frameCtx d) (dropFrame i d verdict s) = u
  have hahead : u.faults.ahead = [] := by rw [← hu, hdrop]; exact ha
  have hul : u.ladder = some l := by rw [← hu, hdrop]; exact hl
  have hflight : u.flightAt i = s.flightAt i := by rw [State.flightAt, State.flightAt, hul, hl]
  have htag : u.tag = s.tag := by rw [← hu, hdrop]; rfl
  have hsettled : clearCurrent (endFlight i u) = { u with
      ladder := some { l with current := none, inFlight := l.inFlight.filter fun f => decide (f.slot ≠ i) } } := by
    simp only [clearCurrent, endFlight, mapLadder, hul, Option.map_some]
  unfold frameFailed
  rw [hu, ht]
  dsimp only
  rw [takeAhead_of_none u hahead, hflight, htag, hsettled, ← hu, hdrop, hctx]
  rfl

/-- A LADDER slot's frame that does not come in time, nothing coming before the sequencer's decision. -/
theorem exec_frameDeadline_fails {s : State} {l : Ladder} {i : SlotId} {d : Slot} (hl : s.ladder = some l) (ht : d.taker = .ladder)
    (ha : s.faults.ahead = []) (hfill : s.fillingSlot = some i) (hd : s.slot i = some d) (hmark : d.discard = false) (hnow : d.deadline ≤ s.now) :
    ∃ (w : State) (x : Intake), exec .frameDeadline s
        = .next (progressOn (decideFailure false d.rung d.attempt (((s.flightAt i).map (·.started)).getD s.tag) w))
      ∧ w = { s with
          intake := x
          faults.raised := s.faults.raised ++ [⟨.frameTimeout, ⟨s.jobCtx, s.tileCtx, some (d.rung, d.attempt), some l.bank⟩⟩]
          ladder := some { l with current := none, inFlight := l.inFlight.filter fun f => decide (f.slot ≠ i) } }
      ∧ (∀ k, w.slot k = if k = i then none else s.slot k) ∧ w.mergingSlot .ladder = s.mergingSlot .ladder := by
  have hexec := exec_frame_fails (cmd := .frameDeadline) hd hmark (.inr (.inr ⟨rfl, rfl, rfl, hfill, hnow⟩))
  generalize endedRx .frameDeadline i false s.intake.rx = rx at hexec
  generalize hx : (dropFrame i d .frameTimeout { s with intake.rx := rx }).intake = x
  have hfail := frameFailed_ladder (s := { s with intake.rx := rx }) hl ht ha .frameTimeout .frameTimeout (i := i)
  rw [hx] at hfail
  obtain ⟨w, hw⟩ : ∃ w : State, w = { s with
      intake := x
      faults.raised := s.faults.raised ++ [⟨.frameTimeout, ⟨s.jobCtx, s.tileCtx, some (d.rung, d.attempt), some l.bank⟩⟩]
      ladder := some { l with current := none, inFlight := l.inFlight.filter fun f => decide (f.slot ≠ i) } } := ⟨_, rfl⟩
  have hslots (k : SlotId) : w.slot k = if k = i then none else s.slot k := by
    have hdrop := slot_dropFrame i d .frameTimeout { s with intake.rx := rx } k
    have hkept : State.slot { s with intake.rx := rx } k = s.slot k := by cases k <;> rfl
    rw [hkept] at hdrop
    rw [← hdrop]
    exact slot_congr (by rw [hw, hx]) k
  refine ⟨w, x, hexec.trans ((congrArg _ hfail).trans ?_), hw, hslots, ?_⟩
  · rw [hw]
    rfl
  · unfold State.mergingSlot
    refine List.find?_congr fun k _ => ?_
    rw [hslots]
    split
    · next h => simp [h, hd, fillingSlot_filling hfill hd]
    · rfl

theorem mergingSlot_markFilling (taker : Taker) (s : State) : (markFilling taker s).mergingSlot .ladder = s.mergingSlot .ladder := by
  unfold State.mergingSlot
  refine List.find?_congr fun k _ => ?_
  rw [slot_markFilling]
  split
  · cases s.slot k with
    | none => rfl
    | some d => simp only [Option.map_some, Option.any_some, Slot.markedFor_state, Slot.markedFor_taker]
  · rfl

/-- Settles O42: who asks for the restart differs, the restart is one. -/
theorem ladderRestartsOnTheOtherBank : Obligations.LadderRestartsOnTheOtherBank := by
  intro s l j tile pi p f stale more hl hj htile hi hp hset hstale hmore hpref hready hflat hrestarts hno hlen
  have hjob : s.jobCtx = some (j.number, j.record.plateId) := by rw [State.jobCtx, hj, Option.map_some]
  have htctx : s.tileCtx = some (tile.row, tile.col) := by rw [State.tileCtx, htile, Option.map_some]
  have hf : (s.flat (BankId.other l.bank)).data = some f := by rw [hflat]
  have hvalid : (s.flat (BankId.other l.bank)).validity = .valid := by rw [hflat]
  have hforced : switchTest false l s = true := switchTest_true hj hpref hready hvalid hrestarts nofun
  refine ⟨fun x i d g hinput hx hb hpur hfill hd htaker hg hm ha => ?fault, fun r a reading hdue hfailed => ⟨fun hbegun hm => ?due,
      fun hbegun hrungs hfl => ?moves⟩,
    fun i d hfill hd htaker hmark hnow hleft halt hused ha => ?policy, fun policy k d g hpend hm hd hg => ?merge⟩
  case fault =>
    obtain ⟨lamps, hdark, hnone, hline, hbank, hother⟩ := failLit_lamps l.bank s
    have hexec := exec_faultInputAssert_lit hinput hx hb
    rw [litFault_rung hpur hdark hfill hd, hjob, htctx] at hexec
    generalize hu : raiseFault .bankFault ⟨some (j.number, j.record.plateId), some (tile.row, tile.col), some (d.rung, d.attempt), some l.bank⟩
      { s with lamps := lamps } = u at hexec
    have hmarked (k : SlotId) : (markFilling .ladder u).slot k = if s.fillingSlot = some k then (s.slot k).map (Slot.markedFor .ladder) else s.slot k := by
      rw [slot_markFilling, ← hu]
      cases k <;> rfl
    obtain ⟨y, hmark⟩ : ∃ y, markFilling .ladder u = { u with intake := y } := ⟨_, markFilling_intake .ladder u⟩
    have hfail : failExposure true u = restart false { u with intake := y } := by
      have hflight : u.fillingSlot.bind u.flightAt = some g := by
        rw [← hu]
        exact (congrArg (Option.bind · _) hfill).trans hg
      unfold failExposure
      rw [takeAhead_of_none u (by rw [← hu]; exact ha)]
      dsimp only
      rw [hflight, hmark]
      refine decideFailure_forced (l := l) (j := j) (by rw [← hu]; exact hl) (by rw [← hu]; exact hj) hno ?_ _ _ _
      rw [← hu]
      exact switchTest_true (s := { s with lamps := lamps, intake := y }) hj hpref ((congrArg Bank.health hother).trans hready) hvalid hrestarts nofun
    have hfree : (markFilling .ladder u).mergingSlot .ladder = none := by
      rw [mergingSlot_markFilling, ← hu]
      exact hm
    rw [hmark] at hmarked hfree
    obtain ⟨w, hw⟩ : ∃ w, w = { u with intake := y } := ⟨_, rfl⟩
    rw [← hw] at hmarked hfree hfail
    have hwpass : w.pass = s.pass := by rw [hw, ← hu]; rfl
    have hwcal : w.cal = s.cal := by rw [hw, ← hu]; rfl
    have hwraised : w.faults.raised = s.faults.raised ++
        [⟨.bankFault, ⟨some (j.number, j.record.plateId), some (tile.row, tile.col), some (d.rung, d.attempt), some l.bank⟩⟩] := by
      rw [hw, ← hu]; rfl
    have hwlamps : w.lamps = lamps := by rw [hw, ← hu]; rfl
    obtain ⟨t, hend, hres, hfaults, hlamps, -, hslots⟩ := restart_restarted (s := w) (by rw [hw, ← hu]; exact hl) (by rw [hwpass]; exact hj)
      (by rw [hwpass]; exact htile) hi (by rw [hw, ← hu]; exact hp) (by rw [hw, ← hu]; exact hf) (by rw [hw, ← hu]; exact hstale)
      (by rw [hw, ← hu]; exact hlen) hfree false
    refine ⟨t, hexec.trans (congrArg _ (hfail.trans hend)),
      hres.of_same rfl rfl rfl rfl rfl rfl rfl rfl hwpass hwcal (by rw [hw, ← hu]; rfl), ?_, ?_, ?_, fun k y' hk hv ht => ?_, ?_⟩
    · rw [hslots, State.validFor, hmarked, if_pos hfill, hd, Option.map_some, Slot.markedFor, if_pos htaker,
        if_neg (by simp [fillingSlot_filling hfill hd])]
    · have hkept : t.bank l.bank = State.bank { s with lamps := lamps } l.bank := bank_congr (t := { s with lamps := lamps }) (hlamps.trans hwlamps) _
      rw [hkept, hbank]
    · rw [hlamps, hwlamps]
      exact hnone
    · have hne : ¬ s.fillingSlot = some k := fun h => nomatch (fillingSlot_filling h hk).symm.trans hv
      rw [hslots, State.validFor, hmarked, if_neg hne, hk, Option.any_some, if_pos (by simp [hv, ht])]
    · rw [hfaults, hmore]
      dsimp only
      rw [hwraised, staleRaised, hwcal]
      rfl
  case due =>
    have hexec := exec_attemptStart_failed hl hj hdue hno hfailed hforced reading
    rw [if_neg (by rw [hbegun]; nofun)] at hexec
    obtain ⟨t, hend, hres, hfaults, hlamps, -, hslots⟩ := restart_restarted hl hj htile hi hp hf hstale hlen hm false
    refine ⟨t, hexec.trans (congrArg _ hend), hres, hlamps, by rw [hfaults, hmore], fun k y hk hv ht => ?_⟩
    rw [hslots, State.validFor, hk, Option.any_some, if_pos (by simp [hv, ht])]
  case moves =>
    have hexec := exec_attemptStart_failed hl hj hdue hno hfailed hforced reading
    rw [if_pos ⟨hbegun, hrungs, hfl⟩] at hexec
    refine ⟨_, _, hexec.trans (congrArg _ (moveBank_eq rfl hl hj htile hf hstale)), rfl, rfl, rfl, rfl, rfl, rfl, ?_,
      ⟨fun k => checked_staleSet s.cal _ k stale, fun k => checked_raisedSet s.cal _ k stale, rfl, rfl⟩, rfl, rfl, rfl, ?_⟩
    · exact conds_moved l.conds stale
    · rw [hmore]
  case policy =>
    obtain ⟨w, x, hexec, hw, hwslots, hwmerging⟩ := exec_frameDeadline_fails hl htaker ha hfill hd hmark hnow
    have hwpass : w.pass = s.pass := by rw [hw]
    have hwcal : w.cal = s.cal := by rw [hw]
    have hwladder : w.ladder = some { l with current := none, inFlight := l.inFlight.filter fun f => decide (f.slot ≠ i) } := by rw [hw]
    have hdecide (started : Nat) : decideFailure false d.rung d.attempt started w = restart true w :=
      decideFailure_policy hwladder (by rw [hwpass]; exact hj) hno hleft halt
        (switchTest_true (by rw [hwpass]; exact hj) hpref (by rw [hw]; exact hready) (by rw [hw]; exact hvalid) hrestarts fun _ => hused) _ _
    rw [hdecide] at hexec
    refine ⟨fun hm => ?_, fun k h hm hh hslot hstate => ?_⟩
    · obtain ⟨t, hend, hres, hfaults, hlamps, hsettle, hslots⟩ := restart_restarted (s := w) hwladder (by rw [hwpass]; exact hj)
        (by rw [hwpass]; exact htile) hi (by rw [hw]; exact hp) (by rw [hw]; exact hf) (by rw [hw]; exact hstale) (by rw [hw]; exact hlen)
        (hwmerging.trans hm) true
      have hgoes : progressOn t = t := by
        obtain ⟨m, top, last, first, -, -, -, hladder, -, -, -, -, -, hdue, -⟩ := hres
        exact progressOn_due hladder (hsettle.trans (by rw [hwpass]; exact hset)) (by rw [hdue]; nofun)
      rw [hend, hgoes] at hexec
      refine ⟨t, hexec, hres.of_same rfl rfl rfl rfl rfl rfl rfl rfl hwpass hwcal (by rw [hw]; rfl), ?_, hlamps.trans (by rw [hw]),
        fun k y hk hv ht => ?_, ⟨.frameTimeout, ⟨s.jobCtx, s.tileCtx, some (d.rung, d.attempt), some l.bank⟩⟩, rfl, ?_⟩
      · rw [hslots, hwslots, if_pos rfl]
        split <;> rfl
      · rw [hslots, State.validFor, hwslots]
        by_cases hki : k = i
        · rw [if_pos hki]
          split <;> rfl
        · rw [if_neg hki, hk, Option.any_some, if_pos (by simp [hv, ht])]
      · have hwraised : w.faults.raised = s.faults.raised ++
            [⟨.frameTimeout, ⟨s.jobCtx, s.tileCtx, some (d.rung, d.attempt), some l.bank⟩⟩] := by rw [hw]
        rw [hfaults, hmore]
        dsimp only
        rw [hwraised, staleRaised, staleRaised, hwcal, List.append_assoc]
        rfl
    · obtain ⟨y, hwait, hslots⟩ := restart_waits (s := w) hwladder (hwmerging.trans hm) true
      have hmerges := List.find?_some hm
      have hne : k ≠ i := by
        rintro rfl
        rw [hd, Option.any_some, fillingSlot_filling hfill hd] at hmerges
        simp at hmerges
      have hstays : s.validFor .ladder k = false := by
        unfold State.validFor
        cases hk : s.slot k with
        | none => rfl
        | some dk =>
          rw [hk, Option.any_some, decide_eq_true_eq] at hmerges
          simp [hmerges]
      obtain ⟨u, hu⟩ : ∃ u, u = restart true w := ⟨_, rfl⟩
      rw [← hu] at hexec hwait
      have hflying : ∀ m, u.ladder = some m → m.inFlight ≠ [] := by
        intro m hm
        rw [hwait] at hm
        cases hm
        refine List.ne_nil_of_mem (a := h) (List.mem_filter.mpr ⟨List.mem_filter.mpr ⟨hh, ?_⟩, by rw [hstate]; rfl⟩)
        rw [hslot]
        exact decide_eq_true hne
      have hgoes : progressOn u = u := by
        have hprogress := progress_flying (s := u) (by rw [hwait]) (by rw [hwait, hwpass]; exact hset) (hflying _ (by rw [hwait]))
        rw [progressOn, hprogress]
        exact takeGuards_ladder (by rw [hwait]) _
      rw [hgoes] at hexec
      refine ⟨u, _, hexec, congrArg State.ladder hwait, rfl, rfl, rfl, rfl, rfl, ?_, ?_, ?_, ?_, ?_, ?_⟩
      · rw [hslots u (by rw [hwait]), hwslots, if_pos rfl]
        split <;> rfl
      · rw [hslots u (by rw [hwait]), State.validFor, hwslots, if_neg hne, if_neg]
        rw [State.validFor] at hstays
        rw [hstays]
        exact Bool.false_ne_true
      · rw [hwait, hw]
      · rw [hwait, hw]
      · rw [hwait, hw]
      · rw [hwait, hw]
  case merge =>
    have hexec := execMergeEnd_eq hm hd htile hi hp hg
    generalize hu : addCounter .rungsMerged 1 (endFlight k ((s.setPlane pi (some (mergedPlane d p))).releaseSlot k)) = u at hexec
    have hul : u.ladder = some { l with inFlight := l.inFlight.filter fun f => decide (f.slot ≠ k) } := by
      rw [← hu]
      simp [endFlight, mapLadder, hl]
    have hkept : u.pass = s.pass ∧ u.cal = s.cal ∧ u.params = s.params ∧ u.faults = s.faults ∧ u.lamps = s.lamps := by
      rw [← hu]
      simp
    obtain ⟨hupass, hucal, huparams, hufaults, hulamps⟩ := hkept
    have hustats : (endFlight k ((s.setPlane pi (some (mergedPlane d p))).releaseSlot k)).stats = s.stats := by simp
    have hulen : u.stats.counters.length = 16 := by
      rw [← hu, addCounter_eq, hustats]
      dsimp only
      rw [List.length_set, hlen]
    have hcounter : u.counter .ladderRestarts = s.counter .ladderRestarts := by
      rw [← hu, addCounter_counter_ne (by decide), counter_congr hustats]
    have huplane : u.plane pi = some (mergedPlane d p) := by
      rw [← hu]
      exact (plane_congr (t := s.setPlane pi (some (mergedPlane d p))) (by simp) pi).trans (plane_setPlane s pi _)
    have huslot : u.slot k = none := by
      rw [← hu]
      exact (slot_congr (t := (s.setPlane pi (some (mergedPlane d p))).releaseSlot k) (by simp) k).trans (slot_releaseSlot _ k)
    have hmerged : rungMerged g u = finishRestart policy u := by
      unfold rungMerged
      rw [hul, Option.bind_some]
      dsimp only
      rw [hpend]
    have huflat : (u.flat (BankId.other l.bank)).data = some f := by
      rw [← hf]
      cases BankId.other l.bank <;> simp only [State.flat, hucal]
    obtain ⟨t, hend, hres, hfaults, hlamps, hsettle, hintake⟩ := finishRestart_restarted (s := u) hul (by rw [hupass]; exact hj)
      (by rw [hupass]; exact htile) hi huplane huflat (by rw [huparams]; exact hstale) hulen policy
    have hgoes : progressOn t = t := by
      obtain ⟨m, top, last, first, -, -, -, hladder, -, -, -, -, -, hdue, -⟩ := hres
      exact progressOn_due hladder (hsettle.trans (by rw [hupass]; exact hset)) (by rw [hdue]; nofun)
    rw [hmerged, hend, hgoes] at hexec
    refine ⟨t, hexec, hres.of_same rfl rfl rfl rfl rfl rfl rfl rfl hupass hucal hcounter, (slot_congr hintake k).trans huslot,
      hlamps.trans hulamps, ?_⟩
    rw [hfaults, hmore, hufaults, staleRaised, staleRaised, hucal]

end Sys2Proof.Machine
end

section
/-! A ladder's end and its extension (R28, R31, R61, R66, R67, R96); O41. -/
namespace Sys2Proof.Machine
open Sys2Proof

/-! ### What the boundary after a hand-over leaves (R28, R29; log 68) -/

/-- What the walk's going on leaves of the state, its ladder having ended, whatever tiles it decides and whatever halt comes first. -/
structure State.WalksOn (s t : State) : Prop where
  job : t.pass.job = s.pass.job
  handedOver : t.pass.handedOver = s.pass.handedOver
  settle : t.pass.settle = s.pass.settle
  ladder : t.ladder = s.ladder
  merge : t.merge = s.merge
  queue : t.queue = s.queue
  lamps : s.faults.ahead = [] → t.lamps = s.lamps ∧ t.faults.ahead = []

theorem State.WalksOn.refl (s : State) : s.WalksOn s := ⟨rfl, rfl, rfl, rfl, rfl, rfl, fun h => ⟨rfl, h⟩⟩

theorem State.WalksOn.trans {s t u : State} (h : s.WalksOn t) (h' : t.WalksOn u) : s.WalksOn u :=
  ⟨h'.job.trans h.job, h'.handedOver.trans h.handedOver, h'.settle.trans h.settle, h'.ladder.trans h.ladder, h'.merge.trans h.merge,
    h'.queue.trans h.queue, fun ha => by
      obtain ⟨hl, ha⟩ := h.lamps ha
      obtain ⟨hl', ha'⟩ := h'.lamps ha
      exact ⟨hl'.trans hl, ha'⟩⟩

theorem walksOn_closeWalk (s : State) : s.WalksOn (closeWalk s) := by
  obtain ⟨counts, pos, n, -, h⟩ := closeWalk_leaves s
  rw [h]
  exact ⟨rfl, rfl, rfl, rfl, rfl, rfl, fun h => ⟨rfl, h⟩⟩

theorem walksOn_enterPaused (point : ResumePoint) (s : State) : s.WalksOn (enterPaused point s) := by
  rw [enterPaused_eq]
  exact ⟨rfl, rfl, rfl, rfl, rfl, rfl, fun h => ⟨rfl, h⟩⟩

theorem walksOn_enterReturning (s : State) : s.WalksOn (enterReturning s) := by
  obtain ⟨step, m, h⟩ := enterReturning_eq s
  rw [h]
  exact ⟨rfl, rfl, rfl, rfl, rfl, rfl, fun h => ⟨rfl, h⟩⟩

theorem walksOn_takes (c : TilePhase) (x y : Nat) (s : State) :
    s.WalksOn (wantOrder ⟨.move, x, y, .pass⟩ { s with pass.tile := s.pass.tile.map fun t => { t with phase := c } }) := by
  obtain ⟨m, h⟩ := wantOrder_move_motion x y .pass { s with pass.tile := s.pass.tile.map fun t => { t with phase := c } }
  rw [h]
  exact ⟨rfl, rfl, rfl, rfl, rfl, rfl, fun h => ⟨rfl, h⟩⟩

theorem walksOn_decideRecord (j : JobInHand) (status : TileStatus) (s : State) : s.WalksOn (decideRecord j status s) := by
  cases ht : s.pass.tile with
  | none =>
    have hstays : decideRecord j status s = s := by rw [decideRecord, ht]
    rw [hstays]
    exact .refl s
  | some t =>
    obtain ⟨n, -, -, -, h⟩ := decideRecord_notes (j := j) ht status
    rw [h]
    exact ⟨rfl, rfl, rfl, rfl, rfl, rfl, fun h => ⟨rfl, h⟩⟩

theorem walksOn_boundaryLoop (n : Nat) (s : State) : s.WalksOn (boundaryLoop n s) := by
  induction n generalizing s with
  | zero => exact .refl s
  | succ n ih =>
    unfold boundaryLoop
    split
    · exact .refl s
    · next j _ =>
      dsimp only
      generalize hc : (if s.pass.mark.isSome = true ∧ s.pass.walkPos < j.record.tiles then closeWalk s else s) = c
      have hclosed : s.WalksOn c := by
        subst hc
        split
        · exact walksOn_closeWalk s
        · exact .refl s
      refine hclosed.trans ?_
      split
      · exact walksOn_enterPaused _ c
      · split
        · have htake : c.WalksOn (takeTile j c) := ⟨rfl, rfl, rfl, rfl, rfl, rfl, fun h => ⟨rfl, h⟩⟩
          generalize takeTile j c = u at htake
          refine htake.trans ?_
          have hhit (e : Nat) : u.WalksOn (hitZone e u) := ⟨rfl, rfl, rfl, rfl, rfl, rfl, fun h => ⟨rfl, h⟩⟩
          have hguard (e : Nat) : u.WalksOn (raiseFault .guardTile u.passCtx (hitZone e u)) := ⟨rfl, rfl, rfl, rfl, rfl, rfl, fun h => ⟨rfl, h⟩⟩
          split
          · next e _ => exact (hhit e).trans ((walksOn_decideRecord j _ _).trans (ih _))
          · next e _ =>
            split
            · exact (hguard e).trans ((walksOn_decideRecord j _ _).trans (ih _))
            · next rest ha =>
              refine State.WalksOn.trans ?_ ((walksOn_decideRecord j _ _).trans (ih _))
              exact ⟨rfl, rfl, rfl, rfl, rfl, rfl, fun h => nomatch (show u.faults.ahead = _ from ha).symm.trans h⟩
            · exact hguard e
            · exact hguard e
          · exact walksOn_takes .moving _ _ u
        · exact walksOn_enterReturning c

theorem walksOn_boundary (s : State) : s.WalksOn (boundary s) := by
  unfold boundary
  split
  · exact .refl s
  · exact .refl s
  · exact walksOn_boundaryLoop _ s

/-- A halt met with a tile in DECIDING holds it. -/
theorem halt_deciding {s : State} {t : Tile} (hl : s.ladder = none) (ht : s.pass.tile = some t) (hs : s.pass.settle = none) (k : FaultKind)
    (injected : Bool) : (halt k injected s).pass.job = s.pass.job ∧ (halt k injected s).pass.handedOver = s.pass.handedOver
      ∧ (halt k injected s).ladder = none ∧ (halt k injected s).merge = s.merge ∧ (halt k injected s).queue = s.queue := by
  by_cases hstate : s.pass.state = .halted
  · rw [halt_of_halted hstate]
    exact ⟨rfl, rfl, hl, rfl, rfl⟩
  · have hbegun := haltBegun_eq k injected s
    have hheld : haltTile (haltBegun k injected s) = { haltBegun k injected s with pass.settle := some .held } := by
      rw [hl] at hbegun
      generalize haltBegun k injected s = b at hbegun
      unfold haltTile
      rw [show b.pass.tile = some t by rw [hbegun]; exact ht, show b.pass.settle = none by rw [hbegun]; exact hs]
      dsimp only
      unfold progress
      dsimp only
      rw [show b.ladder = none by rw [hbegun]; rfl]
    obtain ⟨c, i, l, -, -, -, hend, -⟩ := halt_ends hstate k injected hheld
    rw [hend, hbegun, hl]
    exact ⟨rfl, rfl, rfl, rfl, rfl⟩

/-- What comes before the record of a tile in DECIDING leaves the walk. -/
theorem walksOn_takeAhead {s : State} {t : Tile} (hl : s.ladder = none) (ht : s.pass.tile = some t) (hs : s.pass.settle = none) :
    s.WalksOn { takeAhead s with pass.settle := none } := by
  unfold takeAhead
  split
  · exact ⟨rfl, rfl, hs.symm, rfl, rfl, rfl, fun h => ⟨rfl, h⟩⟩
  · next a rest ha =>
    have hsome {p : Prop} (h : s.faults.ahead = []) : p := nomatch ha.symm.trans h
    dsimp only
    split
    · exact ⟨rfl, rfl, hs.symm, rfl, rfl, rfl, hsome⟩
    all_goals
      obtain ⟨hqueue, hpass, hladder, -, -, hmerge, -⟩ := takeRaised_frame (s.faults.raised.length - 1) { s with faults.ahead := rest }
      generalize takeRaised (s.faults.raised.length - 1) { s with faults.ahead := rest } = u at hqueue hpass hladder hmerge
      have hpass : u.pass = s.pass := hpass
      have hjob : u.pass.job = s.pass.job := by rw [hpass]
      have hover : u.pass.handedOver = s.pass.handedOver := by rw [hpass]
    · exact ⟨hjob, hover, hs.symm, hladder, hmerge, hqueue, hsome⟩
    · unfold haltNext
      split
      · exact ⟨hjob, hover, hs.symm, hladder, hmerge, hqueue, hsome⟩
      · next e more _ =>
        obtain ⟨hjob', hover', hladder', hmerge', hqueue'⟩ := halt_deciding (s := { u with faults.escalations := more }) (t := t)
          (by exact hladder.trans hl) (by rw [hpass]; exact ht) (by rw [hpass]; exact hs) e.1 e.2
        exact ⟨hjob'.trans hjob, hover'.trans hover, hs.symm, hladder'.trans hl.symm, hmerge'.trans hmerge, hqueue'.trans hqueue, hsome⟩

theorem walksOn_takeGuards (n : Nat) {s : State} (hl : s.ladder = none) (hs : s.pass.settle = none) : s.WalksOn (takeGuards n s) := by
  induction n generalizing s with
  | zero => exact .refl s
  | succ n ih =>
    unfold takeGuards
    split
    · exact .refl s
    · exact .refl s
    · next j _ _ =>
      split
      · cases ht : s.pass.tile with
        | none => next h => rw [ht] at h; exact nomatch h
        | some t =>
          have hgoes := (walksOn_takeAhead hl ht hs).trans ((walksOn_decideRecord j .guarded _).trans (walksOn_boundary _))
          exact hgoes.trans (ih (hgoes.ladder.trans hl) (hgoes.settle.trans hs))
      · exact .refl s

/-! ### The end of the last merge -/

/-- The last frame of a ladder is merged: the rung is entered, and nothing is in flight any more. -/
theorem exec_mergeEnd_last {s : State} {i : SlotId} {d : Slot} {pi : PlaneId} {p : Plane} {tile : Tile} {l : Ladder} {g : Flight}
    (hd : s.slot i = some d) (htile : s.pass.tile = some tile) (hpi : tile.plane = some pi) (hp : s.plane pi = some p) (hl : s.ladder = some l)
    (hf : l.inFlight = [g]) (hg : g.slot = i) (hlen : s.stats.counters.length = 16) (hm : s.mergingSlot .ladder = some i)
    (hpend : l.restartPending = none) :
    ∃ v : State, exec .mergeEnd s = .next (progressOn v)
      ∧ v.ladder = some { l with inFlight := [], rungList := insertRung ⟨g.rung, .merged, g.attempt, g.started⟩ l.rungList }
      ∧ v.plane pi = some (mergedPlane d p) ∧ (∀ k, k ≠ pi → v.plane k = s.plane k) ∧ v.merge.lastStamp = s.merge.lastStamp
      ∧ v.slot i = none ∧ v.pass = s.pass ∧ v.faults = s.faults ∧ v.lamps = s.lamps ∧ v.motion = s.motion ∧ v.queue = s.queue
      ∧ v.zones = s.zones ∧ v.time = s.time ∧ v.stats.counters.length = 16
      ∧ (v.counter .rungsMerged).value = min 4294967295 ((s.counter .rungsMerged).value + 1)
      ∧ v.counter .ladderExtensions = s.counter .ladderExtensions := by
  have hflight : s.flightAt i = some g := by rw [State.flightAt, hl, Option.bind_some, hf]; simp [hg]
  have hexec := execMergeEnd_eq hm hd htile hpi hp hflight
  generalize hu : addCounter .rungsMerged 1 (endFlight i ((s.setPlane pi (some (mergedPlane d p))).releaseSlot i)) = u at hexec
  have hul : u.ladder = some { l with inFlight := [] } := by
    rw [← hu]
    simp [endFlight, mapLadder, hl, hf, hg]
  have hustats : (endFlight i ((s.setPlane pi (some (mergedPlane d p))).releaseSlot i)).stats = s.stats := by simp
  have hkept : u.pass = s.pass ∧ u.faults = s.faults ∧ u.lamps = s.lamps ∧ u.motion = s.motion ∧ u.queue = s.queue
      ∧ u.zones = s.zones ∧ u.time = s.time := by
    rw [← hu]
    simp
  obtain ⟨hpass, hfaults, hlamps, hmotion, hqueue, hzones, htime⟩ := hkept
  rw [rungMerged_plain hul hpend] at hexec
  have humerge : u.merge = (s.setPlane pi (some (mergedPlane d p))).merge := by
    rw [← hu]
    simp
  refine ⟨_, hexec, rfl, ?_, fun k hk => ?_, ?_, ?_, hpass, hfaults, hlamps, hmotion, hqueue, hzones, htime, ?_, ?_, ?_⟩
  · exact (plane_congr (t := s.setPlane pi (some (mergedPlane d p))) humerge pi).trans (plane_setPlane s pi _)
  · exact (plane_congr (t := s.setPlane pi (some (mergedPlane d p))) humerge k).trans (plane_setPlane_ne s _ hk)
  · dsimp only
    rw [humerge]
    cases pi <;> rfl
  · refine (slot_congr (t := (s.setPlane pi (some (mergedPlane d p))).releaseSlot i) ?_ i).trans (slot_releaseSlot _ i)
    rw [← hu]
    simp
  · rw [← hu, addCounter_eq, hustats]
    dsimp only
    rw [List.length_set, hlen]
  · have hcounter := addCounter_counter_same (s := endFlight i ((s.setPlane pi (some (mergedPlane d p))).releaseSlot i))
      (by rw [hustats]; exact hlen) .rungsMerged 1
    rw [hu, counter_congr hustats] at hcounter
    exact (congrArg Counter.value hcounter).trans (Counter.plus_value _ 1)
  · have hcounter := addCounter_counter_ne (c := .rungsMerged) (k := .ladderExtensions) (by decide) 1
      (endFlight i ((s.setPlane pi (some (mergedPlane d p))).releaseSlot i))
    rw [hu, counter_congr hustats] at hcounter
    exact hcounter

theorem shouldExtend_iff (l : Ladder) (r : JobRecord) (p : Plane) : shouldExtend l r p = true ↔
    r.underLimit * (p.window.w * p.window.h) < p.counts.nUnder * 1000 ∧ l.extensions < r.maxExtensions ∧ l.currentLast < l.top ∧ l.stopping = .no := by
  rw [shouldExtend, overLimit, Window.pixels, Bool.and_eq_true, decide_eq_true_eq, decide_eq_true_eq]

/-- A ladder with its work done extends, or its tile is handed over or recorded. -/
theorem progress_done {s : State} {j : JobInHand} {l : Ladder} {t : Tile} {i : PlaneId} {p : Plane} (hj : s.pass.job = some j)
    (hl : s.ladder = some l) (hset : s.pass.settle = none) (ht : s.pass.tile = some t) (hi : t.plane = some i) (hp : s.plane i = some p)
    (hdue : l.due = none) (hf : l.inFlight = []) : progress s = if l.cut = false ∧ shouldExtend l j.record p = true then extend s
      else if l.hasMerged then handOver l s else settleNow .boundary s := by
  unfold progress
  rw [hl]
  dsimp only
  rw [hset]
  dsimp only
  rw [if_pos ⟨hf, hdue⟩]
  unfold ladderDone
  rw [hj, ht, Option.bind_some, hi]
  dsimp only
  rw [hp, Option.any_some]
  by_cases h : l.cut = false ∧ shouldExtend l j.record p = true
  · rw [if_pos h, if_pos (by rw [h.1, h.2]; rfl)]
  · rw [if_neg h, if_neg]
    intro h'
    rw [Bool.and_eq_true, Bool.not_eq_true'] at h'
    exact h h'

theorem hasMerged_insert (l : Ladder) (e : RungEntry) (he : e.outcome = .merged) :
    Ladder.hasMerged { l with inFlight := [], rungList := insertRung e l.rungList } = true :=
  List.any_eq_true.mpr ⟨e, mem_insertRung.mpr (.inl rfl), decide_eq_true he⟩

/-- The boundary, where the pass pauses. -/
theorem boundary_pauses {s : State} {j : JobInHand} (hstate : s.pass.state ≠ .halted) (hj : s.pass.job = some j) (hp : s.pass.pausePending = true)
    (hw : s.pass.walkPos < j.record.tiles ∧ s.pass.mark = none ∨ s.pass.walkPos = j.record.tiles) :
    boundary s = { s with pass := s.pass.pausedAt (if s.pass.walkPos < j.record.tiles then .nextTile else .return) } := by
  have hclosed : ¬ (s.pass.mark.isSome = true ∧ s.pass.walkPos < j.record.tiles) := fun ⟨hm, hlt⟩ => by
    rcases hw with ⟨-, hnone⟩ | heq
    · rw [hnone] at hm
      exact nomatch hm
    · omega
  rw [boundary_walks hstate hj]
  unfold boundaryLoop
  rw [hj]
  dsimp only
  rw [if_neg hclosed, hp, if_pos rfl, enterPaused_eq]
  rcases hw with ⟨hlt, hnone⟩ | heq
  · rw [if_pos hlt, if_pos (decide_eq_true ⟨hlt, hnone⟩)]
  · rw [if_neg (by rw [decide_eq_true_eq]; exact fun h => by omega), if_neg (by omega)]

/-- R63's last row: with no attempt left of the ladder's last rung, the rung is lost. -/
theorem decideFailure_lost {s : State} {l : Ladder} {j : JobInHand} {r a : Nat} (hl : s.ladder = some l) (hj : s.pass.job = some j)
    (hno : l.stopping = .no) (hlast : l.allowed ≤ a) (hr : r = l.currentLast) (ha : s.faults.ahead = []) (started : Nat) :
    ∃ (st : Stats) (lk : Link), decideFailure false r a started s = { s with
      ladder := some { l with
        rungList := insertRung ⟨r, .lost, l.allowed, started⟩ l.rungList, conds := Conds.put l.conds condRungLost true, due := none }
      faults.raised := s.faults.raised ++ [⟨.rungLost, s.rungCtx r l.allowed l.bank⟩], stats := st, link := lk } := by
  have hlose : decideFailure false r a started s = loseRung r started s := by
    unfold decideFailure
    rw [hl, hj]
    dsimp only
    rw [Bool.false_and, Bool.false_and, if_neg Bool.false_ne_true, if_neg (not_not_intro hno), if_neg fun h => absurd h.1 (Nat.not_lt.mpr hlast),
      if_neg (Nat.not_lt.mpr hlast)]
  have henter : enterRung ⟨r, .lost, l.allowed, started⟩ s
      = { s with ladder := some { l with rungList := insertRung ⟨r, .lost, l.allowed, started⟩ l.rungList } } := by
    rw [enterRung, mapLadder, hl, Option.map_some]
  rw [hlose]
  unfold loseRung
  rw [hl]
  dsimp only
  obtain ⟨st, lk, hcount⟩ : ∃ st lk, addCounter .rungsLost 1 (enterRung ⟨r, .lost, l.allowed, started⟩ s)
      = { enterRung ⟨r, .lost, l.allowed, started⟩ s with stats := st, link := lk } := ⟨_, _, addCounter_eq ..⟩
  have hdue : ¬ (l.stopping = .no ∧ r < l.currentLast) := fun h => by omega
  rw [hcount, henter, takeAhead_of_none _ (by exact ha)]
  refine ⟨st, lk, ?_⟩
  simp only [mapLadder, raiseFault, Option.map_some, if_neg hdue]
  rfl

/-- Settles O41: whichever way the ladder ends, the walk goes on from the boundary without touching the plane handed over. -/
theorem ladderExtendsOrEnds : Obligations.LadderExtendsOrEnds := by
  intro s i d pi p tile l j g hd hj hs hset htile hpi hp hl hf hg hlen
  refine ⟨fun q hm hq hdue hpend => ?merged, fun ha hfill htaker hmark hnow hlast hrung hno hlost hunder hpause hpos => ?lost⟩
  case merged =>
    obtain ⟨v, hexec, hladder, hplane, hothers, hstamp, hslot, hpass, hfaults, hlamps, hmotion, hqueue, hzones, htime, hcounters, hmerged, hext⟩ :=
      exec_mergeEnd_last hd htile hpi hp hl hf hg hlen hm hpend
    rw [← hq] at hplane
    have hwindow : q.window = p.window := by rw [hq]; rfl
    have hprogress := progress_done (s := v) (j := j) (by rw [hpass]; exact hj) hladder (by rw [hpass]; exact hset) (by rw [hpass]; exact htile)
      hpi hplane hdue rfl
    refine ⟨fun hcut hunder hmax htop hno => ?longer, fun hends => ?ends⟩
    case longer =>
      rw [if_pos ⟨hcut, (shouldExtend_iff _ _ _).mpr ⟨by rw [hwindow]; exact hunder, hmax, htop, hno⟩⟩] at hprogress
      generalize hm' : ({ l with inFlight := [], rungList := insertRung ⟨g.rung, .merged, g.attempt, g.started⟩ l.rungList } : Ladder) = m at hladder hprogress
      obtain ⟨u, hu⟩ : ∃ u, u = mapLadder (fun l => { l with
        extensions := l.extensions + 1, currentLast := l.currentLast + 1, due := some (l.currentLast + 1, 1) }) v := ⟨_, rfl⟩
      have hextend : extend v = addCounter .ladderExtensions 1 u := by rw [hu]; rfl
      have huv : u = { v with ladder := some { m with
          extensions := m.extensions + 1, currentLast := m.currentLast + 1, due := some (m.currentLast + 1, 1) } } := by
        rw [hu, mapLadder, hladder, Option.map_some]
      have hvalues : (addCounter .ladderExtensions 1 u).counter .ladderExtensions = (s.counter .ladderExtensions).plus 1 := by
        rw [addCounter_counter_same (by rw [huv]; exact hcounters), counter_congr (t := v) (by rw [huv]), hext]
      have hother : (addCounter .ladderExtensions 1 u).counter .rungsMerged = v.counter .rungsMerged := by
        rw [addCounter_counter_ne (by decide), counter_congr (t := v) (by rw [huv])]
      obtain ⟨st, lk, ht⟩ : ∃ st lk, addCounter .ladderExtensions 1 u = { u with stats := st, link := lk } := ⟨_, _, addCounter_eq ..⟩
      have hgoes : progressOn v = addCounter .ladderExtensions 1 u := by
        rw [progressOn, hprogress, hextend]
        exact takeGuards_ladder (by rw [ht, huv]) _
      rw [hgoes] at hexec
      refine ⟨_, _, hexec, (plane_congr (t := v) (by rw [ht, huv]) pi).trans hplane, (slot_congr (t := v) (by rw [ht, huv]) i).trans hslot, by rw [ht, huv],
        ?_, ?_, ?_, ?_, ?_, ?_, ?_, ?_, ?_, ?_, ?_⟩
      · rw [← hm']
      · rw [← hm']
      · rw [← hm']
      · rw [← hm']
      · rw [← hm']
        exact insertRung_entered _ _
      · rw [hother, hmerged]
      · rw [hvalues, Counter.plus_value]
      · rw [ht, huv]; exact hpass
      · rw [ht, huv]; exact hfaults
      · rw [ht, huv]; exact hlamps
      · rw [ht, huv]; exact hmotion
    case ends =>
      have hnot : ¬ (l.cut = false ∧ shouldExtend { l with inFlight := [], rungList := insertRung ⟨g.rung, .merged, g.attempt, g.started⟩ l.rungList }
          j.record q = true) := by
        rintro ⟨hcut, h⟩
        obtain ⟨hunder, hmax, htop, hno⟩ := (shouldExtend_iff _ _ _).mp h
        rw [hwindow] at hunder
        rcases hends with h | h | h | h | h
        · exact nomatch hcut.symm.trans h
        · omega
        · exact absurd hmax (Nat.not_lt.mpr h)
        · exact absurd htop (Nat.not_lt.mpr h)
        · exact h hno
      rw [if_neg hnot, hasMerged_insert _ _ rfl, if_pos rfl, handOver_eq (by rw [hpass]; exact htile) hpi hplane] at hprogress
      generalize hrungs : insertRung ⟨g.rung, .merged, g.attempt, g.started⟩ l.rungList = rungs at hprogress
      obtain ⟨full, hfull⟩ : ∃ full, full = { v with
        merge := v.merge.filled pi q { l with inFlight := [], rungList := rungs }, ladder := none
        pass := { v.pass with tile := none, handedOver := v.pass.handedOver + 1 } } := ⟨_, rfl⟩
      rw [← hfull] at hprogress
      have hfset : full.pass.settle = none := by rw [hfull, hpass]; exact hset
      have hfladder : full.ladder = none := by rw [hfull]
      have hfjob : full.pass.job = some j := by rw [hfull, hpass]; exact hj
      have hfpos : full.pass.walkPos = s.pass.walkPos := by rw [hfull, hpass]
      have hfpause : full.pass.pausePending = s.pass.pausePending := by rw [hfull, hpass]
      have hfstate : full.pass.state ≠ .halted := by rw [hfull, hpass]; exact fun h => nomatch hs.symm.trans h
      have hgoes : progressOn v = takeGuards (boundary full).faults.ahead.length (boundary full) := by
        rw [progressOn, hprogress]
        rfl
      rw [hgoes] at hexec
      have hbwalks := walksOn_boundary full
      have hwalks := hbwalks.trans (walksOn_takeGuards (boundary full).faults.ahead.length (hbwalks.ladder.trans hfladder)
        (hbwalks.settle.trans hfset))
      have hstands (h : ∀ t, (boundary full).pass.tile = some t → t.phase ≠ .deciding) :
          takeGuards (boundary full).faults.ahead.length (boundary full) = boundary full := takeGuards_decided h _
      have hfree : (takeGuards (boundary full).faults.ahead.length (boundary full)).slot i = none := by
        rw [← hgoes]
        exact (FillsNoSlot.refl v).progressOn.free i hslot
      generalize takeGuards (boundary full).faults.ahead.length (boundary full) = t at hexec hwalks hstands hfree
      have hplanes (k : PlaneId) := plane_filled (s := v) (i := pi) (p := q) (l := { l with inFlight := [], rungList := rungs })
        (hwalks.merge.trans (by rw [hfull])) k
      refine ⟨t, rungs, hexec, by rw [← hrungs]; exact insertRung_entered _ _, ?_, ?_, fun k hk => ?_, hfree, hwalks.ladder.trans hfladder,
        hwalks.handedOver.trans (by rw [hfull, hpass]), hwalks.queue.trans (by rw [hfull, hqueue]), fun ha => ?_, fun hp hw => ?_,
        fun hp hw => ?_, fun next hp hmark hw hnext hz => ?_⟩
      · rw [hplanes, if_pos rfl, hstamp]
        rfl
      · rw [hwalks.merge, hfull]
        dsimp only
        rw [filled_lastStamp, hstamp]
      · rw [hplanes, if_neg hk, hothers k hk]
      · exact (hwalks.lamps (by rw [hfull, hfaults]; exact ha)).1.trans (by rw [hfull, hlamps])
      · have hbound := boundary_pauses hfstate hfjob (hfpause.trans hp) (by
          rw [hfpos]
          rcases hw with ⟨hlt, hmark⟩ | heq
          · exact .inl ⟨hlt, by rw [hfull, hpass]; exact hmark⟩
          · exact .inr heq)
        rw [hstands (by rw [hbound, hfull]; exact nofun), hbound]
        refine ⟨rfl, by rw [hfull]; rfl, rfl, hfpos, ?_, fun hb => ?_⟩
        · rw [hfpos]
          rfl
        · refine congrArg Budget.state (if_pos ?_)
          rw [hfull, hpass]
          exact hb
      · have hbound := boundary_complete hfstate hfjob (hfpos.trans hw)
        rw [hfpause, hp, if_neg Bool.false_ne_true] at hbound
        obtain ⟨step, m, hreturn⟩ := enterReturning_eq full
        rw [hstands (by rw [hbound, hreturn, hfull]; exact nofun), hbound, hreturn]
        exact ⟨rfl, by rw [hfull]⟩
      · have hbound := boundary_walks hfstate hfjob
        rw [(boundaryLoop_next (cell := next) _ hfjob (by rw [hfull, hpass]; exact hmark) (hfpause.trans hp) (by rw [hfpos]; exact hw)
          (by rw [hfpos]; exact hnext)).1 (by rw [hfull, hzones]; exact hz), JobRecord.moveTo] at hbound
        obtain ⟨m, hmove⟩ := wantOrder_move_motion (j.record.targetX next.2) (j.record.targetY next.1) .pass
          { full with pass := full.pass.taking next .moving full.time.count }
        rw [hmove] at hbound
        rw [hstands (by rw [hbound]; intro t ht; cases ht; nofun), hbound]
        refine ⟨rfl, congrArg (· + 1) hfpos, ?_⟩
        rw [hfull]
        dsimp only
        rw [hpass, htime]
        rfl
  case lost =>
    obtain ⟨w, x, hexec, hw, hwslots, -⟩ := exec_frameDeadline_fails hl htaker ha hfill hd hmark hnow
    have hflight : s.flightAt i = some g := by rw [State.flightAt, hl, Option.bind_some, hf]; simp [hg]
    rw [hflight, Option.map_some, Option.getD_some] at hexec
    have hnone : l.inFlight.filter (fun f => decide (f.slot ≠ i)) = [] := by rw [hf]; simp [hg]
    rw [hnone] at hw
    have hwladder : w.ladder = some { l with current := none, inFlight := [] } := by rw [hw]
    obtain ⟨st, lk, hlose⟩ := decideFailure_lost (s := w) (j := j) (r := d.rung) (a := d.attempt) hwladder (by rw [hw]; exact hj) hno hlast hrung
      (by rw [hw]; exact ha) g.started
    rw [hlose] at hexec
    generalize hrungs : insertRung ⟨d.rung, .lost, l.allowed, g.started⟩ l.rungList = rungs at hexec
    obtain ⟨v, hv⟩ : ∃ v, v = { w with
        ladder := some { l with
          current := none, inFlight := [], rungList := rungs, conds := Conds.put l.conds condRungLost true, due := none }
        faults.raised := w.faults.raised ++ [(⟨.rungLost, w.rungCtx d.rung l.allowed l.bank⟩ : Raised)], stats := st, link := lk } := ⟨_, rfl⟩
    have hexec : exec .frameDeadline s = .next (progressOn v) := hexec.trans (by rw [hv])
    have hvpass : v.pass = s.pass := by rw [hv, hw]
    have hvladder : v.ladder = some { l with
        current := none, inFlight := [], rungList := rungs, conds := Conds.put l.conds condRungLost true, due := none } := by rw [hv]
    have hnotmerged : Ladder.hasMerged { l with
        current := none, inFlight := [], rungList := rungs, conds := Conds.put l.conds condRungLost true, due := none } = false := by
      refine List.any_eq_false.mpr fun e he => ?_
      rw [← hrungs] at he
      rcases mem_insertRung.mp he with rfl | he
      · exact of_decide_eq_false rfl
      · rw [hlost e he]
        exact of_decide_eq_false rfl
    have hvplane : v.plane pi = some p := (plane_congr (by rw [hv, hw]) pi).trans hp
    have hprogress := progress_done (s := v) (j := j) (by rw [hvpass]; exact hj) hvladder (by rw [hvpass]; exact hset) (by rw [hvpass]; exact htile)
      hpi hvplane rfl rfl
    rw [if_neg (fun h => absurd ((shouldExtend_iff _ _ _).mp h.2).1 (Nat.not_lt.mpr hunder)), hnotmerged, if_neg Bool.false_ne_true, settleNow,
      afterSettle_boundary] at hprogress
    obtain ⟨n, -, hnewest, hrecord, hrec⟩ := recordTile_notes (s := v) (j := j) (by rw [hvpass]; exact hj) (by rw [hvpass]; exact htile)
    have hreturns := boundary_complete (s := recordTile v) (j := j) (by rw [hrec]; exact fun h => nomatch hs.symm.trans ((congrArg Pass.state hvpass).symm.trans h))
      (by rw [hrec, hv, hw]; exact hj) (by rw [hrec, hv, hw]; exact hpos)
    rw [if_neg (by rw [hrec, hv, hw]; exact fun h => nomatch hpause.symm.trans h)] at hreturns
    obtain ⟨step, m, hreturn⟩ := enterReturning_eq (recordTile v)
    rw [hreturns, hreturn] at hprogress
    have hgoes : progressOn v = progress v := by
      rw [progressOn]
      refine takeGuards_decided ?_ _
      rw [hprogress, hrec]
      exact nofun
    rw [hgoes, hprogress, hrec] at hexec
    refine ⟨_, rungs, hexec, by rw [← hrungs]; exact insertRung_entered _ _, ?_, ?_, rfl, rfl, rfl, ?_, ?_, ?_, ?_, ?_, ?_, ?_⟩
    · refine (plane_freed (s := v) (o := tile.plane) rfl pi).trans (if_pos hpi)
    · have hkept : State.slot w i = none := by rw [hwslots, if_pos rfl]
      refine (slot_congr (t := w) ?_ i).trans hkept
      rw [hv]
      rfl
    · rw [hv, hw]
      rfl
    · rw [hv, hw]
      rfl
    · rw [hv, hw]
      simp [State.noted]
    · refine hnewest.trans ?_
      rw [hv, hw]
    · refine hrecord.trans ?_
      rw [State.missedRecord, hvladder, hv, hw]
      rfl
    · rw [hv, hw]
      rfl
    · rw [hv, hw]
      rfl

end Sys2Proof.Machine
end

section
/-! The converter's claim, its rows, and the end of a conversion (R34, R35, R41, R102 to R104, R111 to R115); O45. -/
namespace Sys2Proof.Machine
open Sys2Proof

/-! ### The claim (R96, R102) -/

theorem fullAge_of_full {s : State} {i : PlaneId} {p : Plane} {st : Nat} (hi : s.plane i = some p) (hp : p.state = .full)
    (hst : p.stamp = some st) : s.fullAge i = some (subU32 s.merge.lastStamp st) := by
  unfold State.fullAge
  rw [hi, Option.bind_some]
  simp only [hp, hst]

/-- A plane with an age is FULL and has a stamp. -/
theorem fullAge_eq_some {s : State} {i : PlaneId} {n : Nat} (h : s.fullAge i = some n) :
    ∃ p st, s.plane i = some p ∧ p.state = .full ∧ p.stamp = some st ∧ n = subU32 s.merge.lastStamp st := by
  unfold State.fullAge at h
  obtain ⟨p, hp, hage⟩ := Option.bind_eq_some_iff.mp h
  split at hage
  · next st hstate hst => exact ⟨p, st, hp, hstate, hst, (Option.some.inj hage).symm⟩
  · exact nomatch hage

theorem freeBuf_eq_some {s : State} {b : BufId} (hb : s.buf b = none) (h : ∀ k, BufId.place k < BufId.place b → s.buf k ≠ none) :
    s.freeBuf = some b := by
  have hheld (k : BufId) (hk : BufId.place k < BufId.place b) : (s.buf k).isNone = false :=
    Option.isNone_eq_false_iff.mpr (Option.isSome_iff_ne_none.mpr (h k hk))
  unfold State.freeBuf allBufs
  cases b with
  | t1 => simp [hb]
  | t2 => simp [hb, hheld .t1 (by decide)]
  | t3 => simp [hb, hheld .t1 (by decide), hheld .t2 (by decide)]
  | t4 => simp [hb, hheld .t1 (by decide), hheld .t2 (by decide), hheld .t3 (by decide)]

theorem converterClaim_spec {s : State} {i : PlaneId} {p : Plane} {b : BufId} {st : Nat} (hconv : s.conv = none) (hp : s.plane i = some p)
    (hfull : p.state = .full) (hst : p.stamp = some st)
    (hothers : ∀ k q, k ≠ i → s.plane k = some q → q.state = .full → ∃ st2, q.stamp = some st2
      ∧ ((s.merge.lastStamp : Int) - st2) % 4294967296 < ((s.merge.lastStamp : Int) - st) % 4294967296)
    (hb : s.buf b = none) (hlower : ∀ k, BufId.place k < BufId.place b → s.buf k ≠ none) :
    exec .converterClaim s = .next { (s.setPlane i (some { p with state := .converting })).setBuf b (some freshBuf) with
      conv := some (freshConversion i b p) } := by
  have hold : oldestBy s.fullAge allPlanes = some i := by
    refine oldestBy_of_greatest (mem_allPlanes i) (fullAge_of_full hp hfull hst) fun k hk m hm => ?_
    obtain ⟨q, stq, hq, hqfull, hstamp, rfl⟩ := fullAge_eq_some hm
    obtain ⟨st2, hst2, hlt⟩ := hothers k q hk hq hqfull
    obtain rfl := Option.some.inj (hst2.symm.trans hstamp)
    rw [← subU32_cast, ← subU32_cast] at hlt
    exact Int.ofNat_lt.mp hlt
  change execConverterClaim s = _
  rw [execConverterClaim, hconv, hold, freeBuf_eq_some hb hlower]
  dsimp only
  rw [hp]

/-! ### The rows still to do (R103, R104) -/

/-- The buffer once the rows from `i` on are written, the words of the row in hand joining those it has. -/
def Buf.filled (b : Buf) (i : Nat) (rows : List (List PixOut)) : List (List PixOut) :=
  match rows with
  | [] => b.rows
  | first :: more => b.rows.take i ++ (b.rows.getD i [] ++ first) :: more

theorem convertNextRow_eq {s : State} {c : Conversion} {p : Plane} {d : FlatData} {b : Buf} (hc : s.conv = some c) (hp : s.plane c.plane = some p)
    (hd : (s.flat c.bank).data = some d) (hb : s.buf c.buffer = some b) {words : List PixOut}
    (hw : words = convertRow d.record.bf c.l c.lastCode ((rowPixels d c p.recs c.rowsDone).drop (b.rows.getD c.rowsDone []).length)) :
    convertNextRow s = { s.setBuf c.buffer (some { b with rows := b.rows.take c.rowsDone ++ [b.rows.getD c.rowsDone [] ++ words] }) with
      conv := some { c with figures := words.foldl addPixel c.figures, rowsDone := c.rowsDone + 1, lastCode := none } } := by
  unfold convertNextRow convertNext
  rw [hc]
  dsimp only
  rw [hp, hd, hb]
  dsimp only
  rw [Option.getD_none, List.take_length, rowLeft, Conversion.colsDone, ← hw]
  simp only [Conversion.after, decide_true, if_true, Buf.write]

theorem setBuf_self {s : State} {i : BufId} {b : Buf} (h : s.buf i = some b) : s.setBuf i (some b) = s := by
  rw [← h]
  cases i <;> rfl

theorem withConv_self {s : State} {o : Option Conversion} (h : s.conv = o) : s = { s with conv := o } := by rw [← h]

theorem setBuf_again (s : State) (i : BufId) (x y : Option Buf) (c : Option Conversion) :
    ({ s.setBuf i x with conv := c } : State).setBuf i y = { s.setBuf i y with conv := c } := by cases i <;> rfl

/-- The rows behind the one in hand are converted whole. -/
theorem convertRows_whole (n : Nat) {s : State} {c : Conversion} {p : Plane} {d : FlatData} {b : Buf} (hc : s.conv = some c)
    (hp : s.plane c.plane = some p) (hd : (s.flat c.bank).data = some d) (hb : s.buf c.buffer = some b) (hlast : c.lastCode = none)
    (hrows : b.rows.length ≤ c.rowsDone) :
    convertRows n s = { s.setBuf c.buffer (some { b with rows := b.rows ++ (List.range' c.rowsDone n).map (rowWords d c p.recs) }) with
      conv := some { c with
        figures := (((List.range' c.rowsDone n).map (rowWords d c p.recs)).flatten).foldl addPixel c.figures
        rowsDone := c.rowsDone + n } } := by
  induction n generalizing s c b with
  | zero =>
    change s = _
    rw [List.range'_zero, List.map_nil, List.append_nil, setBuf_self hb, List.flatten_nil, List.foldl_nil, Nat.add_zero]
    exact withConv_self hc
  | succ n ih =>
    have hempty : b.rows.getD c.rowsDone [] = [] := List.getD_eq_default _ _ hrows
    have hnext := convertNextRow_eq (words := rowWords d c p.recs c.rowsDone) hc hp hd hb (by
      rw [hempty, hlast]
      rfl)
    rw [hempty, List.nil_append, List.take_of_length_le hrows] at hnext
    change convertRows n (convertNextRow s) = _
    rw [hnext]
    have hconvRows := ih (s := { s.setBuf c.buffer (some { b with rows := b.rows ++ [rowWords d c p.recs c.rowsDone] }) with
        conv := some { c with
          figures := (rowWords d c p.recs c.rowsDone).foldl addPixel c.figures, rowsDone := c.rowsDone + 1, lastCode := none } })
      (c := { c with figures := (rowWords d c p.recs c.rowsDone).foldl addPixel c.figures, rowsDone := c.rowsDone + 1, lastCode := none })
      (b := { b with rows := b.rows ++ [rowWords d c p.recs c.rowsDone] }) rfl
      (by rw [← hp]; exact plane_congr (by cases c.buffer <;> rfl) _) (by rw [← hd]; cases c.buffer <;> cases c.bank <;> rfl)
      (by cases c.buffer <;> rfl) rfl (by
        dsimp only
        rw [List.length_append, List.length_singleton]
        omega)
    rw [hconvRows, List.range'_succ, List.map_cons, List.flatten_cons, List.foldl_append]
    dsimp only
    rw [List.append_assoc, List.singleton_append, setBuf_again, Nat.add_assoc, Nat.add_comm 1 n, ← hlast]
    rfl

/-- The words that the next `n` rows still lack, the row in hand going on from where it stands. -/
def Conversion.words (c : Conversion) (d : FlatData) (recs : List (List MergeRec)) (b : Buf) (n : Nat) : List (List PixOut) :=
  (List.range' c.rowsDone n).map fun i =>
    if i = c.rowsDone then convertRow d.record.bf c.l c.lastCode ((rowPixels d c recs i).drop (b.rows.getD i []).length)
    else rowWords d c recs i

theorem Conversion.words_succ (c : Conversion) (d : FlatData) (recs : List (List MergeRec)) (b : Buf) (n : Nat) : c.words d recs b (n + 1) =
    convertRow d.record.bf c.l c.lastCode ((rowPixels d c recs c.rowsDone).drop (b.rows.getD c.rowsDone []).length)
      :: (List.range' (c.rowsDone + 1) n).map (rowWords d c recs) := by
  unfold Conversion.words
  rw [List.range'_succ, List.map_cons, if_pos rfl]
  refine congrArg _ (List.map_congr_left fun i hi => if_neg ?_)
  have := List.left_le_of_mem_range' hi
  omega

/-- What is still to do of a conversion. -/
theorem convertRows_eq (n : Nat) {s : State} {c : Conversion} {p : Plane} {d : FlatData} {b : Buf} (hc : s.conv = some c)
    (hp : s.plane c.plane = some p) (hd : (s.flat c.bank).data = some d) (hb : s.buf c.buffer = some b) :
    ∃ last, convertRows n s = { s.setBuf c.buffer (some { b with rows := b.filled c.rowsDone (c.words d p.recs b n) }) with
      conv := some { c with
        figures := (c.words d p.recs b n).flatten.foldl addPixel c.figures, rowsDone := c.rowsDone + n, lastCode := last } } := by
  cases n with
  | zero =>
    refine ⟨c.lastCode, ?_⟩
    change s = _
    have hnone : c.words d p.recs b 0 = [] := rfl
    rw [hnone, Buf.filled, setBuf_self hb]
    exact withConv_self hc
  | succ n =>
    refine ⟨none, ?_⟩
    change convertRows n (convertNextRow s) = _
    rw [Conversion.words_succ]
    generalize hw : convertRow d.record.bf c.l c.lastCode ((rowPixels d c p.recs c.rowsDone).drop (b.rows.getD c.rowsDone []).length) = first
    rw [convertNextRow_eq hc hp hd hb hw.symm]
    have hrest := convertRows_whole n
      (s := { s.setBuf c.buffer (some { b with rows := b.rows.take c.rowsDone ++ [b.rows.getD c.rowsDone [] ++ first] }) with
        conv := some { c with figures := first.foldl addPixel c.figures, rowsDone := c.rowsDone + 1, lastCode := none } })
      (c := { c with figures := first.foldl addPixel c.figures, rowsDone := c.rowsDone + 1, lastCode := none })
      (b := { b with rows := b.rows.take c.rowsDone ++ [b.rows.getD c.rowsDone [] ++ first] }) rfl
      (by rw [← hp]; exact plane_congr (by cases c.buffer <;> rfl) _) (by rw [← hd]; cases c.buffer <;> cases c.bank <;> rfl)
      (by cases c.buffer <;> rfl) rfl (by
        dsimp only
        rw [List.length_append, List.length_singleton, List.length_take]
        omega)
    rw [hrest]
    dsimp only
    rw [setBuf_again, List.flatten_cons, List.foldl_append, List.append_assoc, List.singleton_append, Nat.add_assoc, Nat.add_comm 1 n]
    rfl

end Sys2Proof.Machine
end

section
/-! The end of a conversion (R34, R35, R41, R111 to R115); O45. -/
namespace Sys2Proof.Machine
open Sys2Proof

/-! ### Additions to several counters (R170, R171) -/

/-- Several additions in one event. -/
def addCounters (adds : List (CounterId × Nat)) (s : State) : State := adds.foldl (fun s e => addCounter e.1 e.2 s) s

theorem addCounters_eq (adds : List (CounterId × Nat)) (s : State) : ∃ (counters : List Counter) (lk : Link),
    addCounters adds s = { s with stats.counters := counters, link := lk } ∧ counters.length = s.stats.counters.length := by
  induction adds generalizing s with
  | nil => exact ⟨s.stats.counters, s.link, rfl, rfl⟩
  | cons e adds ih =>
    obtain ⟨counters, lk, h, hlen⟩ := ih (addCounter e.1 e.2 s)
    refine ⟨counters, lk, ?_, ?_⟩
    · change addCounters adds (addCounter e.1 e.2 s) = _
      rw [h, addCounter_eq]
    · rw [hlen, addCounter_eq]
      exact List.length_set

theorem addCounters_ne {adds : List (CounterId × Nat)} {k : CounterId} (h : k ∉ adds.map Prod.fst) (s : State) :
    (addCounters adds s).counter k = s.counter k := by
  induction adds generalizing s with
  | nil => rfl
  | cons e adds ih =>
    rw [List.map_cons, List.mem_cons, not_or] at h
    exact (ih h.2 (addCounter e.1 e.2 s)).trans (addCounter_counter_ne h.1 e.2 s)

theorem addCounters_value {adds : List (CounterId × Nat)} (h : (adds.map Prod.fst).Nodup) {s : State} (hlen : s.stats.counters.length = 16)
    {k : CounterId} {n : Nat} (hk : (k, n) ∈ adds) :
    ((addCounters adds s).counter k).value = min 4294967295 ((s.counter k).value + n) := by
  induction adds generalizing s with
  | nil => exact nomatch hk
  | cons e adds ih =>
    rw [List.map_cons, List.nodup_cons] at h
    change ((addCounters adds (addCounter e.1 e.2 s)).counter k).value = _
    rcases List.mem_cons.mp hk with rfl | hk
    · rw [addCounters_ne h.1, addCounter_counter_same hlen, Counter.plus_value]
    · have hne : k ≠ e.1 := fun he => h.1 (he ▸ List.mem_map_of_mem (f := Prod.fst) hk)
      rw [ih h.2 (by rw [addCounter_eq]; exact List.length_set.trans hlen) hk, addCounter_counter_ne hne]

/-- What a conversion's end adds to the station counters. -/
def ConvFigures.adds (g : ConvFigures) (attention : Bool) : List (CounterId × Nat) :=
  (.tilesCaptured, 1) :: ((if attention then [(.tilesAttention, 1)] else [])
    ++ [(.pixelsOver, g.nOver), (.pixelsUnder, g.nUnder), (.pixelsDefect, g.nDefect)])

theorem countConversion_eq (g : ConvFigures) (attention : Bool) (s : State) : countConversion g attention s = addCounters (g.adds attention) s := by
  unfold countConversion addCounters ConvFigures.adds
  cases attention with
  | false => simp only [Bool.false_eq_true, if_false, List.nil_append, List.foldl_cons, List.foldl_nil]
  | true => simp only [if_true, List.cons_append, List.nil_append, List.foldl_cons, List.foldl_nil]

theorem countConversion_value (g : ConvFigures) (attention : Bool) {s : State} (hlen : s.stats.counters.length = 16)
    (hbound : ∀ k ∈ s.stats.counters, k.value ≤ 4294967295) {k : CounterId} {n : Nat}
    (hk : (k, n) ∈ [(CounterId.tilesCaptured, 1), (.tilesAttention, if attention then 1 else 0), (.pixelsOver, g.nOver), (.pixelsUnder, g.nUnder),
      (.pixelsDefect, g.nDefect)]) : ((countConversion g attention s).counter k).value = min 4294967295 ((s.counter k).value + n) := by
  have hnodup : ((g.adds attention).map Prod.fst).Nodup := by cases attention <;> simp [ConvFigures.adds]
  rw [countConversion_eq]
  by_cases hmem : (k, n) ∈ g.adds attention
  · exact addCounters_value hnodup hlen hmem
  · have hnone : attention = false ∧ k = .tilesAttention ∧ n = 0 := by
      cases attention with
      | true => exact absurd hk (by simpa [ConvFigures.adds] using hmem)
      | false =>
        rcases List.mem_cons.mp hk with h | hk
        · exact absurd (by rw [h]; simp [ConvFigures.adds]) hmem
        · rcases List.mem_cons.mp hk with h | hk
          · obtain ⟨rfl, rfl⟩ := Prod.mk.inj h
            exact ⟨rfl, rfl, rfl⟩
          · exact absurd (List.mem_cons_of_mem _ hk) hmem
    obtain ⟨rfl, rfl, rfl⟩ := hnone
    rw [addCounters_ne (by simp [ConvFigures.adds]), Nat.add_zero, Nat.min_eq_right (counter_le hlen hbound _)]

/-! ### What the end of a conversion makes of the tile (R115) -/

theorem writeRecord_captured {r : TileRecord} (h : r.status = .captured) (quiet : Bool) (s : State) : ∃ n : Notes,
    n.counters = s.stats.counters ∧ n.newest = (s.out.newest + 1) % 4294967296
      ∧ n.records.getLast? = some { r with sequence := (s.out.newest + 1) % 4294967296 }
      ∧ writeRecord r quiet s = { s with pass.counts := s.pass.counts.count r }.noted n := by
  have hlast : (s.recordJoined r quiet ((s.out.newest + 1) % 4294967296) s.unread).out.records.getLast?
      = some { r with sequence := (s.out.newest + 1) % 4294967296 } := List.getLast?_concat
  have hstatus : writeRecord r quiet s = s.recordJoined r quiet ((s.out.newest + 1) % 4294967296) s.unread := by
    rw [writeRecord_eq, countStatus_eq, h]
    rfl
  rw [hstatus]
  generalize s.unread = unread at hlast ⊢
  generalize (s.out.newest + 1) % 4294967296 = newest at hlast ⊢
  exact ⟨⟨(s.recordJoined r quiet newest unread).out.records, newest, (s.recordJoined r quiet newest unread).out.readMark,
      s.stats.counters, (s.recordJoined r quiet newest unread).link⟩, rfl, rfl, hlast, rfl⟩

/-- Whether a CAPTURED record with attention pauses the pass (R41). -/
def Pass.pausesOn (p : Pass) (attention : Bool) : Bool :=
  attention && decide ((p.job.map fun j => j.record.stopOnAttention) = some true ∧ p.state ∈ [PassState.preparing, .loading, .walking])

theorem attentionPause_eq (attention : Bool) (s : State) :
    attentionPause attention s = { s with pass.pausePending := s.pass.pausePending || s.pass.pausesOn attention } := by
  have hsame {p : Bool} (h : p = false) : s = { s with pass.pausePending := s.pass.pausePending || p } := by rw [h, Bool.or_false]
  unfold attentionPause Pass.pausesOn
  cases hj : s.pass.job with
  | none => exact hsame (by simp)
  | some j =>
    have hpause : (if (attention && j.record.stopOnAttention) = true then { s with pass.pausePending := true } else s)
        = { s with pass.pausePending := s.pass.pausePending || (attention && j.record.stopOnAttention) } := by
      split
      · next h => rw [h, Bool.or_true]
      · next h => rw [Bool.eq_false_iff.mpr h, Bool.or_false]
    cases hs : s.pass.state
    case preparing | loading | walking =>
      refine hpause.trans ?_
      simp
    all_goals exact hsame (by simp)

/-- The tile's pass once its conversion has ended. -/
def Pass.converted (p : Pass) (r : TileRecord) : Pass :=
  { p with
    counts := p.counts.count r, pausePending := p.pausePending || p.pausesOn r.attention, handedOver := p.handedOver - 1 }

theorem addHistogram_eq (g : ConvFigures) (s : State) : ∃ st : Stats, addHistogram g s = { s with stats := st }
    ∧ st.counters = s.stats.counters ∧ st.histState = s.stats.histState
    ∧ (s.stats.histState = .opened → st.tilesAdded = s.stats.tilesAdded + 1
      ∧ st.nUnder = min 4294967295 (s.stats.nUnder + g.nUnder)
      ∧ st.bins = List.zipWith (fun x y => min 4294967295 (x + y)) s.stats.bins g.bins)
    ∧ (s.stats.histState ≠ .opened → st.bins = s.stats.bins ∧ st.tilesAdded = s.stats.tilesAdded) := by
  unfold addHistogram
  split
  · next h => exact ⟨_, rfl, rfl, rfl, fun _ => ⟨rfl, rfl, rfl⟩, fun hne => absurd h hne⟩
  · next h => exact ⟨s.stats, rfl, rfl, rfl, (fun ho => nomatch h.symm.trans ho), fun _ => ⟨rfl, rfl⟩⟩
  · next h => exact ⟨s.stats, rfl, rfl, rfl, (fun ho => nomatch h.symm.trans ho), fun _ => ⟨rfl, rfl⟩⟩

/-- The buffer becomes READY. -/
theorem readyBuffer_eq {u : State} {c : Conversion} {b : Buf} (hb : u.buf c.buffer = some b) (newest : Nat) : ∃ o : Output,
    readyBuffer c newest u = { u with out := o } ∧ o.newest = u.out.newest ∧ o.records = u.out.records
      ∧ State.buf { u with out := o } c.buffer = some { b with
          state := .ready, stamp := some ((u.out.lastStamp + 1) % 4294967296)
          label := some ⟨c.owner.number, newest, c.owner.row, c.owner.col, c.window.w, c.window.h⟩ }
      ∧ ∀ k, k ≠ c.buffer → State.buf { u with out := o } k = u.buf k := by
  refine ⟨(readyBuffer c newest u).out, ?_⟩
  unfold readyBuffer
  dsimp only
  rw [hb, Option.map_some]
  generalize c.buffer = i
  cases i <;> refine ⟨rfl, rfl, rfl, rfl, fun k hk => ?_⟩ <;> cases k <;> simp_all [State.buf, State.setBuf]

/-- The conversion's end up to the job's: the record, the buffer, the histogram, the counters, the plane. -/
theorem finishConversion_eq {s : State} {c : Conversion} {fields : LadderFields} {b : Buf} {r : TileRecord} (hb : s.buf c.buffer = some b)
    (hr : r = capturedRecord c fields s.time.count) : ∃ y : State, finishConversion c fields s = jobEndCheck y
      ∧ (∃ (o : Output) (st : Stats) (m : Merge) (lk : Link), y = { s with
          out := o, stats := st, merge := m, link := lk, conv := none, pass := s.pass.converted r })
      ∧ y.out.newest = (s.out.newest + 1) % 4294967296
      ∧ y.out.records.getLast? = some { r with sequence := (s.out.newest + 1) % 4294967296 }
      ∧ y.buf c.buffer = some { b with
          state := .ready, stamp := some ((s.out.lastStamp + 1) % 4294967296)
          label := some ⟨c.owner.number, (s.out.newest + 1) % 4294967296, c.owner.row, c.owner.col, c.window.w, c.window.h⟩ }
      ∧ (∀ k, k ≠ c.buffer → y.buf k = s.buf k) ∧ y.plane c.plane = none ∧ (∀ k, k ≠ c.plane → y.plane k = s.plane k)
      ∧ y.stats.histState = s.stats.histState
      ∧ (s.stats.counters.length = 16 → (∀ k ∈ s.stats.counters, k.value ≤ 4294967295) →
          ∀ k n, (k, n) ∈ [(CounterId.tilesCaptured, 1), (.tilesAttention, if r.attention then 1 else 0), (.pixelsOver, c.figures.nOver),
              (.pixelsUnder, c.figures.nUnder), (.pixelsDefect, c.figures.nDefect)] →
            (y.counter k).value = min 4294967295 ((s.counter k).value + n))
      ∧ (s.stats.histState = .opened → y.stats.tilesAdded = s.stats.tilesAdded + 1
          ∧ y.stats.nUnder = min 4294967295 (s.stats.nUnder + c.figures.nUnder)
          ∧ y.stats.bins = List.zipWith (fun x y => min 4294967295 (x + y)) s.stats.bins c.figures.bins)
      ∧ (s.stats.histState ≠ .opened → y.stats.bins = s.stats.bins ∧ y.stats.tilesAdded = s.stats.tilesAdded) := by
  obtain ⟨n, hcounters, hnewest, hrecord, hwrite⟩ := writeRecord_captured (r := r) (by rw [hr]; rfl) c.owner.record.notifyQuiet s
  unfold finishConversion
  dsimp only
  rw [show capturedRecord c fields s.tag = r from hr.symm, hwrite, attentionPause_eq]
  obtain ⟨u, hu⟩ : ∃ u : State, u = { { s with pass.counts := s.pass.counts.count r }.noted n with
      pass := { s.pass with counts := s.pass.counts.count r, pausePending := s.pass.pausePending || s.pass.pausesOn r.attention } } := ⟨_, rfl⟩
  have hustart : ∀ v : State, v = { s with pass.counts := s.pass.counts.count r }.noted n →
      { v with pass.pausePending := v.pass.pausePending || v.pass.pausesOn r.attention } = u := by
    rintro v rfl
    rw [hu]
    rfl
  rw [hustart _ rfl]
  have hunewest : u.out.newest = (s.out.newest + 1) % 4294967296 := by rw [hu]; exact hnewest
  have hubuf (k : BufId) : u.buf k = s.buf k := by rw [hu]; cases k <;> rfl
  obtain ⟨o, hready, honewest, horecords, hobuf, hoothers⟩ := readyBuffer_eq (u := u) (c := c) ((hubuf c.buffer).trans hb) u.out.newest
  obtain ⟨st, hhist, hstcounters, hststate, hopened, hclosed⟩ := addHistogram_eq c.figures { u with out := o }
  obtain ⟨counters, lk, hcount, hlength⟩ := addCounters_eq (c.figures.adds r.attention) { u with out := o, stats := st }
  have hvalue := countConversion_value c.figures r.attention (s := { u with out := o, stats := st })
  rw [countConversion_eq, hcount] at hvalue
  obtain ⟨v, hv⟩ : ∃ v, v = { u with out := o, stats := { st with counters := counters }, link := lk } := ⟨_, rfl⟩
  have hcounted : countConversion c.figures r.attention (addHistogram c.figures (readyBuffer c u.out.newest u)) = v := by
    rw [hready, hhist, countConversion_eq, hcount, hv]
  rw [hcounted]
  obtain ⟨m, hm⟩ : ∃ m : Merge, ∀ v : State, v.merge = s.merge → v.releasePlane c.plane = { v with merge := m } :=
    ⟨(s.releasePlane c.plane).merge, fun v hv => by rw [State.releasePlane, State.releasePlane]; cases c.plane <;> simp [State.setPlane, hv]⟩
  have humerge : u.merge = s.merge := by rw [hu]; rfl
  rw [hm v (by rw [hv]; exact humerge)]
  subst hv
  have hplanes (t : State) (ht : t.merge = m) (k : PlaneId) : t.plane k = (s.releasePlane c.plane).plane k := by
    refine plane_congr (ht.trans ?_) k
    rw [hm s rfl]
  refine ⟨_, rfl, ⟨o, { st with counters := counters }, m, lk, ?_⟩, ?_, ?_, ?_, fun k hk => (hoothers k hk).trans (hubuf k), ?_, fun k hk => ?_, ?_,
    fun hlen hbound k n hk => ?_, fun ho => ?_, fun ho => ?_⟩
  · rw [hu]
    rfl
  · exact honewest.trans hunewest
  · refine (congrArg List.getLast? horecords).trans ?_
    rw [hu]
    exact hrecord
  · refine hobuf.trans ?_
    rw [hunewest, hu]
    rfl
  · exact (hplanes _ rfl c.plane).trans (plane_setPlane s c.plane none)
  · exact (hplanes _ rfl k).trans (plane_setPlane_ne s none hk)
  · refine hststate.trans ?_
    rw [hu]
    rfl
  · have hucounters : u.stats.counters = s.stats.counters := by rw [hu]; exact hcounters
    have hsame : st.counters = s.stats.counters := hstcounters.trans hucounters
    refine (hvalue (by exact (congrArg List.length hsame).trans hlen) (by intro k hk; exact hbound k (hsame ▸ hk)) hk).trans ?_
    rw [State.counter, State.counter]
    dsimp only
    rw [hsame]
  · have hustats : u.stats.histState = s.stats.histState := by rw [hu]; rfl
    obtain ⟨htiles, hunder, hbins⟩ := hopened (hustats.trans ho)
    rw [hu] at htiles hunder hbins
    exact ⟨htiles, hunder, hbins⟩
  · have hustats : u.stats.histState = s.stats.histState := by rw [hu]; rfl
    obtain ⟨hbins, htiles⟩ := hclosed fun h => ho (hustats.symm.trans h)
    rw [hu] at hbins htiles
    exact ⟨hbins, htiles⟩

/-- What a job's end, or its going on, leaves of the output and the statistics. -/
theorem jobEndCheck_leaves (y : State) : (jobEndCheck y).out = y.out ∧ (jobEndCheck y).merge = y.merge ∧ (jobEndCheck y).conv = y.conv
    ∧ (jobEndCheck y).lamps = y.lamps ∧ (jobEndCheck y).intake = y.intake ∧ (jobEndCheck y).zones = y.zones
    ∧ (jobEndCheck y).ladder = y.ladder ∧ (jobEndCheck y).stats.bins = y.stats.bins
    ∧ (jobEndCheck y).stats.tilesAdded = y.stats.tilesAdded ∧ (jobEndCheck y).stats.nUnder = y.stats.nUnder
    ∧ ∀ c, c ≠ .platesDone → c ≠ .platesFailed → (jobEndCheck y).counter c = y.counter c := by
  rcases jobEndCheck_cases y with h | ⟨j, hj, -, h⟩
  · rw [h]
    exact ⟨rfl, rfl, rfl, rfl, rfl, rfl, rfl, rfl, rfl, rfl, fun _ _ _ => rfl⟩
  · obtain ⟨x, -, hend, hcounters⟩ := endJob_ends hj false
    rw [h]
    refine ⟨?_, ?_, ?_, ?_, ?_, ?_, ?_, ?_, ?_, ?_, hcounters⟩ <;> rw [hend] <;> rfl

theorem buf_congr {s t : State} (h : s.out = t.out) (k : BufId) : s.buf k = t.buf k := by cases k <;> simp only [State.buf, h]

/-- The conditions of a converted tile. -/
theorem convConds_eq {c : Conversion} {ladder conds : Conds}
    (hconds : conds = (ladder
      ||| (if c.owner.record.overLimit * (c.window.w * c.window.h) < c.figures.nOver * 1000 then 1#6 else 0#6)
      ||| (if c.owner.record.underLimit * (c.window.w * c.window.h) < c.figures.nUnder * 1000 then 2#6 else 0#6))) :
    convConds c ladder = conds := by
  unfold convConds overLimit Window.pixels condOverLimit condUnderLimit
  rw [hconds]
  simp only [decide_eq_true_eq]

/-- A conversion whose last row is done, as CONVERSION_END takes it. -/
theorem exec_conversionEnd {s s' : State} {c c' : Conversion} {p : Plane} {fields : LadderFields} (hc : s.conv = some c)
    (hconverted : convertRows (c.window.h - c.rowsDone) s = s') (hc' : s'.conv = some c') (hp : s'.plane c.plane = some p)
    (hl : p.ladder = some fields) : exec .conversionEnd s = .next (finishConversion c' fields s') := by
  change execConversionEnd s = _
  rw [execConversionEnd, hc]
  dsimp only
  rw [hconverted, hc', hp, Option.bind_some, hl]

/-- The words of a row in hand go on from those it has, where the last code is that of its last word. -/
theorem Conversion.words_resumed {c : Conversion} {d : FlatData} {recs : List (List MergeRec)} {b : Buf} {n : Nat} {started rest : List PixOut}
    (hstarted : b.rows.getD c.rowsDone [] = started) (hrow : rowWords d c recs c.rowsDone = started ++ rest)
    (hcode : c.lastCode = started.getLast?.map fun w => w.code) :
    c.words d recs b (n + 1) = rest :: (List.range' (c.rowsDone + 1) n).map (rowWords d c recs) := by
  rw [Conversion.words_succ, hstarted]
  congr 1
  have hsplit := convertRow_append d.record.bf c.l none ((rowPixels d c recs c.rowsDone).take started.length)
    ((rowPixels d c recs c.rowsDone).drop started.length)
  rw [List.take_append_drop] at hsplit
  have hlength : (rowPixels d c recs c.rowsDone).length = started.length + rest.length := by
    rw [← List.length_append, ← hrow, rowWords, convertRow_length]
  obtain ⟨hfirst, hsecond⟩ := List.append_inj (hsplit.symm.trans hrow)
    (by rw [convertRow_length, List.length_take, hlength, Nat.min_eq_left (Nat.le_add_right _ _)])
  rw [hfirst, Option.or_none, ← hcode] at hsecond
  exact hsecond

/-- Settles O45: what is still to do is converted, and the tile's record, buffer, figures and plane follow in turn. -/
theorem conversionClaimsConvertsAndRecords : Obligations.ConversionClaimsConvertsAndRecords := by
  refine ⟨fun s i p b st hconv hp hfull hst hothers hb hlower => ?claim,
      fun s c p fields d b rows g conds hc hp hl hd hb hle hlen hbound hrows hg hconds => ?ends⟩
  case claim =>
    refine ⟨_, converterClaim_spec hconv hp hfull hst hothers hb hlower, ?_, fun k hk => ?_, ?_, fun k hk => ?_,
      ⟨freshConversion i b p, rfl, rfl, rfl, rfl, rfl, rfl, rfl, rfl, fun f hf => ?_, rfl, rfl, rfl, rfl, rfl, rfl⟩, ?_, ?_, ?_, ?_⟩
    · cases i <;> cases b <;> rfl
    · refine (plane_congr (t := s.setPlane i (some { p with state := .converting })) (by cases b <;> rfl) k).trans (plane_setPlane_ne s _ hk)
    · cases i <;> cases b <;> rfl
    · have hkept : ((s.setPlane i (some { p with state := .converting })).setBuf b (some freshBuf)).buf k = s.buf k :=
        (buf_setBuf_ne _ _ hk).trans (by cases i <;> cases k <;> rfl)
      rw [← hkept]
      cases k <;> rfl
    · rw [freshConversion, hf]
      rfl
    all_goals cases i <;> cases b <;> rfl
  case ends =>
    obtain ⟨last, hconverted⟩ := convertRows_eq (c.window.h - c.rowsDone) hc hp hd hb
    have hwords : c.words d p.recs b (c.window.h - c.rowsDone) = rows := hrows.symm
    rw [hwords, ← hg] at hconverted
    obtain ⟨c', hc'⟩ : ∃ c' : Conversion, c' = { c with figures := g, rowsDone := c.rowsDone + (c.window.h - c.rowsDone), lastCode := last } := ⟨_, rfl⟩
    obtain ⟨b', hb'⟩ : ∃ b' : Buf, b' = { b with rows := b.filled c.rowsDone rows } := ⟨_, rfl⟩
    obtain ⟨s', hs'⟩ : ∃ s' : State, s' = { s.setBuf c.buffer (some b') with conv := some c' } := ⟨_, rfl⟩
    rw [← hb', ← hc', ← hs'] at hconverted
    have hplane' (k : PlaneId) : s'.plane k = s.plane k := plane_congr (by rw [hs']; cases c.buffer <;> rfl) k
    have hbuf' : s'.buf c.buffer = some b' := by rw [hs']; cases c.buffer <;> rfl
    have hothers' (k : BufId) (hk : k ≠ c.buffer) : s'.buf k = s.buf k := by
      rw [← buf_setBuf_ne s (some b') hk, hs']
      cases k <;> rfl
    have hrest' : s'.out.newest = s.out.newest ∧ s'.out.lastStamp = s.out.lastStamp ∧ s'.time = s.time ∧ s'.stats = s.stats ∧ s'.pass = s.pass
        ∧ s'.lamps = s.lamps ∧ s'.intake = s.intake ∧ s'.zones = s.zones ∧ s'.ladder = s.ladder ∧ s'.motion = s.motion ∧ s'.faults = s.faults
        ∧ s'.cal = s.cal ∧ s'.queue = s.queue := by
      rw [hs']
      cases c.buffer <;> exact ⟨rfl, rfl, rfl, rfl, rfl, rfl, rfl, rfl, rfl, rfl, rfl, rfl, rfl⟩
    obtain ⟨hnewest', hstamp', htime', hstats', hpass', hlamps', hintake', hzones', hladder', hmotion', hfaults', hcal', hqueue'⟩ := hrest'
    have hexec := exec_conversionEnd (c' := c') (p := p) (fields := fields) hc hconverted (by rw [hs'])
      ((hplane' c.plane).trans hp) hl
    obtain ⟨r, hr⟩ : ∃ r, r = capturedRecord c' fields s'.time.count := ⟨_, rfl⟩
    obtain ⟨y, hfinish, ⟨o, st, m, lk, hy⟩, hnewest, hrecord, hbuf, hbufs, hplane, hplanes, hhist, hcounters, hopened, hclosed⟩ :=
      finishConversion_eq (s := s') (c := c') (by rw [hc']; exact hbuf') hr
    have hcounter' (k : CounterId) : s'.counter k = s.counter k := counter_congr hstats' k
    obtain ⟨hout, hmerge, hconv, hlamps, hintake, hzones, hladder, hbins, htiles, hunder, hcounter⟩ := jobEndCheck_leaves y
    have hconvConds : convConds c' fields.conds = conds := convConds_eq (by rw [hc', hconds])
    have hpass : y.pass = s.pass.converted r := by rw [hy, ← hpass']
    have hcount : s.pass.counts.count r = { s.pass.counts with
        captured := s.pass.counts.captured + 1, attention := s.pass.counts.attention + (if r.attention then 1 else 0) } := by
      rw [hr]
      rfl
    refine ⟨jobEndCheck y, { r with sequence := (s.out.newest + 1) % 4294967296 }, hexec.trans (congrArg _ hfinish), ?newest, ?records, ?record,
      ?buf, fun started rest hlt hstarted hrow hcode => ?resumed, fun k hk => ?bufs, ?plane, fun k hk => ?planes, ?conv, fun k n hk => ?counters,
      fun ho => ?opened, fun ho => ?closed, ?lamps, ?intake, ?zones, ?ladder, fun counts hcounts => ⟨fun hstays => ?stays,
        fun j hfin hj ht hh hmo hplate => ?ends⟩⟩
    case newest => rw [hout, hnewest, hnewest']
    case records => rw [hout, hrecord, hnewest']
    case record =>
      rw [hr]
      unfold capturedRecord
      rw [hconvConds, hc', htime']
      rfl
    case buf =>
      rw [buf_congr hout, show c.buffer = c'.buffer by rw [hc'], hbuf, hnewest', hstamp', hc', hb']
      rfl
    case resumed =>
      rw [← hwords, ← Conversion.words_resumed hstarted hrow hcode]
      congr 1
      omega
    case bufs => rw [buf_congr hout, hbufs k (by rw [hc']; exact hk), hothers' k hk]
    case plane => rw [plane_congr hmerge, show c.plane = c'.plane by rw [hc'], hplane]
    case planes => rw [plane_congr hmerge, hplanes k (by rw [hc']; exact hk), hplane' k]
    case conv => rw [hconv, hy]
    case counters =>
      rw [hcounter k (by rintro rfl; simp at hk) (by rintro rfl; simp at hk), ← hcounter' k]
      rw [hc'] at hcounters
      exact hcounters (by rw [hstats']; exact hlen) (by rw [hstats']; exact hbound) k n hk
    case opened =>
      obtain ⟨htilesAdded, hnUnder, hbinsAdded⟩ := hopened (by rw [hstats']; exact ho)
      rw [htiles, hunder, hbins, htilesAdded, hnUnder, hbinsAdded, hstats', hc']
      exact ⟨rfl, rfl, rfl⟩
    case closed =>
      obtain ⟨hbinsAdded, htilesAdded⟩ := hclosed (by rw [hstats']; exact ho)
      rw [htiles, hbins, htilesAdded, hbinsAdded, hstats']
      exact ⟨rfl, rfl⟩
    case lamps => rw [hlamps, hy, ← hlamps']
    case intake => rw [hintake, hy, ← hintake']
    case zones => rw [hzones, hy, ← hzones']
    case ladder => rw [hladder, hy, ← hladder']
    case stays =>
      have hsame : jobEndCheck y = y := by
        refine jobEndCheck_stays ?_
        rw [State.plateLetsEnd, hpass]
        rcases hstays with h | h | h | h
        · exact .inr (.inl h)
        · exact .inr (.inr (.inl (by change s.pass.handedOver - 1 ≠ 0; omega)))
        · refine .inr (.inr (.inr (.inr ?_)))
          unfold Pass.converted
          dsimp only
          rw [h]
          cases s.pass.state <;> simp
        · refine .inr (.inr (.inr (.inr ?_)))
          unfold Pass.converted
          dsimp only
          rw [h]
      rw [hsame, hpass, hcounts, ← hcount]
      refine ⟨?_, ?_, ?_, ?_, ?_⟩
      · unfold Pass.converted Pass.pausesOn
        rfl
      · rw [hy, ← hmotion']
      · rw [hy, ← hfaults']
      · rw [hy, ← hcal']
      · rw [hy, ← hqueue']
    case ends =>
      have hyfaults : y.faults = s.faults := by rw [hy, ← hfaults']
      have hyqueue : y.queue = s.queue := by rw [hy, ← hqueue']
      have hyjob : y.pass.job = some j := by rw [hpass]; exact hj
      have hends : jobEndCheck y = endJob false y := by
        refine jobEndCheck_ends (by rw [hyjob]; exact nofun) (by rw [hpass]; exact ht) (by rw [hpass]; change s.pass.handedOver - 1 = 0; omega) ?_ ?_
        · rw [State.passOrder, hy]
          change s'.motion.order.any _ = false
          rw [hmotion', Option.any_eq_false]
          exact fun o ho => by simpa using hmo o ho
        · rw [State.plateLetsEnd, hpass]
          unfold Pass.converted
          dsimp only
          rw [hfin]
          refine decide_eq_true ?_
          exact hplate.imp_right fun h => ⟨h.2, h.1⟩
      obtain ⟨x, hx, hend, -⟩ := endJob_ends hyjob false
      have hfirst := hx.first
      rw [hyfaults] at hfirst
      have hnot : y.pass.state ≠ .halted := by rw [hpass]; exact fun h => nomatch hfin.symm.trans h
      rw [hends, hend]
      refine ⟨y.entryOf j y.outcome x.fault.first, List.getLast?_concat, rfl, ?_, ?_, hfirst, ?_, ?_, rfl, rfl, hx.jobMark⟩
      · rw [hcounts, ← hcount, State.entryOf, hpass]
        rfl
      · have houtcome := outcome_endsAs y
        rw [hpass] at houtcome
        rw [hcounts, ← hcount]
        exact houtcome
      · exact congrArg (fun q : PlateQueue => q.jobs.filter fun e => decide (e.number ≠ j.number)) hyqueue
      · exact if_neg hnot

end Sys2Proof.Machine
end

section
/-! The reports of the motion line (R135, R201). -/
namespace Sys2Proof.Machine
open Sys2Proof

/-! ### A record of the line, byte by byte (R201) -/

theorem assemble_joins {s : State} {b : RxByte} {bytes : List Byte} (h : s.motion.rxBytes = bytes) (hstart : bytes = [] → b.byte = 197#8)
    (hlen : bytes.length < 9) :
    takeByte s b = { s with motion.rxBytes := bytes ++ [b.byte], motion.rxError := s.motion.rxError || b.framingError } := by
  have hnot : ¬ (s.motion.rxBytes = [] ∧ b.byte ≠ 197#8) := fun hc => hc.2 (hstart (h.symm.trans hc.1))
  unfold takeByte assemble
  rw [if_neg hnot]
  dsimp only
  rw [h, if_pos (by rw [List.length_append, List.length_singleton]; omega)]

/-- The bytes of a record that is not whole wait. -/
theorem takeBytes_joins (rx : List RxByte) {s : State} {bytes : List Byte} (h : s.motion.rxBytes = bytes)
    (hstart : bytes = [] → ∀ b, rx.head? = some b → b.byte = 197#8) (hlen : bytes.length + rx.length ≤ 9) :
    rx.foldl takeByte s = { s with
      motion.rxBytes := bytes ++ rx.map RxByte.byte, motion.rxError := s.motion.rxError || rx.any RxByte.framingError } := by
  induction rx generalizing s bytes with
  | nil =>
    rw [List.foldl_nil, List.map_nil, List.append_nil, List.any_nil, Bool.or_false, ← h]
  | cons b rx ih =>
    rw [List.length_cons] at hlen
    rw [List.foldl_cons, assemble_joins h (fun he => hstart he b rfl) (by omega),
      ih (bytes := bytes ++ [b.byte]) rfl (fun he => absurd he (by simp)) (by rw [List.length_append, List.length_singleton]; omega)]
    dsimp only
    rw [List.map_cons, List.any_cons, List.append_assoc, Bool.or_assoc]
    rfl

/-- A whole record is taken, none being assembled before it or after it. -/
theorem exec_motionReport {s : State} {rx : List RxByte} (hrx : s.motion.rxBytes = []) (herr : s.motion.rxError = false) (hlen : rx.length = 10)
    (hstart : (rx.map RxByte.byte)[0]? = some 197#8) : exec (.motionReport rx) s = .next
      ((admitRecord (rx.map RxByte.byte) (rx.any RxByte.framingError)).elim (discardReport s) fun r => takeReport r.1 r.2 s) := by
  obtain ⟨first, last, rfl⟩ : ∃ first last, rx = first ++ [last] :=
    ⟨rx.dropLast, rx.getLast (by intro h; rw [h] at hlen; exact nomatch hlen), (List.dropLast_append_getLast _).symm⟩
  have hnine : first.length = 9 := by simpa using hlen
  have hhead (b : RxByte) (hb : first.head? = some b) : b.byte = 197#8 := by
    cases first with
    | nil => exact nomatch hb
    | cons a more =>
      obtain rfl := Option.some.inj hb
      exact Option.some.inj hstart
  change Host.Outcome.next (List.foldl takeByte s (first ++ [last])) = _
  rw [List.foldl_append, takeBytes_joins first hrx (fun _ => hhead) (by rw [hnine]; decide)]
  rw [List.foldl_cons, List.foldl_nil, herr, List.nil_append, Bool.false_or, takeByte]
  have hne : first.map RxByte.byte ≠ [] := fun h => by simp [List.map_eq_nil_iff] at h; rw [h] at hnine; exact nomatch hnine
  unfold assemble
  rw [if_neg (fun h => hne h.1)]
  dsimp only
  rw [if_neg (by rw [List.length_append, List.length_map, hnine, List.length_singleton]; decide)]
  dsimp only
  have hsame : { s with motion.rxBytes := [], motion.rxError := false } = s := by rw [← hrx, ← herr]
  rw [hsame, List.map_append, List.any_append, List.map_cons, List.map_nil, List.any_cons, List.any_nil, Bool.or_false]
  cases admitRecord (first.map RxByte.byte ++ [last.byte]) (first.any RxByte.framingError || last.framingError) <;> rfl

/-- A report's record is admitted as what it says. -/
theorem exec_report {s : State} {code number : Nat} {kind : ReportKind} (hrx : s.motion.rxBytes = []) (herr : s.motion.rxError = false)
    (hn : number < 256) (hcode : (code, kind) ∈ [(17, ReportKind.done), (18, .empty), (19, .halted), (20, .stopped)]) :
    exec (.motionReport (reportBytes code number)) s = .next (takeReport kind number s) := by
  have hbytes : (reportBytes code number).map RxByte.byte = motionRecord code number 0 0 := by
    rw [reportBytes, List.map_map]
    exact List.map_id _
  have hnumber : (BitVec.ofNat 8 number).toNat = number := by
    rw [BitVec.toNat_ofNat]
    exact Nat.mod_eq_of_lt hn
  rw [exec_motionReport hrx herr rfl (by rw [hbytes]; rfl), hbytes]
  have hadmit : admitRecord (motionRecord code number 0 0) ((reportBytes code number).any RxByte.framingError) = some (kind, number) := by
    unfold admitRecord
    rw [if_pos ⟨rfl, rfl⟩]
    have hof : reportOfCode (BitVec.ofNat 8 code).toNat = some kind := by
      simp only [List.mem_cons, Prod.mk.injEq, List.not_mem_nil, or_false] at hcode
      rcases hcode with ⟨rfl, rfl⟩ | ⟨rfl, rfl⟩ | ⟨rfl, rfl⟩ | ⟨rfl, rfl⟩ <;> rfl
    change (reportOfCode (BitVec.ofNat 8 code).toNat).map (fun k => (k, (BitVec.ofNat 8 number).toNat)) = _
    rw [hof, hnumber, Option.map_some]
  rw [hadmit, Option.elim_some]

/-! ### What a report matches (R135) -/

/-- The state once a report is noted as the last one. -/
def State.reported (s : State) (kind : ReportKind) (number : Nat) (matched : Bool) : State :=
  { s with motion.last := some ⟨kind, number, s.time.count, matched⟩ }

theorem takeReport_eq {s : State} {kind : ReportKind} {number : Nat} {effect : ReportEffect} (h : matchReport kind number s = effect)
    (hne : effect ≠ .nothing) : noteReport kind number s = s.reported kind number true := by
  unfold noteReport
  rw [h, decide_eq_true hne]
  rfl

theorem matchReport_order {s : State} {o : Order} (ho : s.motion.order = some o) (hlive : o.awaitingReissue = false) :
    matchReport .done o.number s = .orderDone ∧ (o.kind = .load → matchReport .empty o.number s = .orderEmpty)
      ∧ matchReport .halted o.number s = .orderHalted := by
  have hfound : s.liveOrder.filter (fun p => decide (p.number = o.number)) = some o := by
    rw [State.liveOrder, ho]
    simp [Option.filter, hlive]
  unfold matchReport
  rw [hfound]
  exact ⟨rfl, fun h => by simp only [h, if_true], rfl⟩

/-- A report that ends the outstanding order. -/
theorem takeReport_order {s : State} {o : Order} (ho : s.motion.order = some o) (hlive : o.awaitingReissue = false) :
    takeReport .done o.number s = orderDone o (s.reported .done o.number true)
      ∧ (o.kind = .load → takeReport .empty o.number s = loadEmpty (endOrder o (s.reported .empty o.number true)))
      ∧ takeReport .halted o.number s
        = motionFatal .positionerHalt o.requester { s.reported .halted o.number true with motion.order := none } := by
  obtain ⟨hdone, hempty, hhalted⟩ := matchReport_order ho hlive
  unfold takeReport
  dsimp only
  refine ⟨?_, fun hload => ?_, ?_⟩
  · rw [takeReport_eq hdone nofun, hdone, State.reported, ho]
  · rw [takeReport_eq (hempty hload) nofun, hempty hload, State.reported, ho]
  · rw [takeReport_eq hhalted nofun, hhalted, State.reported, ho]

end Sys2Proof.Machine
end

section
/-! The fatal actions of the pass (R44, R46, R139): the plate left where it is, or the job ended. -/
namespace Sys2Proof.Machine
open Sys2Proof

/-! ### STOP, once it is outstanding -/

/-- A STOP outstanding, and no order, leave nothing to do for another STOP. -/
theorem Motion.stopping_of_stopped {m : Motion} {st : StopOrder} (ho : m.order = none) (hw : m.waiting = none) (hs : m.stop = some st)
    (hr : st.reissue = false) (limit now : Nat) : m.stopping limit now = m := by
  obtain ⟨nextNumber, order, stop, unsure, position, expect, discarded, last, homeRequest, waiting, rest⟩ := m
  obtain ⟨number, stLimit, issuedAt, reissue⟩ := st
  obtain rfl : order = none := ho
  obtain rfl : waiting = none := hw
  obtain rfl : stop = some ⟨number, stLimit, issuedAt, reissue⟩ := hs
  obtain rfl : reissue = false := hr
  rfl

/-- The motion port once a fatal action has sent STOP. -/
def Motion.fatal (m : Motion) (limit now : Nat) : Motion := { m.stopping limit now with expect := .none }

theorem darkenAndStop_eq (s : State) : darkenAndStop s = { s with
    lamps := s.lamps.dark, intake := (darkenAndStop s).intake, motion := s.motion.fatal s.params.moveLimit s.now } := by
  unfold darkenAndStop
  rw [sendStop_stopping, cutExposure_eq]
  rfl

/-! ### The pass's part (R44) -/

/-- The pass once a fatal action has left the plate where it is, HALTED or FINISHING. -/
def Pass.leaving (p : Pass) : Pass :=
  { p with
    state := if p.state = PassState.halted then PassState.halted else PassState.finishing
    step := if p.state = PassState.halted then p.step else PassStep.none
    plate := .left, mark := some .failed, budget := p.budget.stop }

/-- The pass once the walk of the plate left is closed and no tile of it is in hand. -/
def Pass.abandoned (p : Pass) (total : Nat) : Pass := (p.leaving.closed total).cleared

/-- The pass once a fatal action has marked its job, its plate not on the table. -/
def Pass.failed (p : Pass) : Pass := { p with mark := some .failed, budget := p.budget.stop }

theorem enterFinishing_eq (s : State) : enterFinishing s = { s with
    pass := { s.pass with
      state := if s.pass.state = PassState.halted then PassState.halted else .finishing
      step := if s.pass.state = PassState.halted then s.pass.step else PassStep.none } } := by
  unfold enterFinishing
  split
  · next h => rw [if_pos h, if_pos h, ← h]
  · next h => rw [if_neg h, if_neg h]

/-- A fatal action with no job in hand. -/
theorem fatalLeave_idle {s : State} (hj : s.pass.job = none) : fatalLeave s = darkenAndStop s := by rw [fatalLeave, hj]

/-- A fatal action before the plate is on the table. -/
theorem fatalLeave_early {s : State} {j : JobInHand} (hj : s.pass.job = some j)
    (hstate : s.pass.state ∈ [PassState.preparing, .loading] ∨ s.pass.state = .halted ∧ s.pass.plate = .notLoaded) : ∃ i : Intake,
      fatalLeave s = jobEndCheck { s with
        pass := s.pass.failed, lamps := s.lamps.dark, intake := i, motion := s.motion.fatal s.params.moveLimit s.now } := by
  refine ⟨(darkenAndStop (stopBudget (setMark .failed s))).intake, ?_⟩
  have hmarked : darkenAndStop (stopBudget (setMark .failed s)) = { s with
      pass := s.pass.failed, lamps := s.lamps.dark, intake := (darkenAndStop (stopBudget (setMark .failed s))).intake
      motion := s.motion.fatal s.params.moveLimit s.now } := darkenAndStop_eq _
  unfold fatalLeave
  rw [hj]
  dsimp only
  generalize (darkenAndStop (stopBudget (setMark .failed s))).intake = i at hmarked
  rw [hmarked]
  unfold Pass.failed
  dsimp only
  rcases hstate with h | ⟨h, hp⟩
  · rcases List.mem_cons.mp h with h | h
    · rw [h]
    · rw [List.mem_singleton.mp h]
  · rw [h, hp]

/-- A fatal action with the plate on the table, or left already: the walk is closed, and a tile in MOVING recorded. -/
theorem fatalLeave_left {s : State} {j : JobInHand} (hj : s.pass.job = some j)
    (hstate : s.pass.state ∈ [PassState.walking, .paused, .returning, .halted]) (hplate : s.pass.plate = .onTable ∨ s.pass.plate = .left)
    (hl : s.ladder = none) (ht : ∀ t, s.pass.tile = some t → t.phase = .moving) : ∃ (i : Intake) (n : Notes), s.link.PostsTo n.link
      ∧ fatalLeave s = jobEndCheck ({ s with
          pass := s.pass.abandoned j.record.tiles, lamps := s.lamps.dark, intake := i, merge := s.pass.freed s.merge
          motion := s.motion.fatal s.params.moveLimit s.now }.noted n) := by
  obtain ⟨i, hi⟩ : ∃ i, i = (darkenAndStop (stopBudget (setMark .failed s))).intake := ⟨_, rfl⟩
  have hmarked : darkenAndStop (stopBudget (setMark .failed s)) = { s with
      pass := s.pass.failed, lamps := s.lamps.dark, intake := i, motion := s.motion.fatal s.params.moveLimit s.now } :=
    hi ▸ darkenAndStop_eq _
  obtain ⟨b, hb⟩ : ∃ b : State, b = { s with
      pass := { s.pass.failed with plate := .left }, lamps := s.lamps.dark, intake := i
      motion := s.motion.fatal s.params.moveLimit s.now } := ⟨_, rfl⟩
  have hleft : leavePlate { s with
      pass := s.pass.failed, lamps := s.lamps.dark, intake := i, motion := s.motion.fatal s.params.moveLimit s.now } = b := by
    rw [hb]
    unfold leavePlate Pass.failed
    dsimp only
    rcases hplate with hp | hp
    · rw [hp]
    · rw [hp]
  have hshape : fatalLeave s = settle .inPlace (enterFinishing (stopLadder .fatal (closeWalk b))) := by
    unfold fatalLeave
    rw [hj]
    dsimp only
    rw [hmarked, ← hleft]
    unfold Pass.failed
    dsimp only
    rcases hplate with hp | hp <;> simp only [List.mem_cons, List.not_mem_nil, or_false] at hstate <;>
      rcases hstate with h | h | h | h <;> rw [h, hp]
  obtain ⟨n, hposts, hclosed⟩ := closeWalk_notes (s := b) (j := j) (by rw [hb]; exact hj) (by rw [hb]; exact nofun)
  have hstopped : enterFinishing (stopLadder .fatal (closeWalk b)) = { s with
      pass := s.pass.leaving.closed j.record.tiles
      lamps := s.lamps.dark, intake := i, motion := s.motion.fatal s.params.moveLimit s.now }.noted n := by
    rw [hclosed, hb, stopLadder_of_none (by exact hl), enterFinishing_eq]
    rfl
  have hlink : s.link.PostsTo n.link := by
    rw [hb] at hposts
    exact hposts
  rw [hshape, hstopped]
  cases htile : s.pass.tile with
  | none =>
    refine ⟨i, n, hlink, ?_⟩
    have hsettle (u : State) (hu : u.pass.tile = none) : settle .inPlace u = jobEndCheck u := by
      rw [settle, hu]
      rfl
    rw [hsettle _ (by exact htile), Pass.abandoned, Pass.cleared_of_none (by exact htile), Pass.freed, htile]
    rfl
  | some t =>
    obtain ⟨u, hu⟩ : ∃ u : State, u = { s with
      pass := s.pass.leaving.closed j.record.tiles
      lamps := s.lamps.dark, intake := i, motion := s.motion.fatal s.params.moveLimit s.now }.noted n := ⟨_, rfl⟩
    rw [← hu]
    have hutile : u.pass.tile = some t := by rw [hu]; exact htile
    have hmoving := ht t htile
    obtain ⟨n', hposts', -, -, hrec⟩ := recordTile_notes (s := u) (j := j) (by rw [hu]; exact hj) hutile
    rw [settle_recorded hutile (by rw [hmoving]; nofun) fun _ => .inr rfl, hrec]
    refine ⟨i, n', ?_, ?_⟩
    · rw [hu] at hposts'
      exact hlink.trans hposts'
    · rw [hu, Pass.abandoned, Pass.cleared_of_tile (by exact fun h => nomatch htile.symm.trans h), Pass.freed, htile, ← hl]
      rfl

/-- A job whose plate is on its way ends where a fatal action meets it. -/
theorem fatalLeave_early_ends {s : State} {j : JobInHand} (hj : s.pass.job = some j)
    (hstate : s.pass.state ∈ [PassState.preparing, .loading] ∨ s.pass.state = .halted) (hplate : s.pass.plate = .notLoaded)
    (ht : s.pass.tile = none) (hh : s.pass.handedOver = 0) : ∃ i : Intake, fatalLeave s = endJob false { s with
        pass := s.pass.failed, lamps := s.lamps.dark, intake := i, motion := s.motion.fatal s.params.moveLimit s.now } := by
  obtain ⟨i, hi⟩ := fatalLeave_early hj (hstate.imp_right fun h => ⟨h, hplate⟩)
  refine ⟨i, hi.trans (jobEndCheck_ends (by exact fun h => nomatch hj.symm.trans h) ht hh (passOrder_of_none rfl) ?_)⟩
  unfold State.plateLetsEnd Pass.failed
  dsimp only
  rw [hplate]
  rcases hstate with h | h
  · rcases List.mem_cons.mp h with h | h
    · rw [h]; rfl
    · rw [List.mem_singleton.mp h]; rfl
  · rw [h]; rfl

/-- What a fatal action makes of a plate on the table, or left already. -/
theorem fatalLeave_left_ends {s : State} {j : JobInHand} (hj : s.pass.job = some j)
    (hstate : s.pass.state ∈ [PassState.walking, .paused, .returning, .halted]) (hplate : s.pass.plate = .onTable ∨ s.pass.plate = .left)
    (hl : s.ladder = none) (ht : ∀ t, s.pass.tile = some t → t.phase = .moving) : ∃ (i : Intake) (n : Notes) (y : State),
      s.link.PostsTo n.link
      ∧ y = { s with
          pass := s.pass.abandoned j.record.tiles, lamps := s.lamps.dark, intake := i, merge := s.pass.freed s.merge
          motion := s.motion.fatal s.params.moveLimit s.now }.noted n
      ∧ (s.pass.handedOver ≠ 0 → fatalLeave s = y) ∧ (s.pass.handedOver = 0 → fatalLeave s = endJob false y) := by
  obtain ⟨i, n, hposts, hleaves⟩ := fatalLeave_left hj hstate hplate hl ht
  refine ⟨i, n, _, hposts, rfl, fun hh => hleaves.trans (jobEndCheck_stays (.inr (.inr (.inl hh)))), fun hh =>
    hleaves.trans (jobEndCheck_ends (by exact fun h => nomatch hj.symm.trans h) rfl hh (passOrder_of_none rfl) ?_)⟩
  have hends : ∀ st : PassState, st = (if s.pass.state = .halted then .halted else .finishing) →
      State.plateLetsEnd ({ s with
        pass := { s.pass.abandoned j.record.tiles with state := st }, lamps := s.lamps.dark, intake := i, merge := s.pass.freed s.merge
        motion := s.motion.fatal s.params.moveLimit s.now }.noted n) = true := by
    rintro st rfl
    split <;> rfl
  exact hends _ rfl

/-! ### A motion fault (R139) -/

/-- The motion port once an order has failed. -/
def Motion.failing (m : Motion) (limit now : Nat) : Motion := { m.stopping limit now with unsure := true, expect := .none }

theorem Motion.stopping_changed (m : Motion) (limit now : Nat) (unsure homeRequest : Bool) (expect : Expectation) :
    ({ m.stopping limit now with unsure := unsure, expect := expect, homeRequest := homeRequest } : Motion).fatal limit now
      = { m.stopping limit now with unsure := unsure, expect := .none, homeRequest := homeRequest } := by
  unfold Motion.fatal
  cases h : m.stop with
  | none => simp [Motion.stopping, h]
  | some st => simp [Motion.stopping, h]

theorem Motion.fatal_failing (m : Motion) (limit now : Nat) : (m.failing limit now).fatal limit now = m.failing limit now :=
  m.stopping_changed limit now true m.homeRequest .none

/-- A motion fault of the pass's order. -/
theorem motionFatal_pass (k : FaultKind) (s : State) : motionFatal k .pass s =
    fatalLeave { takeAhead (raiseFault k s.passCtx s) with
      motion := (takeAhead (raiseFault k s.passCtx s)).motion.failing (takeAhead (raiseFault k s.passCtx s)).params.moveLimit
        (takeAhead (raiseFault k s.passCtx s)).now } := by
  unfold motionFatal
  dsimp only
  rw [sendStop_stopping]
  rfl

/-- A motion fault of another's order is told at once. -/
theorem motionFatal_other (k : FaultKind) (s : State) :
    motionFatal k .calibration s = failCal .motion { raiseFault k (orderContext s .calibration) s with
        motion := s.motion.failing s.params.moveLimit s.now }
      ∧ motionFatal k .homeRequest s = endHome .motion (some k) { raiseFault k (orderContext s .homeRequest) s with
        motion := s.motion.failing s.params.moveLimit s.now } := by
  unfold motionFatal
  dsimp only
  rw [sendStop_stopping, sendStop_stopping]
  exact ⟨rfl, rfl⟩

end Sys2Proof.Machine
end

section
/-! A fatal action that its escalation's halt precedes (R45, R46, R177; log 68). -/
namespace Sys2Proof.Machine
open Sys2Proof

/-! ### A halt met with the plate on the table (R45) -/

/-- A halt with the plate on the table: no tile in hand, one that is held, or one whose settlement has begun, recorded at once. -/
theorem halt_onTable {s : State} {j : JobInHand} (hstate : s.pass.state ≠ .halted) (hj : s.pass.job = some j) (hplate : s.pass.plate = .onTable)
    (hl : s.ladder = none) (ht : ∀ t, s.pass.tile = some t → t.phase = .moving) (k : FaultKind) (injected : Bool) :
    ∃ (p : Pass) (m : Merge) (n : Notes) (c : Option Calibration) (i : Intake),
      (s.link.posted (.halted k injected s.pass.state (s.pass.job.map (·.number)) (s.pass.tile.map fun t => (t.row, t.col)) s.time.count)).PostsTo n.link
      ∧ p.state = .halted ∧ p.job = some j ∧ p.plate = .onTable ∧ (∀ t, p.tile = some t → t.phase = .moving) ∧ p.handedOver = s.pass.handedOver
      ∧ (∀ total, p.abandoned total = s.pass.halting.abandoned total)
      ∧ halt k injected s = { s with
          pass := p, lamps := s.lamps.dark, merge := m, intake := i, cal.cal := c
          motion := { s.motion.stopping s.params.moveLimit s.now with homeRequest := false } }.noted n := by
  obtain ⟨b, hb⟩ : ∃ b, b = haltBegun k injected s := ⟨_, rfl⟩
  have hpass : b.pass = s.pass.halting := hb ▸ haltBegun_pass k injected s
  have hbegun : b = _ := hb.trans (haltBegun_eq k injected s)
  have hladder : b.ladder = none := by rw [hbegun, hl]; rfl
  have hlets (u : State) (hs : u.pass.state = .halted) (hp : u.pass.plate = .onTable) : jobEndCheck u = u :=
    jobEndCheck_stays (.inr (.inr (.inr (.inr (plateLetsEnd_onTable hs hp)))))
  have htile : ∃ (p : Pass) (m : Merge) (n : Notes), b.link.PostsTo n.link ∧ p.state = .halted ∧ p.job = some j ∧ p.plate = .onTable
      ∧ (∀ t, p.tile = some t → t.phase = .moving) ∧ p.handedOver = s.pass.handedOver
      ∧ (∀ total, p.abandoned total = s.pass.halting.abandoned total)
      ∧ haltTile b = { b with pass := p, merge := m }.noted n := by
    cases hcase : s.pass.tile with
    | none =>
      refine ⟨s.pass.halting, b.merge, b.notes, .refl _, rfl, hj, hplate, ht, rfl, fun _ => rfl, ?_⟩
      rw [haltTile_loose (by rw [hpass]; exact hcase), hlets b (by rw [hpass]; rfl) (by rw [hpass]; exact hplate), ← hpass]
      rfl
    | some t =>
      have hphase := ht t hcase
      have hbtile : b.pass.tile = some t := by rw [hpass]; exact hcase
      cases hsettle : s.pass.settle with
      | none =>
        obtain ⟨m, p, -, hheld⟩ := haltTile_held hbtile (by rw [hpass]; exact hsettle)
        refine ⟨{ s.pass.halting with tile := some { t with plane := p }, settle := some .held }, m, b.notes, .refl _, rfl, hj, hplate,
          fun u hu => ?_, rfl, fun total => ?_, ?_⟩
        · obtain rfl := Option.some.inj hu
          exact hphase
        · simp [Pass.abandoned, Pass.cleared, Pass.closed, Pass.leaving, Pass.halting, hcase]
        · rw [hheld, hpass]
          rfl
      | some dest =>
        obtain ⟨n, hposts, -, -, hrec⟩ := recordTile_notes (s := b) (j := j) (by rw [hpass]; exact hj) hbtile
        have hinPlace : haltTile b = jobEndCheck (recordTile b) := by
          have hshape : haltTile b = settle .inPlace b := by
            unfold haltTile
            rw [hbtile, show b.pass.settle = some dest by rw [hpass]; exact hsettle]
          exact hshape.trans (settle_recorded hbtile (by rw [hphase]; nofun) fun _ => .inr rfl)
        refine ⟨s.pass.halting.withoutTile, b.merge.freed t.plane, n, hposts, rfl, hj, hplate, nofun, rfl, fun total => ?_, ?_⟩
        · simp [Pass.abandoned, Pass.cleared, Pass.closed, Pass.leaving, Pass.halting, Pass.withoutTile, RecordCounts.missed, hcase]
          omega
        · rw [hinPlace, hlets _ (by rw [hrec]; exact congrArg Pass.state hpass) (by rw [hrec]; exact (congrArg Pass.plate hpass).trans hplate),
            hrec, hpass, ← hladder]
  obtain ⟨p, m, n, hposts, hhalted, hjob, honTable, hmoving, hhanded, habandoned, hend⟩ := htile
  obtain ⟨c, i, l, hl', -, -, hwhole, -⟩ := halt_ends (t := { b with pass := p, merge := m }.noted n) hstate k injected (by rw [← hb]; exact hend)
  refine ⟨p, m, { n with link := l }, c, i, ?_, hhalted, hjob, honTable, hmoving, hhanded, habandoned, ?_⟩
  · rw [hbegun] at hposts
    exact hposts.trans hl'
  · rw [hwhole, hbegun, hl]
    rfl

/-! ### What the halt leaves of a plate on the table (R46) -/

/-- What a halt that precedes its fault's action leaves, the job's plate on the table. -/
structure State.HaltedAhead (s u : State) (k : FaultKind) (j : JobInHand) : Prop where
  state : u.pass.state = .halted
  job : u.pass.job = some j
  plate : u.pass.plate = .onTable
  ladder : u.ladder = none
  tile : ∀ t, u.pass.tile = some t → t.phase = .moving
  handedOver : u.pass.handedOver = s.pass.handedOver
  abandoned : ∀ total, u.pass.abandoned total = s.pass.halting.abandoned total
  queue : u.queue = s.queue
  lamps : u.lamps = s.lamps.dark
  params : u.params = s.params
  now : u.now = s.now
  raised : u.faults.raised = s.faults.raised
  jobMark : u.faults.jobMark = some (s.faults.jobMark.getD k)
  motion : u.motion = { s.motion.stopping s.params.moveLimit s.now with homeRequest := false }
  line : u.platePresent = s.platePresent
  first : HaltedFirst s u k s.pass.state (some j.number) (s.pass.tile.map fun t => (t.row, t.col))

theorem jobMarkAfter_eq {s : State} (hj : s.pass.job ≠ none) (k : FaultKind) : s.jobMarkAfter k = some (s.faults.jobMark.getD k) := by
  unfold State.jobMarkAfter
  cases h : s.faults.jobMark with
  | none => exact if_pos ⟨hj, rfl⟩
  | some m => exact if_neg fun hc => nomatch hc.2

theorem takeAhead_onTable {s : State} {k : FaultKind} {j : JobInHand} (h : EscalatesFirst s k) (ctx : Ctx) (hstate : s.pass.state ≠ .halted)
    (hj : s.pass.job = some j) (hplate : s.pass.plate = .onTable) (hl : s.ladder = none)
    (ht : ∀ t, s.pass.tile = some t → t.phase = .moving) : s.HaltedAhead (takeAhead (raiseFault k ctx s)) k j := by
  obtain ⟨f, l, htaken, hesc, hahead, hraised, hmark, -, hlen⟩ := takeAhead_escalates h ctx
  obtain ⟨p, m, n, c, i, hposts, hhalted, hjob, honTable, hmoving, hhanded, habandoned, hend⟩ :=
    halt_onTable (s := { s with faults := f, link := l }) hstate hj hplate hl ht k false
  rw [htaken, hend]
  have hjob' : s.pass.job.map (·.number) = some j.number := by rw [hj]; rfl
  refine ⟨hhalted, hjob, honTable, hl, hmoving, hhanded, habandoned, rfl, rfl, rfl, rfl, hraised,
    hmark.trans (jobMarkAfter_eq (fun h => nomatch hj.symm.trans h) k), rfl, rfl, ?_⟩
  rw [← hjob']
  exact haltedFirst_of (l := l) hhalted rfl nofun hesc hahead hlen hposts

/-- The fatal action under HALTED, the plate left: it follows whatever its fault has set of the motion port. -/
theorem State.HaltedAhead.leaves {s u v : State} {k : FaultKind} {j : JobInHand} (h : s.HaltedAhead u k j) {unsure : Bool} {expect : Expectation}
    {plate : PlateState} (hplate : plate = .onTable ∨ plate = .left)
    (hv : v = { u with
      motion := { s.motion.stopping s.params.moveLimit s.now with homeRequest := false, unsure := unsure, expect := expect }
      pass := { u.pass with plate := plate } }) :
    HaltedFirst s (fatalLeave v) k s.pass.state (some j.number) (s.pass.tile.map fun t => (t.row, t.col))
      ∧ (fatalLeave v).motion = { s.motion.stopping s.params.moveLimit s.now with homeRequest := false, unsure := unsure, expect := .none }
      ∧ (fatalLeave v).faults.raised = s.faults.raised ∧ (fatalLeave v).lamps = s.lamps.dark ∧ (fatalLeave v).platePresent = s.platePresent
      ∧ (s.pass.handedOver ≠ 0 → (fatalLeave v).pass = s.pass.halting.abandoned j.record.tiles ∧ (fatalLeave v).queue = s.queue)
      ∧ (s.pass.handedOver = 0 → (fatalLeave v).pass.job = none ∧ (fatalLeave v).pass.tile = none ∧ ∃ e : HistoryEntry,
          (fatalLeave v).queue.history.getLast? = some e ∧ e.number = j.number ∧ e.outcome = .failed
          ∧ e.counts = (s.pass.halting.abandoned j.record.tiles).counts ∧ e.firstFault = some (s.faults.jobMark.getD k)) := by
  obtain ⟨i, n, y, hposts, hy, hstays, hends⟩ := fatalLeave_left_ends (s := v) (j := j) (by rw [hv]; exact h.job)
    (by rw [hv]; change u.pass.state ∈ _; rw [h.state]; decide) (by rw [hv]; exact hplate) (by rw [hv]; exact h.ladder) (by rw [hv]; exact h.tile)
  have hmotion : v.motion.fatal v.params.moveLimit v.now = { s.motion.stopping s.params.moveLimit s.now with
      homeRequest := false, unsure := unsure, expect := .none } := by
    rw [hv, h.params, h.now]
    exact s.motion.stopping_changed s.params.moveLimit s.now unsure false expect
  have hpass : v.pass.abandoned j.record.tiles = s.pass.halting.abandoned j.record.tiles := by
    rw [← h.abandoned j.record.tiles, hv]
    rfl
  have hlamps : v.lamps.dark = s.lamps.dark := by
    rw [hv]
    change u.lamps.dark = _
    rw [h.lamps]
    rfl
  rw [hmotion, hpass, hlamps] at hy
  have hfirst : HaltedFirst s y k s.pass.state (some j.number) (s.pass.tile.map fun t => (t.row, t.col)) := by
    refine h.first.of_leaves (u := y) ?_ ?_ ?_ ?_ ?_ ?_
    · rw [hy]; rfl
    · rw [hy]; rfl
    · rw [hy]; exact nofun
    · rw [hy, hv]; rfl
    · rw [hy, hv]; rfl
    · rw [hy]
      rw [hv] at hposts
      exact hposts.keeps
  have hhanded : v.pass.handedOver = s.pass.handedOver := by rw [hv]; exact h.handedOver
  by_cases hh : s.pass.handedOver = 0
  · have hyjob : y.pass.job = some j := by
      rw [hy]
      change (s.pass.halting.abandoned j.record.tiles).job = _
      rw [← h.abandoned]
      exact h.job
    have hymark : y.faults.jobMark = some (s.faults.jobMark.getD k) := by
      rw [hy, hv]
      exact h.jobMark
    obtain ⟨x, hx, hended, -⟩ := endJob_ends hyjob false
    have hkept : x.fault.faults = { y.faults with jobMark := none } := hx.kept (.inl (by rw [hymark]; nofun))
    rw [hends (hhanded.trans hh)]
    refine ⟨hfirst.endJob hyjob (.inl (by rw [hymark]; nofun)) false, ?_, ?_, ?_, ?_, fun hne => absurd hh hne, fun _ => ?_⟩
    · rw [hended, hy]
      rfl
    · rw [hended]
      exact (congrArg Faults.raised hkept).trans (by rw [hy, hv]; exact h.raised)
    · rw [hended, hy]
      rfl
    · rw [hended, hy, hv]
      exact h.line
    · rw [hended]
      refine ⟨rfl, rfl, _, List.getLast?_concat, rfl, ?_, ?_, hx.marked _ hymark⟩
      · rw [hy]
        rfl
      · rw [hy]
        rfl
  · rw [hstays (hhanded ▸ hh)]
    refine ⟨hfirst, ?_, ?_, ?_, ?_, fun _ => ⟨?_, ?_⟩, fun h0 => absurd h0 hh⟩
    · rw [hy]; rfl
    · rw [hy, hv]; exact h.raised
    · rw [hy]; rfl
    · rw [hy, hv]; exact h.line
    · rw [hy]; rfl
    · rw [hy, hv]; exact h.queue

/-! ### What the halt leaves of a job whose plate is not loaded (R46) -/

/-- The history entry of a job that ended FAILED at `u`, and the first fault of it. -/
def State.FiledFailed (s u : State) (k : FaultKind) (j : JobInHand) : Prop :=
  u.pass.job = none ∧ ∃ e : HistoryEntry, u.queue.history.getLast? = some e ∧ e.number = j.number ∧ e.outcome = .failed
    ∧ e.counts = s.pass.counts ∧ e.firstFault = some (s.faults.jobMark.getD k)

/-- What a halt that precedes its fault's action leaves, the job's plate not loaded: the job as it was, or, where it was FAILED already,
ended. -/
structure State.HaltedEarly (s u : State) (k : FaultKind) (j : JobInHand) : Prop where
  lamps : u.lamps = s.lamps.dark
  params : u.params = s.params
  now : u.now = s.now
  raised : u.faults.raised = s.faults.raised
  motion : ∃ expect, u.motion = { s.motion.stopping s.params.moveLimit s.now with homeRequest := false, expect := expect }
  first : HaltedFirst s u k s.pass.state (some j.number) none
  cases : u.pass = s.pass.halting ∧ u.faults.jobMark = some (s.faults.jobMark.getD k) ∧ u.queue = s.queue
    ∨ s.pass.mark = some .failed ∧ s.FiledFailed u k j

theorem takeAhead_early {s : State} {k : FaultKind} {j : JobInHand} (h : EscalatesFirst s k) (ctx : Ctx) (hstate : s.pass.state ≠ .halted)
    (hj : s.pass.job = some j) (ht : s.pass.tile = none) (hh : s.pass.handedOver = 0) (hplate : s.pass.plate = .notLoaded) :
    s.HaltedEarly (takeAhead (raiseFault k ctx s)) k j := by
  have hnone : s.pass.job ≠ none := fun h => nomatch hj.symm.trans h
  by_cases hmark : s.pass.mark = some .failed
  · obtain ⟨f, l, htaken, hesc, hahead, hraised, hjobMark, -, hlen⟩ := takeAhead_escalates h ctx
    obtain ⟨b, hb⟩ : ∃ b, b = haltBegun k false { s with faults := f, link := l } := ⟨_, rfl⟩
    have hpass : b.pass = s.pass.halting := hb ▸ haltBegun_pass k false _
    have hbegun : b = _ := hb.trans (haltBegun_eq k false _)
    have hends : haltTile b = endJob false b := by
      refine (haltTile_loose (by rw [hpass]; exact ht)).trans (jobEndCheck_ends (by rw [hpass]; exact hnone) (by rw [hpass]; exact ht)
        (by rw [hpass]; exact hh) (passOrder_of_none (by rw [hbegun]; rfl)) ?_)
      rw [plateLetsEnd_halted (by rw [hpass]; rfl), hpass]
      exact decide_eq_true (.inr ⟨hmark, by rw [show s.pass.halting.plate = .notLoaded from hplate]; nofun⟩)
    have hbmark : b.faults.jobMark = some (s.faults.jobMark.getD k) := by
      rw [hbegun]
      exact hjobMark.trans (jobMarkAfter_eq hnone k)
    obtain ⟨x, hx, hended, -⟩ := endJob_ends (s := b) (j := j) (by rw [hpass]; exact hj) false
    have hkept : x.fault.faults = { b.faults with jobMark := none } := hx.kept (.inl (by rw [hbmark]; nofun))
    obtain ⟨c, i, l', hl', -, -, hend, -⟩ := halt_ends (s := { s with faults := f, link := l }) (t := b.ended false j x) hstate k false
      (by rw [← hb]; exact hends.trans hended)
    rw [htaken, hend]
    have hbfaults : b.faults = f := by rw [hbegun]
    have hnotice : (l.posted (.halted k false s.pass.state (some j.number) none s.time.count)).PostsTo l' := by
      have htile : State.tileCtx { s with faults := f, link := l } = none := by
        rw [State.tileCtx]
        exact congrArg (Option.map _) ht
      have hposted : b.link = l.posted (.halted k false s.pass.state (some j.number) none s.time.count) := by
        rw [hbegun]
        dsimp only
        rw [htile, hj]
        rfl
      rw [← hposted]
      exact (Link.PostsTo.posts b.link _).trans hl'
    refine ⟨?_, ?_, ?_, ?_, ⟨.none, ?_⟩, ?_, .inr ⟨hmark, rfl, _, List.getLast?_concat, rfl, ?_, ?_, hx.marked _ hbmark⟩⟩
    · rw [hbegun]; rfl
    · rw [hbegun]; rfl
    · rw [hbegun]; rfl
    · exact (congrArg Faults.raised hkept).trans (by rw [hbfaults]; exact hraised)
    · rw [hbegun]; rfl
    · refine haltedFirst_of (l := l) (if_pos (by rw [hpass]; rfl)) ?_ ?_ ?_ ?_ hlen hnotice
      · rw [hbegun]; rfl
      · rw [hbegun]; exact nofun
      · exact (congrArg Faults.escalations hkept).trans (by rw [hbfaults]; exact hesc)
      · exact (congrArg Faults.ahead hkept).trans (by rw [hbfaults]; exact hahead)
    · have houtcome := outcome_endsAs b
      rw [hpass, show s.pass.halting.mark = some .failed from hmark] at houtcome
      exact houtcome
    · rw [State.entryOf, hpass]
      rfl
  · obtain ⟨f, i, c, l, hstays, hraised, hjobMark, -, -, hfirst⟩ := takeAhead_escalates_stays h ctx hstate ht
      (.inr (.inr (.inr ⟨by rw [hplate]; nofun, hmark⟩)))
    rw [hj] at hfirst
    rw [hstays] at hfirst ⊢
    exact ⟨rfl, rfl, rfl, hraised, ⟨_, rfl⟩, hfirst, .inl ⟨rfl, hjobMark.trans (jobMarkAfter_eq hnone k), rfl⟩⟩

/-- The fatal action under HALTED, the plate not loaded. -/
theorem State.HaltedEarly.leaves {s u v : State} {k : FaultKind} {j : JobInHand} (h : s.HaltedEarly u k j) (hj : s.pass.job = some j)
    (ht : s.pass.tile = none) (hh : s.pass.handedOver = 0) (hplate : s.pass.plate = .notLoaded) {unsure : Bool} {expect : Expectation}
    (hv : v = { u with
      motion := { s.motion.stopping s.params.moveLimit s.now with homeRequest := false, unsure := unsure, expect := expect } }) :
    HaltedFirst s (fatalLeave v) k s.pass.state (some j.number) none
      ∧ (fatalLeave v).motion = { s.motion.stopping s.params.moveLimit s.now with homeRequest := false, unsure := unsure, expect := .none }
      ∧ (fatalLeave v).faults.raised = s.faults.raised ∧ (fatalLeave v).lamps = s.lamps.dark ∧ s.FiledFailed (fatalLeave v) k j := by
  have hmotion : v.motion.fatal v.params.moveLimit v.now = { s.motion.stopping s.params.moveLimit s.now with
      homeRequest := false, unsure := unsure, expect := .none } := by
    rw [hv, h.params, h.now]
    exact s.motion.stopping_changed s.params.moveLimit s.now unsure false expect
  have hlamps : v.lamps.dark = s.lamps.dark := by
    rw [hv]
    change u.lamps.dark = _
    rw [h.lamps]
    rfl
  rcases h.cases with ⟨hpass, hjobMark, hqueue⟩ | ⟨hmark, hfiled⟩
  · have hvpass : v.pass = s.pass.halting := by rw [hv]; exact hpass
    obtain ⟨i, hi⟩ := fatalLeave_early_ends (s := v) (j := j) (by rw [hvpass]; exact hj) (.inr (by rw [hvpass]; rfl)) (by rw [hvpass]; exact hplate)
      (by rw [hvpass]; exact ht) (by rw [hvpass]; exact hh)
    rw [hmotion, hlamps, hvpass] at hi
    obtain ⟨y, hy⟩ : ∃ y : State, y = { v with
        pass := s.pass.halting.failed, lamps := s.lamps.dark, intake := i
        motion := { s.motion.stopping s.params.moveLimit s.now with homeRequest := false, unsure := unsure, expect := .none } } := ⟨_, rfl⟩
    rw [← hy] at hi
    have hyfaults : y.faults = u.faults := by rw [hy, hv]
    have hyjob : y.pass.job = some j := by rw [hy]; exact hj
    have hymark : y.faults.jobMark = some (s.faults.jobMark.getD k) := by rw [hyfaults]; exact hjobMark
    have hfirst : HaltedFirst s y k s.pass.state (some j.number) none := by
      refine h.first.of_leaves (u := y) ?_ ?_ ?_ ?_ ?_ ?_
      · rw [hy]; rfl
      · rw [hy]; rfl
      · rw [hy]; exact nofun
      · rw [hyfaults]
      · rw [hyfaults]
      · rw [hy, hv]
    obtain ⟨x, hx, hended, -⟩ := endJob_ends hyjob false
    have hkept : x.fault.faults = { y.faults with jobMark := none } := hx.kept (.inl (by rw [hymark]; nofun))
    rw [hi]
    refine ⟨hfirst.endJob hyjob (.inl (by rw [hymark]; nofun)) false, ?_, ?_, ?_, ?_⟩
    · rw [hended, hy]; rfl
    · rw [hended]
      exact (congrArg Faults.raised hkept).trans (by rw [hyfaults]; exact h.raised)
    · rw [hended, hy]; rfl
    · rw [hended]
      refine ⟨rfl, _, List.getLast?_concat, rfl, ?_, ?_, hx.marked _ hymark⟩
      · rw [hy]; rfl
      · rw [hy]; rfl
  · obtain ⟨hjob, e, hlast, he⟩ := hfiled
    have hleave : fatalLeave v = { v with
        lamps := s.lamps.dark, intake := (darkenAndStop v).intake
        motion := { s.motion.stopping s.params.moveLimit s.now with homeRequest := false, unsure := unsure, expect := .none } } := by
      rw [fatalLeave_idle (by rw [hv]; exact hjob)]
      exact (darkenAndStop_eq v).trans (by rw [hmotion, hlamps])
    rw [hleave]
    refine ⟨h.first.of_leaves ?_ rfl nofun ?_ ?_ ?_, rfl, ?_, rfl, ?_, e, ?_, he⟩
    · rw [hv]; exact h.first.1
    · rw [hv]
    · rw [hv]
    · rw [hv]
    · rw [hv]; exact h.raised
    · rw [hv]; exact hjob
    · rw [hv]; exact hlast

end Sys2Proof.Machine
end

section
/-! An order that fails (R139), and the limits (R136 to R138); O52. -/
namespace Sys2Proof.Machine
open Sys2Proof

/-! ### What each requester makes of its failed order (R44, R126, R139, R141) -/

/-- The state with the order gone and the report kept that its end brings. -/
def State.orderGone (s : State) (last : Option LastReport) : State := { s with motion.last := last, motion.order := none }

/-- A motion fault of a pass's order that nothing comes before. -/
theorem motionFatal_pass_plain {s : State} (hahead : s.faults.ahead = []) (k : FaultKind) : motionFatal k .pass s =
    fatalLeave { raiseFault k (orderContext s .pass) s with motion := s.motion.failing s.params.moveLimit s.now } := by
  rw [motionFatal_pass, takeAhead_of_none _ (by exact hahead)]
  rfl

theorem Budget.stop_fields (b : Budget) :
    b.stop = { b with state := if b.state ∈ [BudgetState.running, .suspended] then .stopped else b.state } := by
  unfold Budget.stop
  by_cases h : b.state = .running ∨ b.state = .suspended
  · rw [if_pos h, if_pos (by simpa using h)]
  · rw [if_neg h, if_neg (by simpa using h)]

theorem Budget.stop_stop (b : Budget) : b.stop.stop = b.stop :=
  if_neg fun h => b.stop_state (by simpa using h)

/-- The pass that a fatal action leaves, field by field. -/
theorem Pass.abandoned_eq {p : Pass} {total : Nat} {counts : RecordCounts} (hcounts : counts = { p.counts with
      notCaptured := p.counts.notCaptured + (total - p.walkPos) + (if p.tile = none then 0 else 1) }) : p.abandoned total = { p with
    state := if p.state = PassState.halted then PassState.halted else PassState.finishing
    step := if p.state = PassState.halted then p.step else PassStep.none
    plate := .left, mark := some .failed, tile := none, walkPos := total, settle := if p.tile = none then p.settle else none
    counts := counts
    budget := { p.budget with state := if p.budget.state ∈ [BudgetState.running, .suspended] then .stopped else p.budget.state } } := by
  unfold Pass.abandoned Pass.cleared Pass.closed Pass.leaving
  rw [hcounts, Budget.stop_fields]
  dsimp only
  by_cases ht : p.tile = none
  · simp only [if_pos ht, RecordCounts.missed, Nat.add_zero]
  · simp only [if_neg ht, RecordCounts.missed]

theorem walks_of_under_way {p : PassState} (h : p ∈ [PassState.walking, .returning]) :
    p ∈ [PassState.walking, .paused, .returning, .halted] := by
  simp only [List.mem_cons, List.not_mem_nil, or_false] at h ⊢
  exact h.imp_right fun h => .inr (.inl h)

/-- The motion port where an order fails after a halt. -/
theorem Motion.failing_halted (m : Motion) (limit now : Nat) (expect : Expectation) :
    ({ m.stopping limit now with homeRequest := false, expect := expect } : Motion).failing limit now
      = { m.stopping limit now with homeRequest := false, unsure := true, expect := .none } :=
  congrArg (fun x : Motion => { x with unsure := true }) (m.stopping_changed limit now m.unsure false expect)

theorem orderFails_of {c : Instr} {s : State} {last : Option LastReport} {o : Order} {k : FaultKind}
    (hexec : exec c s = .next (motionFatal k o.requester (s.orderGone last))) (hstop : s.motion.stop = none) : OrderFails c s last o k := by
  intro motion hmotion
  have hfailing : (s.orderGone last).motion.failing (s.orderGone last).params.moveLimit (s.orderGone last).now = motion := by
    rw [hmotion, Motion.failing, Motion.stopping_of_none (by exact hstop)]
    rfl
  refine ⟨fun cal hreq hcal hnone h1 h2 => ?cal, fun hreq hhome => ?home, fun j hreq hj hahead => ⟨fun hstate ht hh hplate => ?early,
    fun total counts hstate hplate hl ht htotal hw hcounts => ?left⟩, fun j hreq hj hesc => ⟨fun hstate ht hh hplate => ?earlyHalted,
      fun total counts hstate hplate hl ht htotal hw hcounts => ?leftHalted⟩⟩
  case cal =>
    rw [hreq, (motionFatal_other k _).1, hfailing] at hexec
    have hslots (i : SlotId) : s.slot i = none := by cases i <;> assumption
    refine ⟨_, hexec.trans (congrArg _ (failCal_of_free (c := cal) (by exact hcal) hnone (fun i => ?_) _)), rfl, rfl, ?_, rfl, rfl, rfl, rfl⟩
    · rw [← hslots i]
      cases i <;> rfl
    · rw [hreq]
      rfl
  case home =>
    rw [hreq, (motionFatal_other k _).2, hfailing] at hexec
    have hends : endHome .motion (some k) { raiseFault k (orderContext (s.orderGone last) .homeRequest) (s.orderGone last) with motion := motion }
        = { raiseFault k ⟨none, none, none, none⟩ s with
            motion := { motion with homeRequest := false }, link := s.link.posted (.homeDone .motion (some k) true s.time.count) } := by
      unfold endHome
      rw [if_pos (by rw [hmotion]; exact hhome), postNotice_eq]
      rw [hmotion]
      rfl
    exact ⟨_, hexec.trans (congrArg _ hends), rfl, rfl, rfl, rfl⟩
  case early =>
    rw [hreq, motionFatal_pass_plain (by exact hahead), hfailing] at hexec
    obtain ⟨i, hi⟩ := fatalLeave_early_ends
      (s := { raiseFault k (orderContext (s.orderGone last) .pass) (s.orderGone last) with motion := motion }) (j := j) hj (.inl hstate) hplate ht hh
    have hfatal : motion.fatal s.params.moveLimit s.now = motion := by
      rw [← hfailing]
      exact Motion.fatal_failing _ _ _
    obtain ⟨y, hy⟩ : ∃ y : State, y = { raiseFault k (orderContext (s.orderGone last) .pass) (s.orderGone last) with
        pass := s.pass.failed, lamps := s.lamps.dark, intake := i, motion := motion } := ⟨_, rfl⟩
    have hleaves : fatalLeave { raiseFault k (orderContext (s.orderGone last) .pass) (s.orderGone last) with motion := motion }
        = endJob false y := by
      rw [hi, hy]
      exact congrArg (fun m => endJob false { raiseFault k (orderContext (s.orderGone last) .pass) (s.orderGone last) with
        pass := s.pass.failed, lamps := s.lamps.dark, intake := i, motion := m }) hfatal
    obtain ⟨x, hx, hended, -⟩ := endJob_ends (s := y) (j := j) (by rw [hy]; exact hj) false
    have hfirst := hx.first
    have houtcome := outcome_endsAs y
    rw [hy] at hfirst houtcome
    refine ⟨_, _, hexec.trans (congrArg _ (hleaves.trans hended)), List.getLast?_concat, rfl, ?_, ?_, ?_, ?_, rfl⟩
    · rw [hy]; exact houtcome
    · rw [hreq]; exact hfirst
    · rw [hy, hmotion]; rfl
    · refine if_neg ?_
      rw [hy]
      exact fun h => by rw [show s.pass.state = .halted from h] at hstate; simp at hstate
  case left =>
    rw [hreq, motionFatal_pass_plain (by exact hahead), hfailing] at hexec
    have hnot : s.pass.state ≠ .halted := fun h => by rw [h] at hstate; simp at hstate
    obtain ⟨v, hv⟩ : ∃ v, v = { raiseFault k (orderContext (s.orderGone last) .pass) (s.orderGone last) with motion := motion } := ⟨_, rfl⟩
    rw [← hv] at hexec
    obtain ⟨i, n, y, -, hy, hstays, hends⟩ := fatalLeave_left_ends (s := v) (j := j) (by rw [hv]; exact hj)
      (by rw [hv]; exact walks_of_under_way hstate) (by rw [hv]; exact .inl hplate)
      (by rw [hv]; exact hl) (fun t h => (ht t (by rw [hv] at h; exact h)).1)
    have hfatal : v.motion.fatal v.params.moveLimit v.now = motion := by
      rw [hv, ← hfailing]
      exact Motion.fatal_failing _ _ _
    have hfreed : v.pass.freed v.merge = s.merge := by
      rw [hv, Pass.freed]
      cases htile : s.pass.tile with
      | none => exact congrArg (fun t : Option Tile => s.merge.freed (t.bind fun t => t.plane)) htile
      | some t =>
        refine (congrArg (fun t : Option Tile => s.merge.freed (t.bind fun t => t.plane)) htile).trans ?_
        exact congrArg s.merge.freed (ht t htile).2
    have hpass : v.pass.abandoned j.record.tiles = { s.pass with
        state := .finishing, plate := .left, mark := some .failed, step := .none, tile := none, walkPos := total
        settle := if s.pass.tile = none then s.pass.settle else none, counts := counts
        budget := { s.pass.budget with
          state := if s.pass.budget.state ∈ [BudgetState.running, .suspended] then .stopped else s.pass.budget.state } } := by
      rw [hv, tiles_eq, ← htotal]
      refine (Pass.abandoned_eq (p := s.pass) hcounts).trans ?_
      rw [if_neg hnot, if_neg hnot]
    rw [hfatal, hfreed, hpass] at hy
    refine ⟨fun hh => ⟨y, hexec.trans (congrArg _ (hstays (by rw [hv]; exact hh))), ?_, ?_, ?_, ?_, ?_, ?_, ?_, ?_⟩, fun hh => ?_⟩
    · rw [hy]; rfl
    · rw [hy]; rfl
    · rw [hy, hv, hreq]; rfl
    · rw [hy, hv]; rfl
    · rw [hy, hv]; rfl
    · rw [hy]; rfl
    · rw [hy, hv]; rfl
    · rw [hy, hv]; rfl
    · obtain ⟨x, hx, hended, -⟩ := endJob_ends (s := y) (j := j) (by rw [hy]; exact hj) false
      have hfirst := hx.first
      have houtcome := outcome_endsAs y
      rw [hy, hv] at hfirst
      rw [hy] at houtcome
      refine ⟨_, _, hexec.trans (congrArg _ ((hends (by rw [hv]; exact hh)).trans hended)), List.getLast?_concat, rfl, ?_, ?_, ?_, ?_, ?_,
        rfl, rfl⟩
      · rw [hy]; exact houtcome
      · rw [hy]; rfl
      · rw [hreq]; exact hfirst
      · rw [hy, hmotion]; rfl
      · rw [hy]; rfl
  case earlyHalted =>
    have hnot : s.pass.state ≠ .halted := fun h => by rw [h] at hstate; simp at hstate
    have hstopping : { (s.orderGone last).motion.stopping (s.orderGone last).params.moveLimit (s.orderGone last).now with
        homeRequest := false, unsure := true, expect := .none } = { motion with homeRequest := false } :=
      congrArg (fun m : Motion => { m with homeRequest := false }) hfailing
    rw [hreq, motionFatal_pass] at hexec
    have hearly := takeAhead_early (s := s.orderGone last) (j := j) hesc (State.passCtx (s.orderGone last)) hnot hj ht hh hplate
    generalize takeAhead (raiseFault k (State.passCtx (s.orderGone last)) (s.orderGone last)) = u at hearly hexec
    obtain ⟨expect, hm⟩ := hearly.motion
    rw [hm, hearly.params, hearly.now, Motion.failing_halted] at hexec
    obtain ⟨hfirst, hmot, hraised, -, hjob, e, hlast, hnumber, houtcome, -, hkind⟩ := hearly.leaves hj ht hh hplate rfl
    exact ⟨_, e, hexec, hfirst, hlast, hnumber, houtcome, hkind, hraised, hmot.trans hstopping, hjob⟩
  case leftHalted =>
    have hnot : s.pass.state ≠ .halted := fun h => by rw [h] at hstate; simp at hstate
    have hstopping : { (s.orderGone last).motion.stopping (s.orderGone last).params.moveLimit (s.orderGone last).now with
        homeRequest := false, unsure := true, expect := .none } = { motion with homeRequest := false } :=
      congrArg (fun m : Motion => { m with homeRequest := false }) hfailing
    rw [hreq, motionFatal_pass] at hexec
    have hahead := takeAhead_onTable (s := s.orderGone last) (j := j) hesc (State.passCtx (s.orderGone last)) hnot hj hplate hl
      fun t h => (ht t h).1
    generalize takeAhead (raiseFault k (State.passCtx (s.orderGone last)) (s.orderGone last)) = u at hahead hexec
    have hmotion' : u.motion.failing u.params.moveLimit u.now = { (s.orderGone last).motion.stopping (s.orderGone last).params.moveLimit (s.orderGone last).now with
        homeRequest := false, unsure := true, expect := .none } := by
      rw [hahead.motion, hahead.params, hahead.now]
      exact Motion.failing_halted _ _ _ (s.orderGone last).motion.expect
    rw [hmotion'] at hexec
    obtain ⟨hfirst, hmot, hraised, hlamps, -, hstays, hends⟩ := hahead.leaves (plate := u.pass.plate) (expect := .none) (.inl hahead.plate) rfl
    have hpass : s.pass.halting.abandoned j.record.tiles = { s.pass with
        state := .halted, plate := .left, mark := some .failed, step := .none, tile := none, walkPos := total
        settle := if s.pass.tile = none then s.pass.settle else none, counts := counts
        pausePending := false, cancelPending := false, resumePoint := none
        budget := { s.pass.budget with
          state := if s.pass.budget.state ∈ [BudgetState.running, .suspended] then .stopped else s.pass.budget.state } } := by
      rw [tiles_eq, ← htotal, ← Budget.stop_fields]
      refine (Pass.abandoned_eq (p := s.pass.halting) hcounts).trans ?_
      rw [← Budget.stop_fields, show s.pass.halting.budget = s.pass.budget.stop from rfl, Budget.stop_stop]
      rfl
    refine ⟨_, hexec, hfirst, hmot.trans hstopping, hraised, hlamps, fun hh => ⟨(hstays hh).1.trans hpass, (hstays hh).2⟩, fun hh => ?_⟩
    obtain ⟨hjob, htile, e, hlast, hnumber, houtcome, hcounts', hkind⟩ := hends hh
    exact ⟨hjob, htile, e, hlast, hnumber, houtcome, hcounts'.trans (congrArg Pass.counts hpass), hkind⟩

/-! ### The limits (R136 to R138) -/

theorem limitPassed_iff (limit issuedAt now : Nat) : limitPassed limit issuedAt now = true ↔ issuedAt + limit * 1000000 ≤ now :=
  decide_eq_true_iff

/-- Without a live order past its limit nothing expires. -/
theorem exec_limits_stay {s : State} (h : ∀ o, s.motion.order = some o → s.now < o.issuedAt + o.limit * 1000000) :
    exec .moveLimitExpiry s = .next s ∧ exec .handlerLimitExpiry s = .next s := by
  change execMoveLimitExpiry s = _ ∧ execHandlerLimitExpiry s = _
  unfold execMoveLimitExpiry execHandlerLimitExpiry
  cases hlive : s.liveOrder with
  | none => exact ⟨rfl, rfl⟩
  | some o =>
    have ho : s.motion.order = some o := by
      rw [State.liveOrder, Option.filter_eq_some_iff] at hlive
      exact hlive.1
    have hnot : ¬ limitPassed o.limit o.issuedAt s.now = true := fun hp => by
      have := (limitPassed_iff _ _ _).mp hp
      have := h o ho
      omega
    exact ⟨if_neg fun hc => hnot hc.2, if_neg fun hc => hnot hc.2⟩

/-- A live order past its limit. -/
theorem exec_limits {s : State} {o : Order} (ho : s.motion.order = some o) (hlive : o.awaitingReissue = false)
    (hpast : o.issuedAt + o.limit * 1000000 ≤ s.now) :
    (o.kind = .move ∨ o.kind = .home → exec .moveLimitExpiry s = .next
      (if o.retried then motionFatal .moveTimeout o.requester { s with motion.order := none }
        else retryStop (addCounter .moveRetries 1 (raiseFault .moveRetry (s.requesterCtx o.requester) s))))
    ∧ (o.kind = .load ∨ o.kind = .ret → exec .handlerLimitExpiry s
        = .next (motionFatal .handlerTimeout o.requester { s with motion.order := none })) := by
  have hfound : s.liveOrder = some o := by
    rw [State.liveOrder, ho]
    simp [Option.filter, hlive]
  have hpassed := (limitPassed_iff o.limit o.issuedAt s.now).mpr hpast
  refine ⟨fun hk => ?_, fun hk => ?_⟩
  · change execMoveLimitExpiry s = _
    rw [execMoveLimitExpiry, hfound]
    dsimp only
    rw [if_pos ⟨hk, hpassed⟩]
    cases o.retried <;> rfl
  · change execHandlerLimitExpiry s = _
    rw [execHandlerLimitExpiry, hfound]
    exact if_pos ⟨hk, hpassed⟩

/-- A STOP that has run out, or not yet. -/
theorem exec_stopLimit {s : State} {st : StopOrder} (h : s.motion.stop = some st) :
    (s.now < st.issuedAt + st.limit * 1000000 → exec .stopLimitExpiry s = .next s)
      ∧ (st.issuedAt + st.limit * 1000000 ≤ s.now → exec .stopLimitExpiry s = .next (completeStop true s)) := by
  change (_ → execStopLimitExpiry s = _) ∧ (_ → execStopLimitExpiry s = _)
  rw [execStopLimitExpiry, h]
  refine ⟨fun hlt => if_neg fun hp => ?_, fun hle => if_pos ((limitPassed_iff _ _ _).mpr hle)⟩
  have := (limitPassed_iff _ _ _).mp hp
  omega

/-- A STOP that completes, and the reissue it brings. -/
theorem completeStop_eq {s : State} {st : StopOrder} (h : s.motion.stop = some st) (unsure : Bool) :
    (s.motion.order = none ∨ st.reissue = false →
      completeStop unsure s = { s with motion.stop := none, motion.unsure := s.motion.unsure || unsure })
    ∧ (∀ o, s.motion.order = some o → st.reissue = true → completeStop unsure s = issueOrder ⟨o.kind, o.arg1, o.arg2, o.requester⟩ true
        { s with motion.stop := none, motion.unsure := s.motion.unsure || unsure }) := by
  have hreissue : s.motion.stop.any (·.reissue) = st.reissue := by rw [h, Option.any_some]
  unfold completeStop
  dsimp only
  rw [hreissue]
  refine ⟨fun hc => ?_, fun o ho hr => ?_⟩
  · split
    · next o ho =>
      rcases hc with hn | hr
      · exact nomatch hn.symm.trans ho
      · rw [hr]
        rfl
    · rfl
  · rw [ho, hr]
    rfl

/-- The order of the first timeout as it is issued again. -/
theorem completeStop_reissues {s : State} {st : StopOrder} {o : Order} (h : s.motion.stop = some st) (hr : st.reissue = true)
    (ho : s.motion.order = some o) (hk : o.kind = .move ∨ o.kind = .home) (unsure : Bool) : completeStop unsure s = { s with
      motion := { s.motion with
        nextNumber := (s.motion.nextNumber + 1) % 256, stop := none, unsure := s.motion.unsure || unsure, position := none
        order := some { o with
          number := s.motion.nextNumber, limit := s.params.moveLimit, issuedAt := s.now, retried := true
          awaitingReissue := false, savedPosition := s.motion.position }
        sent := s.motion.sent ++ [motionRecord o.kind.code s.motion.nextNumber o.arg1 o.arg2] } } := by
  rw [(completeStop_eq h unsure).2 o ho hr]
  obtain ⟨kind, number, arg1, arg2, requester, limit, issuedAt, retried, awaitingReissue, savedPosition⟩ := o
  rcases hk with hk | hk
  · obtain rfl : kind = .move := hk
    rfl
  · obtain rfl : kind = .home := hk
    rfl

/-- Settles O52: each expiry by what is outstanding and how its time stands; the failures by `orderFails_of`. -/
theorem limitsRetryAMoveOnceAndThenFail : Obligations.LimitsRetryAMoveOnceAndThenFail := by
  refine ⟨fun s o ho => ⟨fun hlt => exec_limits_stay fun p hp => ?_, fun hlive hpast hstop => ⟨fun hk hfirst hlen => ?first, fun c k hfails => ?fails⟩,
    fun st hst => ⟨(exec_stopLimit hst).1, fun hle hr hk => ?_⟩⟩, fun s hnone => exec_limits_stay fun o ho => (nomatch hnone.symm.trans ho),
    fun s hnone => ?_, fun s st hst => ⟨(exec_stopLimit hst).1, fun hle hc => ?_⟩⟩
  · obtain rfl := Option.some.inj (ho.symm.trans hp)
    exact hlt
  case first =>
    have hexec := (exec_limits ho hlive hpast).1 hk
    rw [hfirst, if_neg Bool.false_ne_true] at hexec
    obtain ⟨u, hu⟩ : ∃ u, u = raiseFault .moveRetry (s.requesterCtx o.requester) s := ⟨_, rfl⟩
    have hcounter : ((retryStop (addCounter .moveRetries 1 u)).counter .moveRetries).value
        = min 4294967295 ((u.counter .moveRetries).value + 1) := by
      have hsame : (retryStop (addCounter .moveRetries 1 u)).counter .moveRetries = (addCounter .moveRetries 1 u).counter .moveRetries :=
        counter_congr rfl _
      rw [hsame, addCounter_counter_same (by rw [hu]; exact hlen), Counter.plus_value]
    rw [addCounter_eq] at hcounter
    rw [← hu, addCounter_eq] at hexec
    refine ⟨_, hexec, ?_, ?_, hcounter.trans ?_, ?_⟩
    · have hmap : s.motion.order.map (fun o => { o with awaitingReissue := true }) = some { o with awaitingReissue := true } := by
        rw [ho, Option.map_some]
      rw [hu, ← hmap]
      rfl
    · rw [hu]
      cases o.requester <;> rfl
    · rw [hu]
      rfl
    · rw [hu]
      rfl
  case fails =>
    rcases hfails with ⟨rfl, rfl, hk, hretried⟩ | ⟨rfl, rfl, hk⟩
    · refine orderFails_of (((exec_limits ho hlive hpast).1 hk).trans ?_) hstop
      rw [hretried]
      rfl
    · exact orderFails_of ((exec_limits ho hlive hpast).2 hk) hstop
  · rw [(exec_stopLimit hst).2 hle, completeStop_reissues hst hr ho hk, Bool.or_true]
  · change execStopLimitExpiry s = _
    rw [execStopLimitExpiry, hnone]
  · rw [(exec_stopLimit hst).2 hle, (completeStop_eq hst true).1 hc, Bool.or_true]

end Sys2Proof.Machine
end

section
/-! Orders one after another, HOME, and the watch of the plate-present line (R22 to R26, R33, R134, R141 to R143); O53. -/
namespace Sys2Proof.Machine
open Sys2Proof

/-! ### A LOAD and a RETURN as they are issued (R26, R33, R36, R142, R166) -/

theorem issueEffects_load {s : State} {j : JobInHand} (hj : s.pass.job = some j) : issueEffects .load s = { s with
      pass := { s.pass with
        loadIssued := true, budget := if s.pass.budget.state = .waiting then { s.pass.budget with state := .running } else s.pass.budget }
      stats := { s.stats with
        histState := .opened, histJob := some (j.number, j.record.plateId), bins := List.replicate 41 0
        nOver := 0, nUnder := 0, nDefect := 0, tilesAdded := 0 } } := by
  have hctx (u : State) (hu : u.pass.job = some j) : u.jobCtx = some (j.number, j.record.plateId) := by rw [State.jobCtx, hu, Option.map_some]
  unfold issueEffects
  dsimp only
  cases hw : s.pass.budget.state
  all_goals
    dsimp only
    rw [hctx _ (by exact hj)]
    rfl

theorem issueOrder_load {s : State} {j : JobInHand} (hj : s.pass.job = some j) (x y : Nat) (retried : Bool) :
    issueOrder ⟨.load, x, y, .pass⟩ retried s = { s with
      motion := s.motionIssued ⟨.load, x, y, .pass⟩ retried
      pass := { s.pass with
        loadIssued := true, budget := if s.pass.budget.state = .waiting then { s.pass.budget with state := .running } else s.pass.budget }
      stats := { s.stats with
        histState := .opened, histJob := some (j.number, j.record.plateId), bins := List.replicate 41 0
        nOver := 0, nUnder := 0, nDefect := 0, tilesAdded := 0 } } :=
  issueEffects_load (s := { s with motion := s.motionIssued ⟨.load, x, y, .pass⟩ retried }) hj

theorem issueOrder_ret (x y : Nat) (retried : Bool) (s : State) : issueOrder ⟨.ret, x, y, .pass⟩ retried s = { s with
      motion := { s.motionIssued ⟨.ret, x, y, .pass⟩ retried with expect := .none }, pass.budget := s.pass.budget.stop } := rfl

/-! ### The end of an order (R135) -/

/-- The motion port once the order `o` has ended DONE or EMPTY. -/
def Motion.orderEnded (m : Motion) (o : Order) : Motion :=
  { m with
    order := none
    unsure := if o.kind = .home then false else m.unsure
    position := (match o.kind with
      | .move => some (o.arg1, o.arg2)
      | .home => some (0, 0)
      | .load | .ret => o.savedPosition) }

theorem endOrder_eq (o : Order) (s : State) : endOrder o s = { s with motion := s.motion.orderEnded o } := by
  obtain ⟨kind, rest⟩ := o
  cases kind <;> rfl

/-- The state once the report DONE of the order `o` is taken, before its requester is told. -/
def State.orderDone (s : State) (o : Order) : State :=
  { s with motion := ({ s.motion with last := some ⟨.done, o.number, s.time.count, true⟩ } : Motion).orderEnded o }

/-- DONE of the pass's order. -/
theorem exec_passDone {s : State} {o : Order} (hrx : s.motion.rxBytes = []) (herr : s.motion.rxError = false) (ho : s.motion.order = some o)
    (hn : o.number < 256) (hlive : o.awaitingReissue = false) (hreq : o.requester = .pass) :
    exec (.motionReport (reportBytes 17 o.number)) s = .next (passOrderDone (s.orderDone o)) := by
  rw [exec_report (kind := .done) hrx herr hn (by decide), (takeReport_order ho hlive).1, Machine.orderDone, hreq, endOrder_eq]
  rfl

/-! ### The pass's orders, one after another (R25, R26, R33) -/

theorem passOrderDone_preparing {s : State} (h : s.pass.state = .preparing) : passOrderDone s = preparingDone s := by rw [passOrderDone, h]

theorem passOrderDone_returning {s : State} (h : s.pass.state = .returning) : passOrderDone s = returningDone s := by rw [passOrderDone, h]

/-- DONE in PREPARING, by the mark and the step. -/
theorem preparingDone_eq (s : State) : (s.pass.mark ≠ none → preparingDone s = jobEndCheck s)
    ∧ (s.pass.mark = none → s.pass.step = .homing → preparingDone s = prepCheck s)
    ∧ (s.pass.mark = none → s.pass.step ≠ .homing → preparingDone s = enterLoading s) := by
  unfold preparingDone
  refine ⟨fun h => ?_, fun h hs => by rw [h, hs], fun h hs => ?_⟩
  · obtain ⟨m, hm⟩ := Option.ne_none_iff_exists'.mp h
    rw [hm]
  · rw [h]
    cases hstep : s.pass.step
    case homing => exact absurd hstep hs
    all_goals rfl

/-- The check of the line after HOME finds it true: the job ends. -/
theorem prepCheck_occupied {s : State} {j : JobInHand} (hj : s.pass.job = some j) (hp : s.platePresent = true) :
    prepCheck s = endJob true (setMark .failed (takeAhead (raiseFault .tableOccupied ⟨some (j.number, j.record.plateId), none, none, none⟩ s))) := by
  have hctx : s.jobCtx = some (j.number, j.record.plateId) := by rw [State.jobCtx, hj, Option.map_some]
  unfold prepCheck
  rw [hj]
  dsimp only
  rw [if_pos hp, hctx]

/-! ### HOME (R141) -/

/-- HOME with no job, no calibration and no HOME request. -/
theorem home_idle {s : State} (hj : s.pass.job = none) (hcal : s.cal.cal = none) (hhome : s.motion.homeRequest = false) :
    (s.pass.state = .halted → home s = (refuse .halted, s))
      ∧ (s.pass.state ≠ .halted → home s
        = (.ok (.homing s.motion.unsure), wantOrder ⟨.home, 0, 0, .homeRequest⟩ { s with motion.homeRequest := true })) := by
  have hfree : ¬ ((s.jobActive || s.cal.cal.isSome || s.motion.homeRequest) = true) := by
    rw [State.jobActive, hj, hcal, hhome]
    decide
  unfold home
  rw [if_neg hfree]
  refine ⟨fun h => by rw [h], fun h => ?_⟩
  split
  · next hh => exact absurd hh h
  · rfl

/-! ### The line's fall (R143) -/

theorem exec_platePresentChange (present : Bool) (s : State) :
    (present = true ∨ s.platePresent = false ∨ s.motion.expect = .none →
      exec (.platePresentChange present) s = .next { s with platePresent := present })
    ∧ (s.platePresent = true → s.motion.expect = .present →
      exec (.platePresentChange false) s = .next (plateSense { s with platePresent := false })) := by
  change (_ → execPlatePresentChange present s = _) ∧ (_ → _ → execPlatePresentChange false s = _)
  unfold execPlatePresentChange
  refine ⟨fun h => if_neg ?_, fun hp he => if_pos ?_⟩
  · rintro ⟨hfell, hexpect⟩
    have hfell : (s.platePresent && !present) = true := hfell
    have hexpect : s.motion.expect = .present := hexpect
    rcases h with h | h | h
    · rw [h] at hfell
      simp at hfell
    · rw [h] at hfell
      exact nomatch hfell
    · exact nomatch h.symm.trans hexpect
  · refine ⟨?_, he⟩
    rw [hp]
    rfl

theorem not_halted_of_under_way {p : PassState} (h : p ∈ [PassState.walking, .paused, .returning]) : p ≠ .halted := by
  rintro rfl
  simp at h

theorem walks_of_loaded {p : PassState} (h : p ∈ [PassState.walking, .paused, .returning]) :
    p ∈ [PassState.walking, .paused, .returning, .halted] := List.mem_append_left [PassState.halted] h

/-- Settles O53. -/
theorem ordersWaitTheirTurnAndThePlateIsWatched : Obligations.OrdersWaitTheirTurnAndThePlateIsWatched := by
  intro s
  refine ⟨fun hbusy => ?busy, fun w ho hs hw hk => ?issued, fun ho hs hw hstate hstep => ?returning, ?chain, ?home,
    fun present h => (exec_platePresentChange present s).1 h, ?fallHalted, ?fall⟩
  case busy =>
    change execOrderIssue s = _
    refine if_neg fun hf => ?_
    obtain ⟨ho, hs⟩ := motionFree_iff.mp hf
    exact hbusy.elim (fun h => h ho) fun h => h hs
  case issued =>
    change execOrderIssue s = _
    rw [execOrderIssue, if_pos (motionFree_iff.mpr ⟨ho, hs⟩), hw]
    obtain ⟨kind, x, y, requester⟩ := w
    rcases hk with rfl | rfl <;> rfl
  case returning =>
    have hexec : exec .orderIssue s = .next (beginReturn s) := by
      change execOrderIssue s = _
      rw [execOrderIssue, if_pos (motionFree_iff.mpr ⟨ho, hs⟩), hw]
      exact if_pos ⟨hstate, hstep⟩
    rw [beginReturn_free ho hs] at hexec
    refine ⟨_, s.orderOf s.returnWanted false, hexec, rfl, rfl, rfl, rfl, rfl, ?_, rfl, rfl⟩
    unfold State.orderOf State.returnWanted State.limitFor
    dsimp only
    cases s.motion.unsure <;> rfl
  case chain =>
    intro o j last issued hrx herr ho hn hlive hreq hstop hj hlast hissued
    have hexec := exec_passDone hrx herr ho hn hlive hreq
    have hmark : (s.orderDone o).pass = s.pass := rfl
    refine ⟨fun hk hstate hstep hm => ?load, fun hk hstate hstep => ?ret, fun hk hstate hstep => ?move,
        fun hk hstate hstep hm hp hesc ht hplate => ?occupiedHalted,
      fun hk hstate hstep hm hp hahead => ?occupied, fun hstate hm ht hh hplate => ?marked⟩
    case load =>
      rw [hexec, passOrderDone_preparing (s := s.orderDone o) hstate, (preparingDone_eq (s.orderDone o)).2.2 hm hstep, hissued, hlast]
      have henter : enterLoading (s.orderDone o) = wantOrder ⟨.load, j.record.slot, 0, .pass⟩
          { s.orderDone o with pass.state := .loading, pass.step := .handling } := by
        unfold enterLoading
        rw [show (s.orderDone o).pass.job = some j from hj]
      rw [henter, wantOrder_free (by rfl) (by exact hstop), issueOrder_load (j := j) (by exact hj)]
      unfold State.motionIssued State.orderOf State.orderDone Motion.orderEnded
      dsimp only
      rw [hk]
      rfl
    case ret =>
      rw [hexec, passOrderDone_returning (s := s.orderDone o) hstate, hissued, hlast]
      have hdone : returningDone (s.orderDone o) = wantOrder ⟨.ret, j.record.slot, 0, .pass⟩ { s.orderDone o with pass.step := .handling } := by
        unfold returningDone
        rw [show (s.orderDone o).pass.job = some j from hj, show (s.orderDone o).pass.step = .moving from hstep]
      rw [hdone, wantOrder_free (by rfl) (by exact hstop), issueOrder_ret]
      unfold State.motionIssued State.orderOf State.orderDone Motion.orderEnded
      dsimp only
      rw [hk, ← Budget.stop_eq]
      rfl
    case move =>
      rw [hexec, passOrderDone_returning (s := s.orderDone o) hstate, hissued, hlast]
      have hdone : returningDone (s.orderDone o) = wantOrder ⟨.move, 0, 0, .pass⟩ { s.orderDone o with pass.step := .moving } := by
        unfold returningDone
        rw [show (s.orderDone o).pass.step = .homing from hstep]
      rw [hdone, wantOrder_free (by rfl) (by exact hstop), issueOrder_move]
      unfold State.motionIssued State.orderOf State.orderDone Motion.orderEnded
      dsimp only
      rw [hk]
      rfl
    case occupiedHalted =>
      have hnot : (s.orderDone o).pass.state ≠ .halted := fun h => nomatch hstate.symm.trans h
      rw [passOrderDone_preparing (s := s.orderDone o) hstate, (preparingDone_eq (s.orderDone o)).2.1 hm hstep,
          prepCheck_occupied (s := s.orderDone o) hj hp] at hexec
      obtain ⟨f, i, c, l, hu, hraised, hjobMark, -, -, hfirst⟩ := takeAhead_escalates_stays (s := s.orderDone o) hesc
        ⟨some (j.number, j.record.plateId), none, none, none⟩ hnot ht (.inr (.inr (.inr ⟨fun h => (nomatch hplate.symm.trans h),
            fun h => (nomatch hm.symm.trans h)⟩)))
      have hjm : f.jobMark = some (s.faults.jobMark.getD .tableOccupied) :=
        hjobMark.trans (jobMarkAfter_eq (s := s.orderDone o) (fun h => nomatch hj.symm.trans h) _)
      generalize takeAhead (raiseFault .tableOccupied ⟨some (j.number, j.record.plateId), none, none, none⟩ (s.orderDone o)) = u at hu hfirst hexec
      have hujob : (setMark .failed u).pass.job = some j := by rw [hu]; exact hj
      have humark : (setMark .failed u).faults.jobMark = some (s.faults.jobMark.getD .tableOccupied) := by rw [hu]; exact hjm
      obtain ⟨x, hx, hended, -⟩ := endJob_ends hujob true
      have hfirst' := HaltedFirst.endJob (t := setMark .failed u) hfirst hujob (.inl (by rw [humark]; nofun)) true
      have hkept : x.fault.faults = { f with jobMark := none } := (hx.kept (.inl (by rw [humark]; nofun))).trans (by rw [hu]; rfl)
      have houtcome := outcome_endsAs (setMark .failed u)
      rw [hended] at hexec hfirst'
      rw [show (s.orderDone o).pass.state = .preparing from hstate, show (s.orderDone o).pass.job = some j from hj] at hfirst'
      refine ⟨_, _, hexec, hfirst', ?_, ?_, ?_, ?_, List.getLast?_concat, rfl, houtcome, hx.marked _ humark, rfl⟩
      · rw [hu]
        exact if_pos hk
      · rw [hu]
        unfold State.orderDone Motion.orderEnded
        dsimp only
        rw [hk]
        rfl
      · exact (congrArg Faults.raised hkept).trans hraised
      · rfl
    case occupied =>
      rw [passOrderDone_preparing (s := s.orderDone o) hstate, (preparingDone_eq (s.orderDone o)).2.1 hm hstep, prepCheck_occupied (s := s.orderDone o) hj hp,
        takeAhead_of_none _ (by exact hahead)] at hexec
      obtain ⟨u, hu⟩ : ∃ u, u = setMark .failed (raiseFault .tableOccupied ⟨some (j.number, j.record.plateId), none, none, none⟩ (s.orderDone o)) :=
        ⟨_, rfl⟩
      rw [← hu] at hexec
      obtain ⟨x, hx, hended, -⟩ := endJob_ends (s := u) (j := j) (by rw [hu]; exact hj) true
      have hfirst := hx.first
      have houtcome := outcome_endsAs u
      rw [hended] at hexec
      rw [hu] at hfirst houtcome
      refine ⟨_, _, hexec, ?_, ?_, ?_, ?_, rfl, List.getLast?_concat, rfl, ?_, hfirst, ?_, rfl⟩
      · rw [hu]
        exact if_pos hk
      · rw [hu]
        unfold State.orderDone Motion.orderEnded
        dsimp only
        rw [hk]
        rfl
      · rw [hu]; rfl
      · rw [hu]; rfl
      · rw [hu]; exact houtcome
      · exact if_neg (by rw [hu]; exact fun h => nomatch hstate.symm.trans h)
    case marked =>
      rw [passOrderDone_preparing (s := s.orderDone o) hstate, (preparingDone_eq (s.orderDone o)).1 hm] at hexec
      have hends : jobEndCheck (s.orderDone o) = endJob false (s.orderDone o) := by
        refine jobEndCheck_ends (by exact fun h => nomatch hj.symm.trans h) ht hh (passOrder_of_none rfl) ?_
        unfold State.plateLetsEnd
        rw [show (s.orderDone o).pass.state = .preparing from hstate]
        exact decide_eq_true (.inr ⟨hm, fun h => nomatch hplate.symm.trans h⟩)
      obtain ⟨x, hx, hended, -⟩ := endJob_ends (s := s.orderDone o) (j := j) (by exact hj) false
      rw [hends, hended] at hexec
      exact ⟨_, _, hexec, rfl, rfl, List.getLast?_concat, rfl, outcome_endsAs (s.orderDone o), hx.first,
        if_neg (show ¬ s.pass.state = .halted by rw [hstate]; nofun), rfl⟩
  case home =>
    intro tag flags rest h
    refine ⟨fun hbusy => ?_, fun hj hcal hhome => ⟨fun hhalted => ?_, fun hnot ho hs => ?_, fun hnot hbusy => ?_⟩⟩
    · refine exec_answer_noBody (t := s) rfl rfl h ?_
      unfold home
      refine if_pos ?_
      change (s.pass.job.isSome || s.cal.cal.isSome || s.motion.homeRequest) = true
      rcases hbusy with hb | hb | hb
      · rw [Option.isSome_iff_ne_none.mpr hb]; rfl
      · rw [Option.isSome_iff_ne_none.mpr hb, Bool.or_true]; rfl
      · rw [hb, Bool.or_true]
    · refine exec_answer_noBody (t := s) rfl rfl h ?_
      rw [(home_idle (s := { s with link.intake := rest }) hj hcal hhome).1 hhalted]
      rfl
    · refine (exec_answer_noBody (t := { s with
        motion := State.motionIssued { s with motion.homeRequest := true } ⟨.home, 0, 0, .homeRequest⟩ false }) rfl rfl h ?_).trans rfl
      rw [(home_idle (s := { s with link.intake := rest }) hj hcal hhome).2 hnot, wantOrder_free (by exact ho) (by exact hs), issueOrder_home]
      rfl
    · refine (exec_answer_noBody (t := { s with
        motion := { s.motion with homeRequest := true, waiting := some ⟨.home, 0, 0, .homeRequest⟩ } }) rfl rfl h ?_).trans rfl
      rw [(home_idle (s := { s with link.intake := rest }) hj hcal hhome).2 hnot, wantOrder_busy (by exact hbusy)]
  case fallHalted =>
    intro j hp he hj ht hl hesc hstate hplate hh hstop
    have hexec := (exec_platePresentChange false s).2 hp he
    have hahead := takeAhead_onTable (s := { s with platePresent := false }) (j := j) hesc (State.passCtx { s with platePresent := false })
      (not_halted_of_under_way hstate) hj hplate hl fun t h => nomatch ht.symm.trans h
    rw [plateSense] at hexec
    generalize takeAhead (raiseFault .plateSense (State.passCtx { s with platePresent := false }) { s with platePresent := false }) = u at hahead hexec
    obtain ⟨hfirst, hmot, hraised, hlamps, hline, hstays, -⟩ := hahead.leaves (plate := u.pass.plate) (.inl hahead.plate)
      (congrArg (fun m => { u with motion := m }) hahead.motion)
    obtain ⟨hpass, -⟩ := hstays (by exact Nat.ne_of_gt hh)
    have htile : s.pass.tile.map (fun t => (t.row, t.col)) = none := by rw [ht, Option.map_none]
    refine ⟨_, hexec, hline, ?_, hraised, ?_, ?_, ?_, ?_, ?_, ?_, ?_, ?_, ?_, ?_, ?_⟩
    · rw [← htile]
      exact hfirst
    · exact congrArg Pass.mark hpass
    · exact congrArg Pass.plate hpass
    · exact (congrArg Pass.job hpass).trans hj
    · exact congrArg Pass.walkPos hpass
    · exact (congrArg Pass.handedOver hpass).trans rfl
    · exact congrArg Motion.expect hmot
    · refine (congrArg Motion.stop hmot).trans ?_
      rw [Motion.stopping_of_none (by exact hstop)]
    · exact congrArg (fun p : Lamps => p.a.lit) hlamps
    · exact congrArg (fun p : Lamps => p.b.lit) hlamps
    · exact congrArg Lamps.exposure hlamps
    · exact (congrArg Lamps.line hlamps).trans rfl
  case fall =>
    intro j hp he hj ht hl hahead hstate hplate hh hstop
    have hexec := (exec_platePresentChange false s).2 hp he
    have hctx : State.passCtx { s with platePresent := false } = ⟨some (j.number, j.record.plateId), none, none, none⟩ := by
      rw [State.passCtx, State.jobCtx, State.tileCtx]
      dsimp only
      rw [hj, ht]
      rfl
    rw [plateSense, takeAhead_of_none _ (by exact hahead), hctx] at hexec
    obtain ⟨i, n, y, -, hy, hstays, -⟩ := fatalLeave_left_ends
      (s := raiseFault .plateSense ⟨some (j.number, j.record.plateId), none, none, none⟩ { s with platePresent := false }) (j := j) hj
      (walks_of_loaded hstate) (.inl hplate) hl fun t h => nomatch ht.symm.trans h
    rw [hstays (by exact Nat.ne_of_gt hh)] at hexec
    have hnot := not_halted_of_under_way hstate
    refine ⟨y, hexec, ?_, ?_, ?_, ?_, ?_, ?_, ?_, ?_, ?_, ?_, ?_, ?_, ?_, ?_, ?_⟩ <;> rw [hy]
    case refine_5 => exact if_neg hnot
    case refine_6 => exact hj
    case refine_11 =>
      change (s.motion.fatal s.params.moveLimit s.now).stop = _
      rw [Motion.fatal, Motion.stopping_of_none hstop]
    all_goals rfl

end Sys2Proof.Machine
end

section
/-! The ends of the pass's handler orders (R26, R28, R33 to R35, R142); O51. -/
namespace Sys2Proof.Machine
open Sys2Proof

/-! ### LOAD DONE (R26, R28, R42) -/

/-- The state once a LOAD has left the plate on the table. -/
def State.loaded (s : State) (o : Order) : State :=
  { s.orderDone o with
    pass := { s.pass with plate := .onTable, step := .none }, motion := { (s.orderDone o).motion with expect := .present } }

theorem passOrderDone_loading {s : State} (h : s.pass.state = .loading) : passOrderDone s = loadDone s := by rw [passOrderDone, h]

theorem loadDone_eq (s : State) (o : Order) : (s.platePresent = false → loadDone (s.orderDone o) = plateSense (s.orderDone o))
    ∧ (s.platePresent = true → s.pass.cancelPending = true →
        loadDone (s.orderDone o) = enterReturning (closeWalk { s.loaded o with pass.cancelPending := false }))
    ∧ (s.platePresent = true → s.pass.cancelPending = false → loadDone (s.orderDone o) = takeGuard (boundary (s.loaded o))) := by
  unfold loadDone
  refine ⟨fun h => if_neg ?_, fun h hc => (if_pos h).trans (if_pos hc), fun h hc => (if_pos h).trans (if_neg ?_)⟩
  · rw [show (s.orderDone o).platePresent = s.platePresent from rfl, h]
    exact Bool.false_ne_true
  · exact fun ht => nomatch hc.symm.trans ht

/-- A boundary met with a mark set and no pause: the walk is closed, and the plate returned. -/
theorem boundary_marked {s : State} {j : JobInHand} (hstate : s.pass.state ≠ .halted) (hj : s.pass.job = some j) (hm : s.pass.mark ≠ none)
    (hp : s.pass.pausePending = false) (hw : s.pass.walkPos ≤ j.record.tiles) : boundary s = enterReturning (closeWalk s) := by
  have hclosed : (if s.pass.mark.isSome = true ∧ s.pass.walkPos < j.record.tiles then closeWalk s else s) = closeWalk s := by
    split
    · rfl
    · next h =>
      refine (closeWalk_complete hj ?_).symm
      have : ¬ s.pass.walkPos < j.record.tiles := fun hlt => h ⟨Option.isSome_iff_ne_none.mpr hm, hlt⟩
      omega
  obtain ⟨counts, pos, n, -, hleaves⟩ := closeWalk_leaves s
  rw [boundary_walks hstate hj]
  unfold boundaryLoop
  rw [hj]
  dsimp only
  rw [hclosed]
  have hmark : (closeWalk s).pass.mark = s.pass.mark := by
    rw [hleaves]
    rfl
  have hpause : (closeWalk s).pass.pausePending = false := by
    rw [hleaves]
    exact hp
  have hmore : ¬ ((closeWalk s).pass.walkPos < j.record.tiles ∧ (closeWalk s).pass.mark = none) := fun h => hm (hmark.symm.trans h.2)
  rw [decide_eq_false hmore, hpause]
  rfl

/-- A loaded plate that is returned at once: its walk closed, and the first order of RETURNING issued. -/
theorem returned_at_once {s : State} {j : JobInHand} (hj : s.pass.job = some j) (hplate : s.pass.plate = .onTable) (ho : s.motion.order = none)
    (hs : s.motion.stop = none) : ∃ n : Notes, enterReturning (closeWalk s) = { s with
      pass := { s.pass.closed j.record.tiles with state := .returning, step := if s.motion.unsure then .homing else .moving }
      motion := s.motionIssued s.returnWanted false }.noted n := by
  obtain ⟨n, -, hclosed⟩ := closeWalk_notes hj (by rw [hplate]; nofun)
  refine ⟨n, ?_⟩
  rw [hclosed, enterReturning_free (by exact ho) (by exact hs)]
  rfl

theorem takeGuard_untiled {s : State} (h : ∀ t, s.pass.tile = some t → t.phase ≠ .deciding) : takeGuard s = s := takeGuards_decided h _

/-- The motion port once a LOAD or RETURN that ended DONE has brought a fatal action. -/
def State.sensedMotion (s : State) (o : Order) : Motion :=
  { s.motion with
    order := none, waiting := none, expect := .none, last := some ⟨.done, o.number, s.time.count, true⟩, position := o.savedPosition
    nextNumber := (s.motion.nextNumber + 1) % 256, stop := some ⟨s.motion.nextNumber, s.params.moveLimit, s.now, false⟩
    sent := s.motion.sent ++ [motionRecord 5 s.motion.nextNumber 0 0] }

theorem orderDone_fatal {s : State} {o : Order} (hk : o.kind = .load ∨ o.kind = .ret) (hs : s.motion.stop = none) :
    (s.orderDone o).motion.fatal s.params.moveLimit s.now = s.sensedMotion o := by
  rw [Motion.fatal, Motion.stopping_of_none (by exact hs)]
  unfold State.orderDone Motion.orderEnded State.sensedMotion
  dsimp only
  rcases hk with hk | hk <;> rw [hk] <;> rfl

/-- RETURN DONE, by the line. -/
theorem returnDone_eq (s : State) : (s.platePresent = false →
      returnDone s = jobEndCheck { s with pass.plate := .returned, pass.state := .finishing, pass.step := .none })
    ∧ (s.platePresent = true → (takeAhead (raiseFault .plateSense s.passCtx s)).pass.job ≠ none →
      returnDone s = fatalLeave { takeAhead (raiseFault .plateSense s.passCtx s) with pass.plate := .left }) := by
  unfold returnDone
  refine ⟨fun h => if_neg (by rw [h]; nofun), fun h hj => (if_pos h).trans ?_⟩
  obtain ⟨j, hj⟩ := Option.ne_none_iff_exists'.mp hj
  dsimp only
  rw [hj]

theorem returningDone_handling {s : State} (h : s.pass.step = .handling) : returningDone s = returnDone s := by rw [returningDone, h]

/-- A LOAD or RETURN that ended leaves the position that it found. -/
theorem Motion.orderEnded_position {o : Order} (hk : o.kind = .load ∨ o.kind = .ret) (m : Motion) : (m.orderEnded o).position = o.savedPosition := by
  unfold Motion.orderEnded
  dsimp only
  rcases hk with hk | hk <;> rw [hk]

/-! ### LOAD EMPTY (R26) -/

/-- EMPTY of the pass's LOAD. -/
theorem exec_loadEmpty {s : State} {o : Order} (hrx : s.motion.rxBytes = []) (herr : s.motion.rxError = false) (ho : s.motion.order = some o)
    (hn : o.number < 256) (hlive : o.awaitingReissue = false) (hk : o.kind = .load) : ∃ d : State,
      d = { s with motion := ({ s.motion with last := some ⟨.empty, o.number, s.time.count, true⟩ } : Motion).orderEnded o }
      ∧ exec (.motionReport (reportBytes 18 o.number)) s = .next (loadEmpty d) := by
  refine ⟨_, rfl, ?_⟩
  rw [exec_report (kind := .empty) hrx herr hn (by decide), (takeReport_order ho hlive).2.1 hk, endOrder_eq]
  rfl

theorem loadEmpty_eq {d u : State} (hu : u = takeAhead (raiseFault .slotEmpty ⟨d.jobCtx, none, none, none⟩ d)) :
    (u.pass.job = none → loadEmpty d = u)
    ∧ (u.pass.state = .halted → u.workDone = true → loadEmpty d = endJob false { u with pass.mark := some (u.pass.mark.getD .slotEmpty) })
    ∧ (u.pass.job ≠ none → u.pass.state ≠ .halted →
        loadEmpty d = jobEndCheck { u with pass.mark := some (u.pass.mark.getD .slotEmpty) }) := by
  unfold loadEmpty
  rw [← hu]
  dsimp only
  rw [markUnlessSet_eq]
  refine ⟨fun h => by rw [h], fun hs hw => ?_, fun hj hs => ?_⟩
  · split
    · next h => simp [State.workDone, State.jobActive, h] at hw
    · exact if_pos hw
    · next h => exact (h hs).elim
  · split
    · next h => exact absurd h hj
    · next h => exact absurd h hs
    · rfl

/-! ### The flats at a job's end (R129) -/

theorem ended_flat {y : State} {occupied : Bool} {j : JobInHand} {x : JobEnd} {b : BankId} {f : FlatData} (hf : (y.flat b).data = some f) :
    ((y.ended occupied j x).flat b).data = some { f with record := { f.record with
      age := if y.pass.banksUsed.has b then min 65535 (f.record.age + 1) else f.record.age } } := by
  have haged : (y.ended occupied j x).flat b = State.flat { y with cal := y.cal.aged y.pass.banksUsed } b := by cases b <;> rfl
  rw [haged]
  cases b with
  | a =>
    have hf : y.cal.flatA.data = some f := hf
    unfold State.flat CalStore.aged BankSet.has
    cases y.pass.banksUsed.a <;> simp [hf]
  | b =>
    have hf : y.cal.flatB.data = some f := hf
    unfold State.flat CalStore.aged BankSet.has
    cases y.pass.banksUsed.b <;> simp [hf]

/-! ### The notices of a job's end (R16, R162) -/

theorem foldl_posted_length (ns : List Notice) (l : Link) : (ns.foldl Link.posted l).notices.length ≤ l.notices.length + ns.length := by
  induction ns generalizing l with
  | nil => exact Nat.le_refl _
  | cons n ns ih =>
    have hone := l.posted_length n
    have hrest := ih (l.posted n)
    rw [List.foldl_cons, List.length_cons]
    omega

theorem foldl_posted_full {l : Link} (h : 32 ≤ l.notices.length) {ns : List Notice} (hne : ns ≠ []) :
    ns.foldl Link.posted l = { l with dropped := true } := by
  induction ns generalizing l with
  | nil => exact absurd rfl hne
  | cons n ns ih =>
    rw [List.foldl_cons, Link.posted_full n h]
    by_cases hns : ns = []
    · rw [hns, List.foldl_nil]
    · rw [ih (l := { l with dropped := true }) h hns]

/-- PLATE-DONE joins the queue at a job's end where at most 30 notices wait. -/
theorem ended_plateDone {y : State} {occupied : Bool} {j : JobInHand} {x : JobEnd} (hx : x.fault.notices.length ≤ 1)
    (hroom : y.link.notices.length ≤ 30) :
    Notice.plateDone (y.entryOf j y.outcome x.fault.first) ∈ (y.ended occupied j x).link.notices.map QueuedNotice.notice := by
  have hlength := foldl_posted_length x.fault.notices y.link
  unfold State.ended
  dsimp only
  rw [List.foldl_append, List.foldl_cons]
  exact (Link.PostsTo.posts _ x.after).mem (by omega)

theorem ended_full {y : State} {occupied : Bool} {j : JobInHand} {x : JobEnd} (h : 32 ≤ y.link.notices.length) :
    (y.ended occupied j x).link = { y.link with dropped := true } := foldl_posted_full h (by simp)

/-- A fatal action with no tile in hand: what stands of the walk. -/
theorem Pass.abandoned_untiled {p : Pass} (ht : p.tile = none) (total : Nat) :
    p.abandoned total = p.leaving.closed total := Pass.cleared_of_none ht

/-- Settles O51. -/
theorem handlerReportsLoadPauseAndEndTheJob : Obligations.HandlerReportsLoadPauseAndEndTheJob := by
  intro s o j total last closed hrx herr ho hn hlive hreq hj ht htotal hw hlast hclosed
  have hexec := exec_passDone hrx herr ho hn hlive hreq
  have htiles : j.record.tiles = total := htotal.symm
  have hnone {P : Tile → Prop} (t : Tile) (h : s.pass.tile = some t) : P t := nomatch ht.symm.trans h
  refine ⟨fun hk hstate hp hcancel hpause hm hlt => ?paused, fun row col hk hstate hp hcancel hpause hm hlt hcell hzone hstop => ?walks,
    fun hk hstate hp hstop hmarked => ?returned, fun ctx hctx hstop hahead hcases => ?sensed, fun hstop hesc hcases => ?sensedHalted,
    fun hk hstate hstep hp hh => ?finishing, fun hk hstate hstep hp hh => ?ends, fun hk hstate hh hplate hesc => ?emptyHalted,
    fun hk hstate hh hplate hahead => ?empty⟩
  case paused =>
    rw [hexec, passOrderDone_loading (s := s.orderDone o) hstate, (loadDone_eq s o).2.2 hp hcancel,
      boundary_pauses (s := s.loaded o) (by exact fun h => nomatch hstate.symm.trans h) hj hpause (.inl ⟨htiles ▸ hlt, hm⟩),
      takeGuard_untiled (by exact hnone), htiles]
    unfold State.loaded State.orderDone Motion.orderEnded Pass.pausedAt
    dsimp only
    rw [if_pos hlt, hk, hlast]
    by_cases hb : s.pass.budget.state = .running
    · rw [if_pos hb, if_pos hb]
      rfl
    · rw [if_neg hb, if_neg hb]
      rfl
  case walks =>
    have hnext := (boundaryLoop_next (s := s.loaded o) (cell := (row, col)) j.record.tiles hj hm hpause (htiles ▸ hlt) hcell).1 hzone
    have hboundary : boundary (s.loaded o) = { s.loaded o with
        pass := (s.loaded o).pass.taking (row, col) .moving s.time.count
        motion := State.motionIssued (s.loaded o) (j.record.moveTo (row, col)) false } := by
      rw [boundary_walks (s := s.loaded o) (by exact fun h => nomatch hstate.symm.trans h) hj, hnext, wantOrder_free (by rfl) (by exact hstop)]
      rfl
    rw [hexec, passOrderDone_loading (s := s.orderDone o) hstate, (loadDone_eq s o).2.2 hp hcancel, hboundary, takeGuard_untiled]
    · unfold State.motionIssued State.orderOf State.loaded State.orderDone Motion.orderEnded
      dsimp only
      rw [hk, hlast]
      rfl
    · intro t h
      obtain rfl := Option.some.inj h
      nofun
  case returned =>
    have hreturns : ∃ n : Notes, loadDone (s.orderDone o) = ({ s.loaded o with
        pass := { ({ (s.loaded o).pass with cancelPending := false } : Pass).closed j.record.tiles with
          state := .returning, step := if (s.loaded o).motion.unsure then .homing else .moving }
        motion := (s.loaded o).motionIssued (s.loaded o).returnWanted false }).noted n := by
      rcases Bool.eq_false_or_eq_true s.pass.cancelPending with hcancel | hcancel
      · rw [(loadDone_eq s o).2.1 hp hcancel]
        exact returned_at_once (s := { s.loaded o with pass.cancelPending := false }) hj rfl rfl hstop
      · have hsame : { s.loaded o with pass.cancelPending := false } = s.loaded o := by
          unfold State.loaded
          rw [← hcancel]
        obtain ⟨hpause, hm⟩ := hmarked.resolve_left fun h => nomatch hcancel.symm.trans h
        rw [(loadDone_eq s o).2.2 hp hcancel, boundary_marked (s := s.loaded o) (by exact fun h => nomatch hstate.symm.trans h) hj hm hpause
          (by rw [htiles]; exact hw), ← hsame]
        obtain ⟨n, hn⟩ := returned_at_once (s := { s.loaded o with pass.cancelPending := false }) hj rfl rfl hstop
        rw [hn]
        exact ⟨n, takeGuard_untiled (by exact hnone)⟩
    obtain ⟨n, hreturned⟩ := hreturns
    rw [passOrderDone_loading (s := s.orderDone o) hstate, hreturned] at hexec
    refine ⟨_, hexec, rfl, rfl, rfl, rfl, ht, htiles, ?_, rfl, ?_, ?_, rfl, rfl, rfl, rfl⟩
    · rw [hclosed, htotal]
      rfl
    · rw [hlast]
      rfl
    · have hunsure : (s.loaded o).motion.unsure = s.motion.unsure := if_neg (by rw [hk]; nofun)
      rw [← hunsure]
      rfl
  case sensed =>
    have hpassCtx : (s.orderDone o).passCtx = ctx := by
      change (⟨s.pass.job.map _, s.pass.tile.map _, none, none⟩ : Ctx) = ctx
      rw [hj, ht, hctx]
      rfl
    obtain ⟨d, hd⟩ : ∃ d, d = raiseFault .plateSense ctx (s.orderDone o) := ⟨_, rfl⟩
    have hahead' : takeAhead (raiseFault .plateSense (s.orderDone o).passCtx (s.orderDone o)) = d := by
      rw [takeAhead_of_none _ (by exact hahead), hpassCtx, hd]
    rcases hcases with ⟨hk, hstate, hp, hplate, hh⟩ | ⟨hk, hstate, hstep, hp, hplate, hl⟩
    · rw [passOrderDone_loading (s := s.orderDone o) hstate, (loadDone_eq s o).1 hp, plateSense, hahead'] at hexec
      obtain ⟨i, hi⟩ := fatalLeave_early_ends (s := d) (j := j) (by rw [hd]; exact hj) (.inl (by rw [hd]; change s.pass.state ∈ _; rw [hstate]; decide))
        (by rw [hd]; exact hplate) (by rw [hd]; exact ht) (by rw [hd]; exact hh)
      have hmotion : d.motion.fatal d.params.moveLimit d.now = s.sensedMotion o := by
        rw [hd]
        exact orderDone_fatal (.inl hk) hstop
      rw [hmotion] at hi
      obtain ⟨y, hy⟩ : ∃ y, y = { d with pass := d.pass.failed, lamps := d.lamps.dark, intake := i, motion := s.sensedMotion o } := ⟨_, rfl⟩
      rw [← hy] at hi
      obtain ⟨x, hx, hended, -⟩ := endJob_ends (s := y) (j := j) (by rw [hy, hd]; exact hj) false
      have hfirst := hx.first
      have houtcome := outcome_endsAs y
      rw [hi, hended] at hexec
      rw [hy, hd] at hfirst houtcome
      have hmot : (y.ended false j x).motion = s.sensedMotion o := by rw [hy]; rfl
      refine ⟨_, hexec, by rw [hmot]; rfl, by rw [hmot]; rfl, by rw [hmot, hlast]; rfl, by rw [hmot]; rfl, by rw [hmot]; rfl, by rw [hmot]; rfl,
        by rw [hmot]; rfl, ?_, fun _ => ⟨_, List.getLast?_concat, rfl, ?_, ?_, hfirst, ?_, rfl, rfl⟩, fun hne => absurd hh hne⟩
      · rw [hy, hd]; rfl
      · rw [hy, hd]; exact houtcome
      · rw [if_pos hk, hy, hd]; rfl
      · refine if_neg ?_
        rw [hy, hd]
        exact fun h => nomatch hstate.symm.trans h
    · have hdone := (returnDone_eq (s.orderDone o)).2 hp (by rw [hahead', hd]; exact fun h => nomatch hj.symm.trans h)
      rw [hahead'] at hdone
      rw [passOrderDone_returning (s := s.orderDone o) hstate, returningDone_handling (s := s.orderDone o) hstep, hdone] at hexec
      obtain ⟨i, n, y, -, hy, hstays, hends⟩ := fatalLeave_left_ends (s := { d with pass.plate := .left }) (j := j) (by rw [hd]; exact hj)
        (by rw [hd]; change s.pass.state ∈ _; rw [hstate]; decide) (.inr rfl) (by rw [hd]; exact hl) (by rw [hd]; exact hnone)
      have hmotion : d.motion.fatal d.params.moveLimit d.now = s.sensedMotion o := by
        rw [hd]
        exact orderDone_fatal (.inr hk) hstop
      have hpass : Pass.abandoned { d.pass with plate := .left } j.record.tiles = s.pass.leaving.closed total := by
        rw [hd, htiles]
        exact Pass.abandoned_untiled (p := { s.pass with plate := .left }) ht total
      have hleaving : s.pass.leaving.state = .finishing := if_neg (show ¬ s.pass.state = .halted by rw [hstate]; nofun)
      rw [hpass] at hy
      have hymotion : y.motion = s.sensedMotion o := by rw [hy]; exact hmotion
      have hylamps : y.lamps = { s.lamps with a.lit := false, b.lit := false, exposure := none } := by rw [hy, hd]; rfl
      have hcounts : (s.pass.leaving.closed total).counts = closed := by rw [hclosed]; rfl
      by_cases hh : s.pass.handedOver = 0
      · obtain ⟨x, hx, hended, -⟩ := endJob_ends (s := y) (j := j) (by rw [hy, hd]; exact hj) false
        have hfirst := hx.first
        have houtcome := outcome_endsAs y
        rw [hends (by rw [hd]; exact hh), hended] at hexec
        rw [hy, hd] at hfirst houtcome
        have hmot : (y.ended false j x).motion = s.sensedMotion o := by
          change { y.motion with expect := .none, waiting := y.motion.waiting.filter fun w => decide (w.requester ≠ Requester.pass) } = _
          rw [hymotion]
          rfl
        refine ⟨_, hexec, by rw [hmot]; rfl, by rw [hmot]; rfl, by rw [hmot, hlast]; rfl, by rw [hmot]; rfl, by rw [hmot]; rfl, by rw [hmot]; rfl,
          by rw [hmot]; rfl, hylamps, fun _ => ⟨_, List.getLast?_concat, rfl, ?_, ?_, hfirst, ?_, rfl, rfl⟩, fun hne => absurd hh hne⟩
        · rw [hy, hd]; exact houtcome
        · rw [if_neg (by rw [hk]; nofun), hy]; exact hcounts
        · refine if_neg ?_
          rw [hy]
          exact fun h => nomatch hleaving.symm.trans h
      · rw [hstays (by rw [hd]; exact hh)] at hexec
        refine ⟨y, hexec, by rw [hymotion]; rfl, by rw [hymotion]; rfl, by rw [hymotion, hlast]; rfl, by rw [hymotion]; rfl, by rw [hymotion]; rfl,
          by rw [hymotion]; rfl, by rw [hymotion]; rfl, hylamps, fun h0 => absurd h0 hh, fun _ => ?_⟩
        rw [hy, hd]
        exact ⟨hleaving, hj, rfl, rfl, rfl, hcounts, rfl, rfl⟩
  case sensedHalted =>
    have hnot : s.pass.state ≠ .halted := by
      rcases hcases with ⟨-, hstate, -⟩ | ⟨-, hstate, -⟩ <;> rw [hstate] <;> nofun
    have hstopped (hk : o.kind = .load ∨ o.kind = .ret) : { (s.orderDone o).motion.stopping s.params.moveLimit s.now with
        homeRequest := false, unsure := (s.orderDone o).motion.unsure, expect := .none } = { s.sensedMotion o with homeRequest := false } :=
      congrArg (fun m : Motion => { m with homeRequest := false }) (orderDone_fatal hk hstop)
    have hsensed : ∃ v, exec (.motionReport (reportBytes 17 o.number)) s = .next (fatalLeave v)
        ∧ HaltedFirst s (fatalLeave v) .plateSense s.pass.state (some j.number) none
        ∧ (fatalLeave v).motion = { s.sensedMotion o with homeRequest := false } ∧ (fatalLeave v).faults.raised = s.faults.raised
        ∧ (fatalLeave v).lamps = s.lamps.dark
        ∧ (s.pass.handedOver = 0 → (fatalLeave v).pass.job = none
            ∧ ∃ e : HistoryEntry, (fatalLeave v).queue.history.getLast? = some e ∧ e.number = j.number ∧ e.outcome = .failed
              ∧ e.counts = (if o.kind = .load then s.pass.counts else closed) ∧ e.firstFault = some (s.faults.jobMark.getD .plateSense))
        ∧ (s.pass.handedOver ≠ 0 → (fatalLeave v).pass = s.pass.halting.leaving.closed total ∧ (fatalLeave v).queue = s.queue) := by
      rcases hcases with ⟨hk, hstate, hp, hplate, hh⟩ | ⟨hk, hstate, hstep, hp, hplate, hl⟩
      · rw [passOrderDone_loading (s := s.orderDone o) hstate, (loadDone_eq s o).1 hp, plateSense] at hexec
        have hearly := takeAhead_early (s := s.orderDone o) (j := j) hesc (s.orderDone o).passCtx hnot hj ht hh hplate
        generalize takeAhead (raiseFault .plateSense (s.orderDone o).passCtx (s.orderDone o)) = u at hearly hexec
        obtain ⟨expect, hm⟩ := hearly.motion
        obtain ⟨hfirst, hmot, hraised, hlamps, hjob, e, hlast', hnumber, houtcome, hcounts, hkind⟩ := hearly.leaves (v := u)
          (unsure := (s.orderDone o).motion.unsure) (expect := expect) hj ht hh hplate (congrArg (fun m => { u with motion := m }) hm)
        refine ⟨u, hexec, hfirst, hmot.trans (hstopped (.inl hk)), hraised, hlamps, fun _ => ⟨hjob, e, hlast', hnumber, houtcome, ?_, hkind⟩,
          fun hne => absurd hh hne⟩
        rw [if_pos hk]
        exact hcounts
      · have hahead := takeAhead_onTable (s := s.orderDone o) (j := j) hesc (s.orderDone o).passCtx hnot hj hplate hl hnone
        have hdone := (returnDone_eq (s.orderDone o)).2 hp (by rw [hahead.job]; nofun)
        rw [passOrderDone_returning (s := s.orderDone o) hstate, returningDone_handling (s := s.orderDone o) hstep, hdone] at hexec
        generalize takeAhead (raiseFault .plateSense (s.orderDone o).passCtx (s.orderDone o)) = u at hahead hexec
        obtain ⟨hfirst, hmot, hraised, hlamps, -, hstays, hends⟩ := hahead.leaves (v := { u with pass.plate := .left }) (plate := .left)
          (unsure := (s.orderDone o).motion.unsure) (expect := (s.orderDone o).motion.expect) (.inr rfl)
          (congrArg (fun m => { u with motion := m, pass.plate := .left }) hahead.motion)
        have hpass : (s.orderDone o).pass.halting.abandoned j.record.tiles = s.pass.halting.leaving.closed total := by
          rw [htiles]
          exact Pass.abandoned_untiled (p := s.pass.halting) ht total
        have htile : (s.orderDone o).pass.tile.map (fun t => (t.row, t.col)) = none := congrArg (Option.map _) ht
        rw [htile] at hfirst
        rw [hpass] at hstays hends
        refine ⟨_, hexec, hfirst, hmot.trans (hstopped (.inr hk)), hraised, hlamps, fun hh => ?_, hstays⟩
        obtain ⟨hjob, -, e, hlast', hnumber, houtcome, hcounts, hkind⟩ := hends hh
        refine ⟨hjob, e, hlast', hnumber, houtcome, hcounts.trans ?_, hkind⟩
        rw [if_neg (by rw [hk]; nofun), hclosed]
        rfl
    obtain ⟨v, hexec, hfirst, hmot, hraised, hlamps, hends, hstays⟩ := hsensed
    refine ⟨_, hexec, hfirst, by rw [hmot]; rfl, by rw [hmot, hlast]; rfl, by rw [hmot]; rfl, by rw [hmot]; rfl, by rw [hmot]; rfl, by rw [hmot]; rfl,
      hlamps, hraised, hends, fun hh => ?_⟩
    obtain ⟨hpass, hqueue⟩ := hstays hh
    rw [hpass]
    refine ⟨hj, rfl, rfl, rfl, ?_, hqueue⟩
    rw [hclosed]
    rfl
  case finishing =>
    rw [hexec, passOrderDone_returning (s := s.orderDone o) hstate, returningDone_handling (s := s.orderDone o) hstep, (returnDone_eq (s.orderDone o)).1 hp,
      jobEndCheck_stays (.inr (.inr (.inl (by exact hh))))]
    unfold State.orderDone Motion.orderEnded
    dsimp only
    rw [hk, hlast]
    rfl
  case ends =>
    obtain ⟨y, hy⟩ : ∃ y : State, y = { s.orderDone o with pass.plate := .returned, pass.state := .finishing, pass.step := .none } := ⟨_, rfl⟩
    have hends : jobEndCheck y = endJob false y := by
      refine jobEndCheck_ends ?_ ?_ ?_ (passOrder_of_none ?_) ?_
      all_goals rw [hy]
      · exact fun h => nomatch hj.symm.trans h
      · exact ht
      · exact hh
      · rfl
      · rfl
    rw [passOrderDone_returning (s := s.orderDone o) hstate, returningDone_handling (s := s.orderDone o) hstep,
        (returnDone_eq (s.orderDone o)).1 hp, ← hy, hends] at hexec
    obtain ⟨x, hx, hended, -⟩ := endJob_ends (s := y) (j := j) (by rw [hy]; exact hj) false
    have hfirst := hx.first
    have houtcome := outcome_endsAs y
    rw [hended] at hexec
    rw [hy] at hfirst houtcome
    have hposition : (s.orderDone o).motion.position = o.savedPosition := Motion.orderEnded_position (.inr hk) _
    have hylink : y.link = s.link := by rw [hy]; rfl
    refine ⟨_, y.entryOf j y.outcome x.fault.first, x.fault.first, y.outcome, hexec, ?_, ?_, hfirst, ?_, ?_, ?_, fun hroom => ?_, fun hfull => ?_,
      ?_, rfl, rfl, rfl, rfl, rfl, rfl, rfl, rfl, ?_, rfl, ?_, hx.jobMark, rfl, rfl, fun b f hf => ?_, fun hload hopened => ?_, ?_, ?_, ?_, ?_, ?_⟩
    · rw [hy]; rfl
    · rw [hy]; exact houtcome
    · rw [hy]; rfl
    · rw [hy]; rfl
    · rw [hy]
      change runAfterJob false s.queue.run = _
      cases s.queue.run <;> rfl
    · exact ended_plateDone hx.notices (by rw [hylink]; exact hroom)
    · rw [← hylink] at hfull ⊢
      exact ended_full hfull
    · rw [hy]; rfl
    · rw [hy]; rfl
    · rw [hy]; exact hposition
    · have hyflat : y.flat b = s.flat b := by rw [hy]; cases b <;> rfl
      have hused : y.pass.banksUsed = s.pass.banksUsed := by rw [hy]; rfl
      rw [← hused]
      exact ended_flat (by rw [hyflat]; exact hf)
    · rw [hy]
      exact ⟨if_pos ⟨hload, hopened⟩, rfl⟩
    all_goals rw [hy]; rfl
  case emptyHalted =>
    obtain ⟨d, hd, hemptied⟩ := exec_loadEmpty hrx herr ho hn hlive hk
    have hnot : d.pass.state ≠ .halted := by
      rw [hd]
      exact fun h => nomatch hstate.symm.trans h
    have hdposition : d.motion.position = o.savedPosition := by
      rw [hd]
      exact Motion.orderEnded_position (.inl hk) _
    obtain ⟨u, hu⟩ : ∃ u, u = takeAhead (raiseFault .slotEmpty ⟨d.jobCtx, none, none, none⟩ d) := ⟨_, rfl⟩
    have hdpass : d.pass = s.pass := by rw [hd]
    have hdfaults : d.faults = s.faults := by rw [hd]
    have hearly : d.HaltedEarly u .slotEmpty j := hu ▸ takeAhead_early (by rw [hd]; exact hesc) _ hnot (hdpass ▸ hj) (hdpass ▸ ht) (hdpass ▸ hh)
      (hdpass ▸ hplate)
    have hufirst : HaltedFirst s u .slotEmpty .loading (some j.number) none := by
      have hfirst := hearly.first
      rw [hdpass, hstate] at hfirst
      rw [hd] at hfirst
      exact hfirst
    have huraised : u.faults.raised = s.faults.raised := by rw [hearly.raised, hdfaults]
    obtain ⟨expect, hmotion⟩ := hearly.motion
    have huposition : u.motion.position = o.savedPosition := by
      rw [hmotion]
      exact hdposition
    rcases hearly.cases with ⟨hpass, hjobMark, hqueue⟩ | ⟨hmark, hjob, e, hlast', hnumber, houtcome, hcounts, hkind⟩
    · rw [hdpass] at hpass
      rw [hdfaults] at hjobMark
      have hwork : u.workDone = true := by
        rw [State.workDone, State.jobActive, passOrder_of_none (by rw [hmotion]; rfl), hpass]
        change (s.pass.job.isSome && decide (s.pass.tile = none ∧ s.pass.handedOver = 0) && !false) = true
        rw [hj, decide_eq_true ⟨ht, hh⟩]
        rfl
      rw [(loadEmpty_eq hu).2.1 (by rw [hpass]; rfl) hwork] at hemptied
      obtain ⟨y, hy⟩ : ∃ y : State, y = { u with pass.mark := some (u.pass.mark.getD .slotEmpty) } := ⟨_, rfl⟩
      rw [← hy] at hemptied
      have hyjob : y.pass.job = some j := by rw [hy]; exact (congrArg Pass.job hpass).trans hj
      have hymark : y.faults.jobMark = some (s.faults.jobMark.getD .slotEmpty) := by rw [hy]; exact hjobMark
      have hyfirst : HaltedFirst s y .slotEmpty .loading (some j.number) none := by rw [hy]; exact hufirst
      have houtcome := outcome_endsAs y
      have hypass : y.pass = { s.pass.halting with mark := some (s.pass.mark.getD .slotEmpty) } := by
        rw [hy]
        dsimp only
        rw [hpass]
        rfl
      obtain ⟨x, hx, hended, -⟩ := endJob_ends hyjob false
      have hends := hyfirst.endJob hyjob (.inl (by rw [hymark]; nofun)) false
      have hkept := hx.kept (.inl (by rw [hymark]; nofun))
      rw [hended] at hemptied hends
      rw [hypass] at houtcome
      refine ⟨_, _, hemptied, hends, List.getLast?_concat, rfl, houtcome, hx.marked _ hymark, ?_, rfl, ?_⟩
      · refine (congrArg Faults.raised hkept).trans ?_
        rw [hy]
        exact huraised
      · rw [hy]
        exact huposition
    · rw [(loadEmpty_eq hu).1 hjob] at hemptied
      rw [hdpass] at hmark hcounts
      rw [hdfaults] at hkind
      refine ⟨u, e, hemptied, hufirst, hlast', hnumber, ?_, hkind, huraised, hjob, huposition⟩
      rw [hmark, houtcome]
      rfl
  case empty =>
    obtain ⟨d, hd, hemptied⟩ := exec_loadEmpty hrx herr ho hn hlive hk
    obtain ⟨u, hu⟩ : ∃ u, u = takeAhead (raiseFault .slotEmpty ⟨d.jobCtx, none, none, none⟩ d) := ⟨_, rfl⟩
    have hraise : u = raiseFault .slotEmpty ⟨some (j.number, j.record.plateId), none, none, none⟩ d := by
      have hctx : d.jobCtx = some (j.number, j.record.plateId) := by
        rw [hd, State.jobCtx]
        exact congrArg (Option.map _) hj
      rw [hu, takeAhead_of_none _ (by rw [hd]; exact hahead), hctx]
    have hupass : u.pass = s.pass := by rw [hraise, hd]; rfl
    rw [(loadEmpty_eq hu).2.2 (by rw [hupass, hj]; nofun) (by rw [hupass, hstate]; nofun)] at hemptied
    obtain ⟨y, hy⟩ : ∃ y : State, y = { u with pass.mark := some (u.pass.mark.getD .slotEmpty) } := ⟨_, rfl⟩
    have hypass : y.pass = { s.pass with mark := some (s.pass.mark.getD .slotEmpty) } := by
      rw [hy]
      dsimp only
      rw [hupass]
    have hends : jobEndCheck y = endJob false y := by
      refine jobEndCheck_ends (by rw [hypass]; exact fun h => nomatch hj.symm.trans h) (by rw [hypass]; exact ht) (by rw [hypass]; exact hh)
        (passOrder_of_none (by rw [hy, hraise, hd]; rfl)) ?_
      rw [State.plateLetsEnd, hypass]
      dsimp only
      rw [hstate, hplate]
      rfl
    rw [← hy, hends] at hemptied
    obtain ⟨x, hx, hended, -⟩ := endJob_ends (s := y) (j := j) (by rw [hypass]; exact hj) false
    have hfirst := hx.first
    have houtcome := outcome_endsAs y
    rw [hypass] at houtcome
    rw [hended] at hemptied
    rw [hy, hraise, hd] at hfirst
    refine ⟨_, _, hemptied, List.getLast?_concat, rfl, houtcome, hfirst, ?_, rfl, ?_, ?_⟩
    · refine if_neg ?_
      rw [hypass]
      exact fun h => nomatch hstate.symm.trans h
    · rw [hy, hraise, hd]; rfl
    · rw [hy, hraise, hd]
      exact Motion.orderEnded_position (.inl hk) { s.motion with last := some ⟨.empty, o.number, s.time.count, true⟩ }

end Sys2Proof.Machine
end

section
/-! The matching of reports (R135, R137, R201); O50. -/
namespace Sys2Proof.Machine
open Sys2Proof

/-! ### Reports of an order (R135) -/

/-- DONE of any order. -/
theorem exec_done {s : State} {o : Order} (hrx : s.motion.rxBytes = []) (herr : s.motion.rxError = false) (ho : s.motion.order = some o)
    (hn : o.number < 256) (hlive : o.awaitingReissue = false) :
    (o.requester = .calibration → exec (.motionReport (reportBytes 17 o.number)) s = .next (calOrderDone (s.orderDone o)))
    ∧ (o.requester = .homeRequest → exec (.motionReport (reportBytes 17 o.number)) s = .next (endHome .success none (s.orderDone o))) := by
  rw [exec_report (kind := .done) hrx herr hn (by decide), (takeReport_order ho hlive).1, Machine.orderDone, endOrder_eq]
  exact ⟨fun h => by rw [h]; rfl, fun h => by rw [h]; rfl⟩

/-- A MOVE that ends DONE: the position is its target. -/
theorem orderDone_move {s : State} {o : Order} (hk : o.kind = .move) : s.orderDone o = { s with
    motion := { s.motion with
      last := some ⟨.done, o.number, s.time.count, true⟩, order := none, position := some (o.arg1, o.arg2) } } := by
  unfold State.orderDone Motion.orderEnded
  dsimp only
  rw [hk]
  rfl

/-- A HOME that ends DONE: the position is (0, 0), and positioner-unsure clear. -/
theorem orderDone_home {s : State} {o : Order} (hk : o.kind = .home) : s.orderDone o = { s with
    motion := { s.motion with
      last := some ⟨.done, o.number, s.time.count, true⟩, order := none, position := some (0, 0), unsure := false } } := by
  unfold State.orderDone Motion.orderEnded
  dsimp only
  rw [hk]
  rfl

/-! ### Reports of the STOP, and reports that match nothing (R135) -/

theorem liveOrder_filter_none {s : State} {number : Nat} (h : ∀ o, s.motion.order = some o → o.number ≠ number ∨ o.awaitingReissue = true) :
    s.liveOrder.filter (fun p => decide (p.number = number)) = none := by
  rw [State.liveOrder]
  cases ho : s.motion.order with
  | none => rfl
  | some o =>
    rcases h o ho with hne | ha
    · cases ha : o.awaitingReissue <;> simp [Option.filter, ha, hne]
    · simp [Option.filter, ha]

/-- DONE, STOPPED or HALTED with the STOP's number. -/
theorem takeReport_stop {s : State} {st : StopOrder} {kind : ReportKind} (hst : s.motion.stop = some st)
    (h : ∀ o, s.motion.order = some o → o.number ≠ st.number ∨ o.awaitingReissue = true) (hk : kind ≠ .empty) :
    takeReport kind st.number s = completeStop (decide (kind = .halted)) (s.reported kind st.number true) := by
  have hmatch : matchReport kind st.number s = .stopDone (decide (kind = .halted)) := by
    unfold matchReport
    rw [liveOrder_filter_none h, hst]
    cases kind
    case empty => exact absurd rfl hk
    all_goals simp [Option.filter]
  unfold takeReport
  dsimp only
  rw [takeReport_eq hmatch nofun, hmatch]

theorem takeReport_nothing {s : State} {kind : ReportKind} {number : Nat} (h : MatchesNothing s kind number) :
    takeReport kind number s = discardReport (s.reported kind number false) := by
  have hmatch : matchReport kind number s = .nothing := by
    unfold matchReport
    rcases h with ⟨o, ho, hlive, hnumber, hk⟩ | ⟨horder, hstop⟩
    · have hfound : s.liveOrder.filter (fun p => decide (p.number = number)) = some o := by
        rw [State.liveOrder, ho]
        simp [Option.filter, hlive, hnumber]
      rw [hfound]
      rcases hk with rfl | ⟨rfl, hload⟩
      · rfl
      · exact if_neg hload
    · rw [liveOrder_filter_none horder]
      dsimp only
      cases hst : s.motion.stop with
      | none => rfl
      | some st =>
        rcases hstop with hne | rfl
        · simp [Option.filter, hne st hst]
        · by_cases hn : st.number = number <;> simp [Option.filter, hn]
  have hnote : noteReport kind number s = s.reported kind number false := by
    unfold noteReport
    rw [hmatch]
    rfl
  unfold takeReport
  dsimp only
  rw [hnote, hmatch]

/-! ### Records that break the layout (R201) -/

theorem reportOfCode_eq_none {b : Byte} (h : b ∉ [17#8, 18#8, 19#8, 20#8]) : reportOfCode b.toNat = none := by
  have hne (n : Nat) (hn : BitVec.ofNat 8 n ∈ [17#8, 18#8, 19#8, 20#8]) : b.toNat ≠ n := fun he => h (by
    rw [← he, BitVec.ofNat_toNat, BitVec.setWidth_eq] at hn
    exact hn)
  unfold reportOfCode
  split
  · next he => exact absurd he (hne 17 (by decide))
  · next he => exact absurd he (hne 18 (by decide))
  · next he => exact absurd he (hne 19 (by decide))
  · next he => exact absurd he (hne 20 (by decide))
  · rfl

theorem admitRecord_eq_none {bytes : List Byte} {err : Bool} (h : err = true ∨ bytes.getD 1 0#8 ∉ [17#8, 18#8, 19#8, 20#8]
    ∨ (bytes.getD 9 0#8).toNat ≠ (((bytes.drop 1).take 8).map BitVec.toNat).sum % 256) : admitRecord bytes err = none := by
  unfold admitRecord
  rcases h with rfl | h | h
  · exact if_neg fun hc => nomatch hc.1
  · rw [reportOfCode_eq_none h]
    split <;> rfl
  · refine if_neg fun hc => h ?_
    rw [hc.2, checkByte, BitVec.toNat_ofNat]

/-! ### The whole table -/

theorem freePlane_none_iff (s : State) : s.freePlane.isNone = true ↔ s.merge.p1 ≠ none ∧ s.merge.p2 ≠ none := by
  unfold State.freePlane allPlanes
  simp [State.plane, List.find?_eq_none]

/-- Settles O50. -/
theorem reportsAreMatchedByNumber : Obligations.ReportsAreMatchedByNumber := by
  intro s number hrx herr hn
  have hstopKinds {code : Nat} {kind : ReportKind} (h : (code, kind) ∈ [(17, ReportKind.done), (19, .halted), (20, .stopped)]) :
      (code, kind) ∈ [(17, ReportKind.done), (18, .empty), (19, .halted), (20, .stopped)] ∧ kind ≠ .empty := by
    simp only [List.mem_cons, Prod.mk.injEq, List.not_mem_nil, or_false] at h ⊢
    rcases h with ⟨rfl, rfl⟩ | ⟨rfl, rfl⟩ | ⟨rfl, rfl⟩ <;> simp
  refine ⟨fun o tile ho hlive hnumber hk hreq hstate ht hsettle => ?moved, fun o c ho hlive hnumber hreq hcal => ⟨fun hk hphase hstop => ?homed,
    fun hk hphase => ?positioned⟩, fun o ho hlive hnumber hk hreq hhome => ?home, fun o ho hlive hnumber hstop => ?fails,
    fun st code kind ho hst hnumber hcode => ?stop, fun st o code kind hst hnumber hr ho hawait hk hcode => ?reissue,
    fun code kind hcode hmatch => ?nothing, fun rx hlen hstart hbad => ?bad⟩
  case moved =>
    subst hnumber
    have hmoved : passOrderDone (s.orderDone o) = tileMoved (s.orderDone o) := by
      rw [passOrderDone, show (s.orderDone o).pass.state = .walking from hstate]
    have htaken : tileMoved (s.orderDone o) = { s.orderDone o with
        pass.tile := some { tile with phase := if s.freePlane.isNone then .waitPlane else .moving, moveDone := true } } := by
      unfold tileMoved
      rw [show (s.orderDone o).pass.settle = none from hsettle, show (s.orderDone o).pass.tile = some tile from ht]
      rfl
    rw [exec_passDone hrx herr ho hn hlive hreq, hmoved, htaken, orderDone_move hk]
    by_cases hp : s.freePlane.isNone = true
    · rw [if_pos hp, if_pos ((freePlane_none_iff s).mp hp)]
    · rw [if_neg hp, if_neg fun h => hp ((freePlane_none_iff s).mpr h)]
  case homed =>
    subst hnumber
    have hnext : calOrderDone (s.orderDone o) = wantOrder ⟨.move, c.calX, c.calY, .calibration⟩
        { s.orderDone o with cal.cal := some { c with phase := .positioning } } := by
      unfold calOrderDone
      rw [show (s.orderDone o).cal.cal = some c from hcal]
      dsimp only
      rw [hphase]
      rfl
    rw [(exec_done hrx herr ho hn hlive).1 hreq, hnext, wantOrder_free (by rfl) (by exact hstop), issueOrder_move, orderDone_home hk]
    rfl
  case positioned =>
    subst hnumber
    have hnext : calOrderDone (s.orderDone o) = { s.orderDone o with cal.cal := some { c with phase := .capturing, due := true } } := by
      unfold calOrderDone
      rw [show (s.orderDone o).cal.cal = some c from hcal]
      dsimp only
      rw [hphase]
    rw [(exec_done hrx herr ho hn hlive).1 hreq, hnext, orderDone_move hk]
  case home =>
    subst hnumber
    rw [(exec_done hrx herr ho hn hlive).2 hreq, orderDone_home hk, endHome, if_pos (by exact hhome), postNotice_eq]
    rfl
  case fails =>
    subst hnumber
    refine orderFails_of ?_ hstop
    rw [exec_report (kind := .halted) hrx herr hn (by decide), (takeReport_order ho hlive).2.2]
    rfl
  case stop =>
    subst hnumber
    rw [exec_report hrx herr hn (hstopKinds hcode).1,
      takeReport_stop hst (fun o h => nomatch ho.symm.trans h) (hstopKinds hcode).2,
      (completeStop_eq (s := s.reported kind st.number true) hst (decide (kind = .halted))).1 (.inl ho)]
    rfl
  case reissue =>
    subst hnumber
    rw [exec_report hrx herr hn (hstopKinds hcode).1, takeReport_stop hst (fun p h => .inr (by cases ho.symm.trans h; exact hawait)) (hstopKinds hcode).2,
      completeStop_reissues (s := s.reported kind st.number true) hst hr ho hk]
    rfl
  case nothing =>
    rw [exec_report hrx herr hn hcode, takeReport_nothing hmatch]
    rfl
  case bad =>
    rw [exec_motionReport hrx herr hlen hstart, admitRecord_eq_none (hbad.imp_left fun h => by simpa using h)]
    rfl

end Sys2Proof.Machine
end
